-- ==== Sys2Proof/Word.lean ====
section
/-! DEFINITION. The words and the small fixed-size containers every other file of the model uses. -/

namespace Sys2Proof

/-- One byte of a frame. -/
abbrev Byte := BitVec 8

/-- A reading of station time (ms) or of the capture clock (µs): both wrap modulo 2³² (R1, R2). -/
abbrev Time := BitVec 32

/-- One of a pair: pump A or B, pulse channel A or B, line AUX1 or AUX2. -/
inductive Side where
  | a
  | b
deriving DecidableEq, Repr

/-- A run position, 0 to 3. -/
abbrev RunId := Fin 4

/-- The four run positions in order. -/
def runIds : List RunId := [0, 1, 2, 3]

/-- A thing held once for each of a pair. -/
structure Two (α : Type) where
  a : α
  b : α
deriving DecidableEq, Repr

/-- A thing held once for each run position. -/
structure Four (α : Type) where
  r0 : α
  r1 : α
  r2 : α
  r3 : α
deriving DecidableEq, Repr

/-- Five of a thing, by position. -/
structure Five (α : Type) where
  c0 : α
  c1 : α
  c2 : α
  c3 : α
  c4 : α
deriving DecidableEq, Repr

/-- A thing held once for each monitor M0..M15: M0..M3 rates, M4..M7 pressures, M8..M11 temperatures,
then M12 to M15 (R150). -/
structure Sixteen (α : Type) where
  rate : Four α
  pressure : Four α
  temperature : Four α
  station : Four α
deriving DecidableEq, Repr

/-- The other one of a pair. -/
def Side.other : Side → Side
  | .a => .b
  | .b => .a

def Two.both {α : Type} (x : α) : Two α := ⟨x, x⟩

def Two.get {α : Type} (t : Two α) : Side → α
  | .a => t.a
  | .b => t.b

def Two.set {α : Type} (t : Two α) (i : Side) (x : α) : Two α :=
  match i with
  | .a => { t with a := x }
  | .b => { t with b := x }

def Two.modify {α : Type} (t : Two α) (i : Side) (f : α → α) : Two α := t.set i (f (t.get i))

def Two.map {α β : Type} (f : α → β) (t : Two α) : Two β := ⟨f t.a, f t.b⟩

def Four.all {α : Type} (x : α) : Four α := ⟨x, x, x, x⟩

def Four.tabulate {α : Type} (f : RunId → α) : Four α := ⟨f 0, f 1, f 2, f 3⟩

def Four.get {α : Type} (t : Four α) (r : RunId) : α :=
  match r with
  | 0 => t.r0
  | 1 => t.r1
  | 2 => t.r2
  | 3 => t.r3

def Four.set {α : Type} (t : Four α) (r : RunId) (x : α) : Four α :=
  match r with
  | 0 => { t with r0 := x }
  | 1 => { t with r1 := x }
  | 2 => { t with r2 := x }
  | 3 => { t with r3 := x }

def Four.modify {α : Type} (t : Four α) (r : RunId) (f : α → α) : Four α := t.set r (f (t.get r))

def Four.map {α β : Type} (f : α → β) (t : Four α) : Four β := ⟨f t.r0, f t.r1, f t.r2, f t.r3⟩

def Four.toList {α : Type} (t : Four α) : List α := [t.r0, t.r1, t.r2, t.r3]

/-- The element at a position; positions past the last give the last. -/
def Four.nth {α : Type} (t : Four α) : Nat → α
  | 0 => t.r0
  | 1 => t.r1
  | 2 => t.r2
  | _ => t.r3

def Five.map {α β : Type} (f : α → β) (t : Five α) : Five β :=
  ⟨f t.c0, f t.c1, f t.c2, f t.c3, f t.c4⟩

def Five.toList {α : Type} (t : Five α) : List α := [t.c0, t.c1, t.c2, t.c3, t.c4]

/-- The element at a position; positions past the last give the last. -/
def Five.nth {α : Type} (t : Five α) : Nat → α
  | 0 => t.c0
  | 1 => t.c1
  | 2 => t.c2
  | 3 => t.c3
  | _ => t.c4

def Sixteen.all {α : Type} (x : α) : Sixteen α := ⟨.all x, .all x, .all x, .all x⟩

/-- The place of a monitor in its group of four. -/
def monitorPlace (m : Fin 16) : RunId := ⟨m.val % 4, Nat.mod_lt _ (by decide)⟩

def Sixteen.get {α : Type} (t : Sixteen α) (m : Fin 16) : α :=
  match m.val / 4 with
  | 0 => t.rate.get (monitorPlace m)
  | 1 => t.pressure.get (monitorPlace m)
  | 2 => t.temperature.get (monitorPlace m)
  | _ => t.station.get (monitorPlace m)

def Sixteen.set {α : Type} (t : Sixteen α) (m : Fin 16) (x : α) : Sixteen α :=
  match m.val / 4 with
  | 0 => { t with rate := t.rate.set (monitorPlace m) x }
  | 1 => { t with pressure := t.pressure.set (monitorPlace m) x }
  | 2 => { t with temperature := t.temperature.set (monitorPlace m) x }
  | _ => { t with station := t.station.set (monitorPlace m) x }

def Sixteen.map {α β : Type} (f : α → β) (t : Sixteen α) : Sixteen β :=
  ⟨t.rate.map f, t.pressure.map f, t.temperature.map f, t.station.map f⟩

end Sys2Proof
end

