-- ==== Sys2Proof/Syntax.lean ====
section
/-! DEFINITION. The commands of the block, one constructor per row of spec/opcode_table.json. -/

namespace Sys2Proof

/-- The level of the custody switch contact (R36). -/
inductive SwitchLevel where
  | closed
  | opened
deriving DecidableEq, Repr

/-- A byte on the line, with the time in µs that has passed since the byte before it was taken (R180). -/
structure LineByte where
  gap : Nat
  byte : Byte
deriving DecidableEq, Repr

/-- Bytes on the line, and the time in µs that passes after the last of them without another (R180). -/
structure BytesThenGap where
  bytes : List LineByte
  gap : Nat
deriving DecidableEq, Repr

/-- The commands. `after` is the time in µs that has passed since the step before (log entry 1).
A request carries the tag and the payload bytes of its frame (R179). -/
inductive Instr where
  | powerOn (after : Nat)
  | powerFailWarning (after : Nat)
  | pfwRise (after : Nat)
  | restartBegin (after : Nat)
  | warmupEnd (after : Nat)
  | boundary (after : Nat)
  | pulseEdge (after : Nat) (run : RunId) (channel : Side)
  | pulseHoldOffEnd (after : Nat) (run : RunId) (channel : Side)
  /-- `current` is the loop current delivered, in µA (R31). -/
  | conversionCompletion (after : Nat) (current : Nat)
  | senseEdge (after : Nat) (pump : Side)
  | senseHoldOffEnd (after : Nat) (pump : Side)
  | driveEnd (after : Nat) (pump : Side)
  | recentDriveEnd (after : Nat)
  | trimHoldOffEnd (after : Nat)
  | strokeEntryDue (after : Nat) (id : Fin 8)
  | confirmEntryDue (after : Nat) (id : Fin 8)
  | auxOnEntryDue (after : Nat) (id : Fin 8)
  | auxOffEntryDue (after : Nat) (id : Fin 8)
  | closePeriodEntryDue (after : Nat) (id : Fin 8)
  | timerNoticeEntryDue (after : Nat) (id : Fin 8)
  | storeWriteComplete (after : Nat)
  /-- `bytes` are the bytes taken before the gap, with the gap itself (R180). -/
  | receiveTimeout (after : Nat) (bytes : BytesThenGap)
  /-- `bytes` are the bytes taken, the last of them the one at which the frame fails (R180). -/
  | frameCheckFail (after : Nat) (bytes : List LineByte)
  | frameSent (after : Nat)
  | unknownKindRequest (after : Nat) (kind tag : Byte) (payload : List Byte)
  | ident (after : Nat) (tag : Byte) (payload : List Byte)
  /-- `custody` is the level the contact shows as the reply is built (R36). -/
  | stationStatus (after : Nat) (tag : Byte) (payload : List Byte) (custody : SwitchLevel)
  | runStatus (after : Nat) (tag : Byte) (payload : List Byte)
  | doseStatus (after : Nat) (tag : Byte) (payload : List Byte)
  | monitorStatus (after : Nat) (tag : Byte) (payload : List Byte)
  | periodRead (after : Nat) (tag : Byte) (payload : List Byte)
  | tableRead (after : Nat) (tag : Byte) (payload : List Byte)
  | sectionRead (after : Nat) (tag : Byte) (payload : List Byte)
  | runOpen (after : Nat) (tag : Byte) (payload : List Byte)
  | runClose (after : Nat) (tag : Byte) (payload : List Byte)
  | periodClose (after : Nat) (tag : Byte) (payload : List Byte)
  | gasQuality (after : Nat) (tag : Byte) (payload : List Byte)
  | analyserReading (after : Nat) (tag : Byte) (payload : List Byte)
  | doseMode (after : Nat) (tag : Byte) (payload : List Byte)
  | manualStroke (after : Nat) (tag : Byte) (payload : List Byte)
  | pumpReset (after : Nat) (tag : Byte) (payload : List Byte)
  | eventClear (after : Nat) (tag : Byte) (payload : List Byte)
  | limitLock (after : Nat) (tag : Byte) (payload : List Byte)
  | schedule (after : Nat) (tag : Byte) (payload : List Byte)
  | cancel (after : Nat) (tag : Byte) (payload : List Byte)
  | sectionWrite (after : Nat) (tag : Byte) (payload : List Byte)
  | sectionProtect (after : Nat) (tag : Byte) (payload : List Byte)
  /-- `custody` is the level the contact shows as the request is taken (R36, R171). -/
  | protectClear (after : Nat) (tag : Byte) (payload : List Byte) (custody : SwitchLevel)
  | restart (after : Nat) (tag : Byte) (payload : List Byte)
  /-- `bytes` are the bytes taken before the faulty byte (R180). -/
  | stopBitError (after : Nat) (bytes : List LineByte)
  | lossOfSupply (after : Nat)
deriving DecidableEq, Repr

end Sys2Proof
end

