-- ==== Sys2Proof/Config.lean ====
section
/-! DEFINITION. What an implementation of the part fixes and the manual leaves open: free values, with no body. -/

namespace Sys2Proof

/-- What becomes of a store item whose write is cut short. -/
inductive CutShort where
  /-- the item fails its check at the next power-on -/
  | fails
  /-- the item keeps the content it had before the write -/
  | keeps
  /-- the item holds the content being written -/
  | completes
deriving DecidableEq, Repr, Inhabited

/-- The design revision byte of IDENT, which the manual does not state (R183).
Free value, log entry 8. -/
opaque Config.designRevision : Byte

/-- What the item in progress holds when supply is lost in HALT, before the warning's store work has ended:
R173 speaks only of a loss without a power-fail warning. Applied to the free-value counter.
Free value, log entry 13. -/
opaque Config.cutShortAfterWarning : Nat → CutShort

end Sys2Proof
end

