-- ==== Sys2Proof/Machine/Blocks.lean ====
section
/-! DEFINITION. The data each block of the part owns, as plain structures; `State.lean` gathers them. -/

namespace Sys2Proof.Machine

/-! ## Time base (chapter 1) -/

/-- The states of the time base, with the power-off state of the table in section 1.2. -/
inductive Phase where
  | off
  | warmup
  | running
  | halt
deriving DecidableEq, Repr

structure TimeBase where
  phase : Phase
  stationTime : Time
  /-- µs since station time last advanced; the model's own field (log entry 1) -/
  subMs : Nat
  captureClock : Time
  warmupEnd : Time
  intervalStart : Time
  intervalIndex : Time
  periodCount : Nat
  periodOpen : Time
  haltInstant : Time
  /-- a RESTART has been answered OK and its reply is not yet sent in full (R176) -/
  restartPending : Bool
  /-- that reply has been sent in full: the restart begins (R176) -/
  restartDue : Bool
  /-- PFW has risen in HALT: a restart from HALT begins once the store work has ended (R177) -/
  riseHeld : Bool
deriving DecidableEq, Repr

/-! ## Pulse front end (sections 2.1, 2.2) -/

structure PulseRun where
  count : Two Nat
  /-- the capture time of the accepted edge that started the running hold-off; `none` when ended (R19) -/
  holdOff : Two (Option Time)
  /-- oldest first (R21) -/
  ring : Two (List Time)
  maintenance : Time
  consecutiveEvents : Nat
  consecutiveClean : Nat
  integrityAlarm : Bool
  lastCount : Two Nat
  lastChannel : Side
deriving DecidableEq, Repr

/-! ## Loop front end (section 2.3) -/

inductive ChannelId where
  | p (run : RunId)
  | t (run : RunId)
  | hdr
  | tank
deriving DecidableEq, Repr

inductive ChannelState where
  | valid
  | clampedLow
  | clampedHigh
  | failed
deriving DecidableEq, Repr

structure Channel where
  state : ChannelState
  latest : Option Nat
  lastGood : Option Nat
  recovery : Nat
deriving DecidableEq, Repr

inductive Converter where
  | idle
  /-- converting the channel at the scan position, with `left` µs to go (R28) -/
  | converting (position : ChannelId) (left : Nat)
deriving DecidableEq, Repr

structure LoopFront where
  p : Four Channel
  t : Four Channel
  hdr : Channel
  tank : Channel
  converter : Converter
deriving DecidableEq, Repr

/-! ## Run controller (chapter 3) -/

inductive RunState where
  | out
  | starting
  | metering
  | degraded
deriving DecidableEq, Repr

/-- The interval flags, in the order of their bits (R184). -/
structure IntervalFlags where
  settling : Bool
  estimatedP : Bool
  estimatedT : Bool
  lowRange : Bool
  overRange : Bool
  substituted : Bool
  outOfTable : Bool
  reconfig : Bool
  integrity : Bool
deriving DecidableEq, Repr

inductive SubstituteKind where
  | none
  | held
  | fallback
deriving DecidableEq, Repr

/-- A substitute with the value it stood for at the last close (R45). -/
structure Substitute where
  kind : SubstituteKind
  value : Option Nat
deriving DecidableEq, Repr

/-- The run's part of the last interval close that computed for it (R48). -/
structure LastInterval where
  state : RunState
  pUsed : Nat
  tUsed : Nat
  rate : Nat
  flags : IntervalFlags
deriving DecidableEq, Repr

structure RunControl where
  state : RunState
  settle : Nat
  closedInInterval : Bool
  stateForInterval : Option RunState
  pSubstitute : Substitute
  tSubstitute : Substitute
  last : Option LastInterval
deriving DecidableEq, Repr

/-! ## Conversion engine (chapter 4) -/

structure LastResults where
  gross : Nat
  base : Nat
  energy : Nat
  ratio : Nat
  outOfTable : Bool
deriving DecidableEq, Repr

structure StationFigures where
  base : Nat
  rate : Nat
deriving DecidableEq, Repr

structure Conversion where
  residue : Four Nat
  last : Four (Option LastResults)
  station : Option StationFigures
deriving DecidableEq, Repr

/-! ## Dose controller (chapter 5) -/

inductive DosingMode where
  | off
  | auto
  | manual
deriving DecidableEq, Repr

inductive DosingState where
  | idle
  | armed
  | strokeWait
  | confirmWait
  | manualWait
  | fault
deriving DecidableEq, Repr

inductive TrimFlag where
  | applied
  | held
  | implausible
  | notAuto
deriving DecidableEq, Repr

structure Dose where
  mode : DosingMode
  state : DosingState
  account : Nat
  residue : Nat
  trim : Nat
  /-- the end of the RUNNING trim hold-off; `none` when ENDED (R94) -/
  trimHoldOff : Option Time
  duty : Side
  lastDrive : Option Time
  recentDrive : Bool
  massInFlight : Nat
  lastReading : Option (Nat × TrimFlag)
deriving DecidableEq, Repr

/-! ## Pump units (chapter 6) -/

inductive PumpState where
  | absent
  | ready
  | driving
  | await
  | failed
deriving DecidableEq, Repr

structure Pump where
  state : PumpState
  line : Bool
  driveEnd : Option Time
  confirmedInDrive : Bool
  misses : Nat
  strays : Nat
deriving DecidableEq, Repr

/-! ## Action table (chapter 7) -/

inductive EntryOwner where
  | dosing
  | link
deriving DecidableEq, Repr

inductive EntryKind where
  | stroke
  | confirm
  | auxOn
  | auxOff
  | closePeriod
  | timerNotice
deriving DecidableEq, Repr

/-- An entry. `target` holds the code of R184: pump 0 or 1, AUX1 1, AUX2 2, 0, or the tag. -/
structure Entry where
  owner : EntryOwner
  kind : EntryKind
  target : Nat
  due : Time
deriving DecidableEq, Repr

/-- The table: place `i` of the eight holds the entry whose id is `i` (R121, R122). -/
structure ActionTable where
  places : List (Option Entry)
  aux : Two Bool
deriving DecidableEq, Repr

/-! ## Period recorder (chapter 8) -/

inductive CloseCause where
  | length
  | forced
  | restart
  | power
deriving DecidableEq, Repr

structure StrokeCounts where
  confirmed : Nat
  missed : Nat
  stray : Nat
deriving DecidableEq, Repr

/-- The dosing modes in force during a period. -/
structure ModeFlags where
  off : Bool
  auto : Bool
  manual : Bool
deriving DecidableEq, Repr

structure RunAccumulators where
  gross : Nat
  base : Nat
  energy : Nat
  sumPG : Nat
  sumTG : Nat
  metered : Nat
  flags : IntervalFlags
  integrityEvents : Nat
  peak : Nat
  lastP : Option Nat
  lastT : Option Nat
deriving DecidableEq, Repr

structure StationAccumulators where
  owed : Nat
  autoDelivered : Nat
  forgone : Nat
  surplus : Nat
  manualMass : Nat
  strokes : Two StrokeCounts
  manualMisses : Nat
  changeovers : Nat
  modes : ModeFlags
  abandoned : Bool
  accountOpen : Nat
deriving DecidableEq, Repr

/-- A 32-bit record field that is held at its top, with its SATURATED marker (R140). -/
structure Held where
  value : Nat
  saturated : Bool
deriving DecidableEq, Repr

structure RunSubRecord where
  run : RunId
  state : RunState
  gross : Held
  base : Held
  energy : Held
  /-- average pressure and temperature, or none (R140) -/
  averages : Option (Nat × Nat)
  averageRate : Held
  peak : Nat
  metered : Nat
  integrityEvents : Nat
  flags : IntervalFlags
deriving DecidableEq, Repr

structure PeriodRecord where
  sequence : Time
  cause : CloseCause
  intervals : Nat
  duration : Nat
  lastIndex : Time
  /-- the station odorant part, with the account at open -/
  station : StationAccumulators
  trim : Nat
  accountClose : Nat
  runs : List RunSubRecord
deriving DecidableEq, Repr

structure Totals where
  gross : Nat
  grossResidue : Nat
  base : Nat
  baseResidue : Nat
  energy : Nat
  energyResidue : Nat
deriving DecidableEq, Repr

structure Recorder where
  runs : Four RunAccumulators
  station : StationAccumulators
  /-- interval index of the last interval counted into the period, 0 when none (R139) -/
  lastIndex : Time
  /-- newest first (R141) -/
  ring : List PeriodRecord
  lastSequence : Option Time
  storedThrough : Option Time
  totals : Four Totals
deriving DecidableEq, Repr

/-! ## Limit monitors (chapter 9) -/

inductive MonitorMode where
  | follow
  | latch
  | criticalOnly
deriving DecidableEq, Repr

structure MonitorSettings where
  enabled : Bool
  mode : MonitorMode
  low : Nat
  high : Nat
  critical : Nat
  hysteresis : Nat
deriving DecidableEq, Repr

structure MonitorState where
  low : Bool
  high : Bool
  critical : Bool
  latch : Bool
  event : Bool
  last : Option Nat
deriving DecidableEq, Repr

structure Monitors where
  each : Sixteen MonitorState
  limitLock : Bool
deriving DecidableEq, Repr

/-! ## Settings (sections 10.1 to 10.3) -/

inductive SectionId where
  | station
  | run (run : RunId)
  | odorant
  | compress
  | monitors
deriving DecidableEq, Repr

/-- A thing held once for each of the eight sections. -/
structure PerSection (α : Type) where
  station : α
  run : Four α
  odorant : α
  compress : α
  monitors : α
deriving DecidableEq, Repr

inductive PressureType where
  | abs
  | gauge
deriving DecidableEq, Repr

inductive LinkRate where
  | r9600
  | r19200
  | r38400
  | r57600
  | r115200
deriving DecidableEq, Repr

structure Build where
  runs : Nat
  pumps : Nat
  rate : LinkRate
deriving DecidableEq, Repr

inductive NoticeClass where
  | critical
  | dosing
  | run
  | limit
  | period
  | timer
deriving DecidableEq, Repr

/-- The notice class enables of STATION, in the order of their bits (R185). -/
structure NoticeEnables where
  critical : Bool
  dosing : Bool
  run : Bool
  limit : Bool
  period : Bool
  timer : Bool
deriving DecidableEq, Repr

structure StationSection where
  pb : Nat
  tb : Nat
  atmospheric : Nat
  hdrType : PressureType
  hdrLrv : Nat
  hdrUrv : Nat
  periodLength : Nat
  enables : NoticeEnables
  build : Build
deriving DecidableEq, Repr

inductive SubstitutePolicy where
  | hold
  | fallback
deriving DecidableEq, Repr

structure RunSection where
  vpp : Nat
  mf : Nat
  pType : PressureType
  pLrv : Nat
  pUrv : Nat
  tLrv : Nat
  tUrv : Nat
  fallbackP : Nat
  fallbackT : Nat
  policy : SubstitutePolicy
  qMin : Nat
  qMax : Nat
  zeroFlowTimeout : Nat
  settleTime : Nat
  tolerance : Nat
  bCheck : Bool
deriving DecidableEq, Repr

structure OdorantSection where
  target : Nat
  strokeMass : Nat
  debtLimit : Nat
  spacing : Nat
  driveWidth : Nat
  confirmWindow : Nat
  missLimit : Nat
  strayLimit : Nat
  trimHoldOff : Nat
  /-- the start mode: AUTO when set, OFF otherwise -/
  startAuto : Bool
  preferred : Side
  tankLrv : Nat
  tankUrv : Nat
deriving DecidableEq, Repr

structure CompressSection where
  pressures : Five Nat
  temperatures : Four Nat
  /-- `values.nth i |>.nth j` is F[i][j] (R60) -/
  values : Five (Four Nat)
deriving DecidableEq, Repr

abbrev MonitorsSection := Sixteen MonitorSettings

structure ActiveSections where
  station : StationSection
  run : Four RunSection
  odorant : OdorantSection
  compress : CompressSection
  monitors : MonitorsSection
deriving DecidableEq, Repr

structure StagedSections where
  station : Option StationSection
  run : Four (Option RunSection)
  odorant : Option OdorantSection
  compress : Option CompressSection
  monitors : Option MonitorsSection
deriving DecidableEq, Repr

structure Settings where
  active : ActiveSections
  staged : StagedSections
  defaulted : PerSection Bool
  unstored : PerSection Bool
  protection : PerSection Bool
  flagsUnstored : Bool
  heatingValue : Nat
  stagedHeatingValue : Option Nat
  build : Build
deriving DecidableEq, Repr

/-! ## The store (section 10.4) -/

/-- A stored item: its check word is modelled as what the check finds (R173, log entry 12). -/
inductive Stored (α : Type) where
  | absent
  | failing
  | valid (content : α)
deriving DecidableEq, Repr

/-- The content of the RESUME item (R173). -/
structure ResumeRecord where
  buildRuns : Nat
  buildPumps : Nat
  intervalCount : Nat
  elapsed : Nat
  lastIndex : Time
  runs : Four RunAccumulators
  station : StationAccumulators
  lastSequence : Option Time
  /-- newest first -/
  unstored : List PeriodRecord
  totals : Four Totals
  runStates : Four RunState
  residues : Four Nat
  account : Nat
  owedResidue : Nat
  trim : Nat
  duty : Side
  /-- the time since the last drive, or the marker that recent drive is clear (R99) -/
  driveAge : Option Nat
  pumpFailed : Two Bool
  heatingValue : Nat
deriving DecidableEq, Repr

structure StoredSections where
  station : Stored StationSection
  run : Four (Stored RunSection)
  odorant : Stored OdorantSection
  compress : Stored CompressSection
  monitors : Stored MonitorsSection
deriving DecidableEq, Repr

inductive StoreItem where
  | resume
  | ring
  | flags
  | sectionCopy (id : SectionId)
deriving DecidableEq, Repr

/-- The content of a write, taken from memory as it starts (R172). -/
inductive StoreContent where
  | resume (record : ResumeRecord)
  /-- the whole ring, with the last sequence as it then stood (R146) -/
  | ring (records : List PeriodRecord) (lastSequence : Option Time)
  | flags (flags : PerSection Bool)
  | station (copy : StationSection)
  | run (run : RunId) (copy : RunSection)
  | odorant (copy : OdorantSection)
  | compress (copy : CompressSection)
  | monitors (copy : MonitorsSection)
deriving DecidableEq, Repr

structure StoreWrite where
  content : StoreContent
  /-- µs until the write completes -/
  left : Nat
  /-- the item was added to the list again while being written (log entry 10) -/
  stale : Bool
deriving DecidableEq, Repr

/-- The store write list, a set of items (R172). -/
structure WriteList where
  resume : Bool
  ring : Bool
  flags : Bool
  sections : PerSection Bool
deriving DecidableEq, Repr

structure Store where
  sections : StoredSections
  flags : Stored (PerSection Bool)
  ring : Stored (List PeriodRecord)
  resume : Stored ResumeRecord
  list : WriteList
  writing : Option StoreWrite
  /-- the power-fail warning's RESUME write has still to start (R177) -/
  warningResume : Bool
deriving DecidableEq, Repr

/-! ## Station link (chapter 11) -/

/-- A frame's kind, tag and payload (R179). -/
structure Frame where
  kind : Byte
  tag : Byte
  payload : List Byte
deriving DecidableEq, Repr

inductive ReceiverState where
  | hunt
  | length
  | body
  | check
deriving DecidableEq, Repr

structure Receiver where
  state : ReceiverState
  /-- the bytes from length on, in the order received -/
  buffer : List Byte
deriving DecidableEq, Repr

structure Notice where
  cls : NoticeClass
  subject : Nat
deriving DecidableEq, Repr

/-- A frame on the line, with what is left of its line time in µs times bit/s (R178). -/
structure Sending where
  frame : Frame
  left : Nat
deriving DecidableEq, Repr

structure Link where
  receiver : Receiver
  /-- oldest first, the replies still waiting (R182) -/
  queue : List Frame
  /-- the pending notice set, in the order of R187 -/
  notices : List Notice
  tx : Option Sending
deriving DecidableEq, Repr

/-! ## Pins -/

structure Pins where
  /-- supply is present (R37, R175) -/
  supply : Bool
  pfwHigh : Bool
  custody : SwitchLevel
deriving DecidableEq, Repr

end Sys2Proof.Machine
end

