-- ==== Sys2Proof/Machine/Factory.lean ====
section
/-! DEFINITION. The factory defaults of the settings (R164) and the values each block starts from. -/

namespace Sys2Proof.Machine

/-! ## Factory defaults (R164, R169) -/

def factoryBuild : Build := { runs := 4, pumps := 2, rate := .r19200 }

def factoryStation : StationSection :=
  { pb := 101325, tb := 28815, atmospheric := 101325
    hdrType := .abs, hdrLrv := 0, hdrUrv := 10000000
    periodLength := 3600
    enables := ⟨true, true, true, true, true, true⟩
    build := factoryBuild }

def factoryRun : RunSection :=
  { vpp := 1000, mf := 1000000
    pType := .abs, pLrv := 0, pUrv := 10000000, tLrv := 23315, tUrv := 34315
    fallbackP := 5000000, fallbackT := 28815, policy := .hold
    qMin := 0, qMax := 100000000, zeroFlowTimeout := 60, settleTime := 10
    tolerance := 2, bCheck := false }

def factoryOdorant : OdorantSection :=
  { target := 1200, strokeMass := 250000, debtLimit := 20, spacing := 1000
    driveWidth := 150, confirmWindow := 1000, missLimit := 3, strayLimit := 3
    trimHoldOff := 600, startAuto := false, preferred := .a, tankLrv := 0, tankUrv := 10000 }

def factoryCompress : CompressSection :=
  { pressures := ⟨1000000, 2500000, 4000000, 5500000, 7000000⟩
    temperatures := ⟨26315, 27815, 29315, 30815⟩
    values := let row := Four.all 1000000
              ⟨row, row, row, row, row⟩ }

def factoryMonitor : MonitorSettings :=
  { enabled := false, mode := .follow, low := 0, high := 0, critical := 0, hysteresis := 0 }

def factorySections : ActiveSections :=
  { station := factoryStation, run := .all factoryRun, odorant := factoryOdorant
    compress := factoryCompress, monitors := .all factoryMonitor }

/-- The heating value used when the resume record is invalid (R66). -/
def factoryHeatingValue : Nat := 38000

/-! ## Sets and marks with nothing in them -/

def PerSection.all {α : Type} (x : α) : PerSection α := ⟨x, .all x, x, x, x⟩

def noneStaged : StagedSections := ⟨none, .all none, none, none, none⟩

def emptyWriteList : WriteList := ⟨false, false, false, .all false⟩

def noFlags : IntervalFlags := ⟨false, false, false, false, false, false, false, false, false⟩

def noModes : ModeFlags := ⟨false, false, false⟩

/-! ## The blocks as they start -/

/-- The pulse state of a run after power-on (R19, R21, R22, R23, R25, R26). -/
def freshPulse : PulseRun :=
  { count := .both 0, holdOff := .both none, ring := .both [], maintenance := 0
    consecutiveEvents := 0, consecutiveClean := 0, integrityAlarm := false
    lastCount := .both 0, lastChannel := .a }

/-- A loop channel after power-on and restart (R27). -/
def freshChannel : Channel := { state := .failed, latest := none, lastGood := none, recovery := 0 }

def freshLoop : LoopFront :=
  { p := .all freshChannel, t := .all freshChannel, hdr := freshChannel, tank := freshChannel
    converter := .idle }

def noSubstitute : Substitute := ⟨.none, none⟩

/-- A run that is OUT with nothing else held of it (R53, R54). -/
def freshRun : RunControl :=
  { state := .out, settle := 0, closedInInterval := false, stateForInterval := none
    pSubstitute := noSubstitute, tSubstitute := noSubstitute, last := none }

def freshConversion : Conversion := { residue := .all 0, last := .all none, station := none }

/-- The dose controller of R100 with an invalid resume record, before steps 1 to 5 of R98. -/
def freshDose : Dose :=
  { mode := .off, state := .idle, account := 0, residue := 0, trim := 10000, trimHoldOff := none
    duty := .a, lastDrive := none, recentDrive := false, massInFlight := 0, lastReading := none }

/-- A pump in a given state with everything else cleared (R119, R120). -/
def freshPump (st : PumpState) : Pump :=
  { state := st, line := false, driveEnd := none, confirmedInDrive := false, misses := 0, strays := 0 }

/-- The table with every place free and both AUX lines off (R134). -/
def emptyTable : ActionTable :=
  { places := [none, none, none, none, none, none, none, none], aux := .both false }

/-- The accumulators of a run with nothing in them and no conditions last metered at (R135, R147). -/
def freshRunAccumulators : RunAccumulators :=
  { gross := 0, base := 0, energy := 0, sumPG := 0, sumTG := 0, metered := 0, flags := noFlags
    integrityEvents := 0, peak := 0, lastP := none, lastT := none }

def noStrokes : StrokeCounts := ⟨0, 0, 0⟩

/-- The station accumulators at an opening (R135). -/
def openStation (modes : ModeFlags) (account : Nat) : StationAccumulators :=
  { owed := 0, autoDelivered := 0, forgone := 0, surplus := 0, manualMass := 0
    strokes := .both noStrokes, manualMisses := 0, changeovers := 0, modes := modes
    abandoned := false, accountOpen := account }

def freshTotals : Totals := ⟨0, 0, 0, 0, 0, 0⟩

def freshRecorder : Recorder :=
  { runs := .all freshRunAccumulators, station := openStation { noModes with off := true } 0
    lastIndex := 0, ring := [], lastSequence := none, storedThrough := none, totals := .all freshTotals }

/-- A monitor held cleared (R151). -/
def clearedMonitor : MonitorState := ⟨false, false, false, false, false, none⟩

def freshMonitors : Monitors := { each := .all clearedMonitor, limitLock := false }

def factorySettings : Settings :=
  { active := factorySections, staged := noneStaged, defaulted := .all true, unstored := .all false
    protection := .all false, flagsUnstored := false, heatingValue := factoryHeatingValue
    stagedHeatingValue := none, build := factoryBuild }

/-- The store of a factory-fresh part: nothing was ever written (R173). -/
def factoryStore : Store :=
  { sections := ⟨.absent, .all .absent, .absent, .absent, .absent⟩
    flags := .absent, ring := .absent, resume := .absent
    list := emptyWriteList, writing := none, warningResume := false }

def huntReceiver : Receiver := ⟨.hunt, []⟩

def idleLink : Link := { receiver := huntReceiver, queue := [], notices := [], tx := none }

/-- The time base at the entry to WARMUP (R4); the fields the manual gives no value are 0 (log entry 6). -/
def warmupTime (capture : Time) : TimeBase :=
  { phase := .warmup, stationTime := 0, subMs := 0, captureClock := capture, warmupEnd := 2000
    intervalStart := 0, intervalIndex := 0, periodCount := 0, periodOpen := 0, haltInstant := 0
    restartPending := false, restartDue := false, riseHeld := false }

/-- A conversion takes 25 ms (R28). -/
def conversionTime : Nat := 25000

end Sys2Proof.Machine
end

