-- ==== Sys2Proof/Machine/State.lean ====
section
/-! DEFINITION. The state of the part, the reasons a step can stop, and the state right after reset. -/

namespace Sys2Proof.Machine

/-- No command makes the part stop with a fault: every condition the manual names is a reply's outcome, a state of a block,
a notice or the ALARM line. So this type has no constructor. -/
inductive Fault where
deriving DecidableEq, Repr

/-- Why a command has no meaning. -/
inductive Refusal where
  /-- Raised by an arm of `exec` for a command that is not modelled; safe. Every command is modelled, so no arm raises it. -/
  | notModelled (mnemonic : String)
deriving DecidableEq, Repr

/-- Everything the manual gives the part, block by block, and the queue of waiting commands. -/
structure State where
  time : TimeBase
  pulse : Four PulseRun
  loop : LoopFront
  run : Four RunControl
  conv : Conversion
  dose : Dose
  pump : Two Pump
  /-- µs left of each stroke-sense line's running hold-off, none when ended (R35) -/
  sense : Two (Option Nat)
  table : ActionTable
  recorder : Recorder
  monitors : Monitors
  settings : Settings
  store : Store
  link : Link
  pins : Pins
  /-- the model's own counter of free values taken (log entry 13) -/
  freeCount : Nat
  /-- the commands waiting, first in, first out -/
  pending : List Instr
deriving DecidableEq, Repr

/-- The part right after reset: a factory-fresh part at the instant power-on has put it into WARMUP (R4, R175),
with the first warm-up scan just begun (R30). Log entries 4, 5, 6. -/
def State.reset : State :=
  { time := warmupTime 0
    pulse := .all freshPulse
    loop := { freshLoop with converter := .converting (.p 0) conversionTime }
    run := .all freshRun
    conv := freshConversion
    dose := freshDose
    pump := .both (freshPump .ready)
    sense := .both none
    table := emptyTable
    recorder := freshRecorder
    monitors := freshMonitors
    settings := factorySettings
    store := factoryStore
    link := idleLink
    pins := { supply := true, pfwHigh := true, custody := .closed }
    freeCount := 0
    pending := [] }

end Sys2Proof.Machine
end

