-- ==== Sys2Proof/Machine/Operands.lean ====
section
/-! DEFINITION. Operand forms: little-endian fields, the codes of R184, and the section records of R185 and R189. -/

namespace Sys2Proof.Machine

/-! ## Fields (R184: unsigned, little-endian) -/

/-- A field of `n` bytes, least significant first. -/
def bytesLE : Nat → Nat → List Byte
  | 0, _ => []
  | n + 1, v => BitVec.ofNat 8 v :: bytesLE n (v / 256)

/-- The number a little-endian field holds. -/
def natLE : List Byte → Nat
  | [] => 0
  | b :: bs => b.toNat + 256 * natLE bs

/-- The number in the field of `size` bytes at `offset`. -/
def fieldAt (bytes : List Byte) (offset size : Nat) : Nat := natLE ((bytes.drop offset).take size)

def boolCode (b : Bool) : Nat := if b then 1 else 0

def byteOf (n : Nat) : Byte := BitVec.ofNat 8 n

def boolByte (b : Bool) : Byte := byteOf (boolCode b)

/-- A yes/no byte: any value but 0 and 1 names nothing. -/
def yesNo? : Nat → Option Bool
  | 0 => some false
  | 1 => some true
  | _ => none

/-- The bits of a list of Booleans, the first the least significant. -/
def packBits : List Bool → Nat
  | [] => 0
  | b :: bs => boolCode b + 2 * packBits bs

def inRange (lo hi v : Nat) : Bool := decide (lo ≤ v) && decide (v ≤ hi)

/-! ## Codes (R184) -/

def Side.code : Side → Nat
  | .a => 0
  | .b => 1

def side? : Nat → Option Side
  | 0 => some .a
  | 1 => some .b
  | _ => none

/-- The code of an auxiliary line as an entry target: AUX1 1, AUX2 2. -/
def aux? : Nat → Option Side
  | 1 => some .a
  | 2 => some .b
  | _ => none

def runId? (n : Nat) : Option RunId := if h : n < 4 then some ⟨n, h⟩ else none

def monitorId? (n : Nat) : Option (Fin 16) := if h : n < 16 then some ⟨n, h⟩ else none

def entryId? (n : Nat) : Option (Fin 8) := if h : n < 8 then some ⟨n, h⟩ else none

/-- IDENT and STATION_STATUS are never built in HALT or with power off; those states have no code. -/
def Phase.code : Phase → Nat
  | .running => 1
  | _ => 0

def RunState.code : RunState → Nat
  | .out => 0
  | .starting => 1
  | .metering => 2
  | .degraded => 3

def ChannelState.code : ChannelState → Nat
  | .valid => 0
  | .clampedLow => 1
  | .clampedHigh => 2
  | .failed => 3

def SubstituteKind.code : SubstituteKind → Nat
  | .none => 0
  | .held => 1
  | .fallback => 2

def PumpState.code : PumpState → Nat
  | .absent => 0
  | .ready => 1
  | .driving => 2
  | .await => 3
  | .failed => 4

def DosingMode.code : DosingMode → Nat
  | .off => 0
  | .auto => 1
  | .manual => 2

def dosingMode? : Nat → Option DosingMode
  | 0 => some .off
  | 1 => some .auto
  | 2 => some .manual
  | _ => none

def DosingState.code : DosingState → Nat
  | .idle => 0
  | .armed => 1
  | .strokeWait => 2
  | .confirmWait => 3
  | .manualWait => 4
  | .fault => 5

def TrimFlag.code : TrimFlag → Nat
  | .applied => 0
  | .held => 1
  | .implausible => 2
  | .notAuto => 3

def CloseCause.code : CloseCause → Nat
  | .length => 0
  | .forced => 1
  | .restart => 2
  | .power => 3

def EntryOwner.code : EntryOwner → Nat
  | .dosing => 0
  | .link => 1

def EntryKind.code : EntryKind → Nat
  | .stroke => 0
  | .confirm => 1
  | .auxOn => 2
  | .auxOff => 3
  | .closePeriod => 4
  | .timerNotice => 5

def entryKind? : Nat → Option EntryKind
  | 0 => some .stroke
  | 1 => some .confirm
  | 2 => some .auxOn
  | 3 => some .auxOff
  | 4 => some .closePeriod
  | 5 => some .timerNotice
  | _ => none

/-- Section codes: 0 STATION, 1..4 RUN0..RUN3, 5 ODORANT, 6 COMPRESS, 7 MONITORS. -/
def sectionId? : Nat → Option SectionId
  | 0 => some .station
  | 1 => some (.run 0)
  | 2 => some (.run 1)
  | 3 => some (.run 2)
  | 4 => some (.run 3)
  | 5 => some .odorant
  | 6 => some .compress
  | 7 => some .monitors
  | _ => none

def NoticeClass.code : NoticeClass → Nat
  | .critical => 0
  | .dosing => 1
  | .run => 2
  | .limit => 3
  | .period => 4
  | .timer => 5

def MonitorMode.code : MonitorMode → Nat
  | .follow => 0
  | .latch => 1
  | .criticalOnly => 2

def monitorMode? : Nat → Option MonitorMode
  | 0 => some .follow
  | 1 => some .latch
  | 2 => some .criticalOnly
  | _ => none

def PressureType.code : PressureType → Nat
  | .abs => 0
  | .gauge => 1

def pressureType? : Nat → Option PressureType
  | 0 => some .abs
  | 1 => some .gauge
  | _ => none

def SubstitutePolicy.code : SubstitutePolicy → Nat
  | .hold => 0
  | .fallback => 1

def substitutePolicy? : Nat → Option SubstitutePolicy
  | 0 => some .hold
  | 1 => some .fallback
  | _ => none

/-- Link rate codes, 0 to 4 (R178). -/
def LinkRate.code : LinkRate → Nat
  | .r9600 => 0
  | .r19200 => 1
  | .r38400 => 2
  | .r57600 => 3
  | .r115200 => 4

def linkRate? : Nat → Option LinkRate
  | 0 => some .r9600
  | 1 => some .r19200
  | 2 => some .r38400
  | 3 => some .r57600
  | 4 => some .r115200
  | _ => none

/-- The link rate in bit/s (R178). -/
def LinkRate.bitsPerSecond : LinkRate → Nat
  | .r9600 => 9600
  | .r19200 => 19200
  | .r38400 => 38400
  | .r57600 => 57600
  | .r115200 => 115200

/-- The notice class enables byte: bit n enables class code n (R185). -/
def NoticeEnables.toNat (e : NoticeEnables) : Nat :=
  packBits [e.critical, e.dosing, e.run, e.limit, e.period, e.timer]

/-- A byte with a bit the table does not define names nothing. -/
def noticeEnables? (n : Nat) : Option NoticeEnables :=
  if n < 64 then
    some ⟨n.testBit 0, n.testBit 1, n.testBit 2, n.testBit 3, n.testBit 4, n.testBit 5⟩
  else none

/-! ## The STATION record, 25 bytes (R185) -/

/-- The ranges and cross-checks of STATION (R164). -/
def StationSection.valid (c : StationSection) : Bool :=
  inRange 90000 110000 c.pb && inRange 27315 29315 c.tb && inRange 70000 110000 c.atmospheric
    && inRange 0 20000000 c.hdrLrv && inRange 0 20000000 c.hdrUrv && decide (c.hdrLrv < c.hdrUrv)
    && inRange 60 3600 c.periodLength && inRange 1 4 c.build.runs && inRange 1 2 c.build.pumps

def encodeStation (c : StationSection) : List Byte :=
  bytesLE 4 c.pb ++ bytesLE 2 c.tb ++ bytesLE 4 c.atmospheric ++ bytesLE 1 c.hdrType.code
    ++ bytesLE 4 c.hdrLrv ++ bytesLE 4 c.hdrUrv ++ bytesLE 2 c.periodLength
    ++ bytesLE 1 c.enables.toNat ++ bytesLE 1 c.build.runs ++ bytesLE 1 c.build.pumps
    ++ bytesLE 1 c.build.rate.code

/-- The record of 25 bytes, when every field names something and every check of R164 holds. -/
def decodeStation (bs : List Byte) : Option StationSection := do
  let hdrType ← pressureType? (fieldAt bs 10 1)
  let enables ← noticeEnables? (fieldAt bs 21 1)
  let rate ← linkRate? (fieldAt bs 24 1)
  let c : StationSection :=
    { pb := fieldAt bs 0 4, tb := fieldAt bs 4 2, atmospheric := fieldAt bs 6 4
      hdrType := hdrType, hdrLrv := fieldAt bs 11 4, hdrUrv := fieldAt bs 15 4
      periodLength := fieldAt bs 19 2, enables := enables
      build := { runs := fieldAt bs 22 1, pumps := fieldAt bs 23 1, rate := rate } }
  if c.valid then some c else none

/-! ## The RUN record, 42 bytes (R189) -/

/-- The ranges and cross-checks of RUN0..RUN3 (R164). -/
def RunSection.valid (c : RunSection) : Bool :=
  inRange 1 100000 c.vpp && inRange 900000 1100000 c.mf
    && inRange 0 20000000 c.pLrv && inRange 0 20000000 c.pUrv && decide (c.pLrv < c.pUrv)
    && inRange 23315 34315 c.tLrv && inRange 23315 34315 c.tUrv && decide (c.tLrv < c.tUrv)
    && inRange 100000 20000000 c.fallbackP && inRange 23315 34315 c.fallbackT
    && inRange 0 200000000 c.qMin && inRange 0 200000000 c.qMax && decide (c.qMin < c.qMax)
    && inRange 1 600 c.zeroFlowTimeout && inRange 0 600 c.settleTime && inRange 0 255 c.tolerance

def encodeRun (c : RunSection) : List Byte :=
  bytesLE 4 c.vpp ++ bytesLE 4 c.mf ++ bytesLE 1 c.pType.code ++ bytesLE 4 c.pLrv ++ bytesLE 4 c.pUrv
    ++ bytesLE 2 c.tLrv ++ bytesLE 2 c.tUrv ++ bytesLE 4 c.fallbackP ++ bytesLE 2 c.fallbackT
    ++ bytesLE 1 c.policy.code ++ bytesLE 4 c.qMin ++ bytesLE 4 c.qMax
    ++ bytesLE 2 c.zeroFlowTimeout ++ bytesLE 2 c.settleTime ++ bytesLE 1 c.tolerance
    ++ bytesLE 1 (boolCode c.bCheck)

def decodeRun (bs : List Byte) : Option RunSection := do
  let pType ← pressureType? (fieldAt bs 8 1)
  let policy ← substitutePolicy? (fieldAt bs 27 1)
  let bCheck ← yesNo? (fieldAt bs 41 1)
  let c : RunSection :=
    { vpp := fieldAt bs 0 4, mf := fieldAt bs 4 4, pType := pType
      pLrv := fieldAt bs 9 4, pUrv := fieldAt bs 13 4
      tLrv := fieldAt bs 17 2, tUrv := fieldAt bs 19 2
      fallbackP := fieldAt bs 21 4, fallbackT := fieldAt bs 25 2, policy := policy
      qMin := fieldAt bs 28 4, qMax := fieldAt bs 32 4
      zeroFlowTimeout := fieldAt bs 36 2, settleTime := fieldAt bs 38 2
      tolerance := fieldAt bs 40 1, bCheck := bCheck }
  if c.valid then some c else none

/-! ## The ODORANT record, 23 bytes (R189) -/

/-- The ranges and cross-checks of ODORANT (R164). -/
def OdorantSection.valid (c : OdorantSection) : Bool :=
  inRange 500 5000 c.target && inRange 10000 2000000 c.strokeMass && inRange 1 250 c.debtLimit
    && inRange 500 60000 c.spacing && inRange 50 500 c.driveWidth && inRange 100 5000 c.confirmWindow
    && decide (c.driveWidth < c.confirmWindow) && inRange 1 9 c.missLimit && inRange 1 9 c.strayLimit
    && inRange 60 3600 c.trimHoldOff && inRange 0 10000 c.tankLrv && inRange 0 10000 c.tankUrv
    && decide (c.tankLrv < c.tankUrv)

def encodeOdorant (c : OdorantSection) : List Byte :=
  bytesLE 2 c.target ++ bytesLE 4 c.strokeMass ++ bytesLE 1 c.debtLimit ++ bytesLE 2 c.spacing
    ++ bytesLE 2 c.driveWidth ++ bytesLE 2 c.confirmWindow ++ bytesLE 1 c.missLimit
    ++ bytesLE 1 c.strayLimit ++ bytesLE 2 c.trimHoldOff ++ bytesLE 1 (boolCode c.startAuto)
    ++ bytesLE 1 (Side.code c.preferred) ++ bytesLE 2 c.tankLrv ++ bytesLE 2 c.tankUrv

def decodeOdorant (bs : List Byte) : Option OdorantSection := do
  let startAuto ← yesNo? (fieldAt bs 17 1)
  let preferred ← side? (fieldAt bs 18 1)
  let c : OdorantSection :=
    { target := fieldAt bs 0 2, strokeMass := fieldAt bs 2 4, debtLimit := fieldAt bs 6 1
      spacing := fieldAt bs 7 2, driveWidth := fieldAt bs 9 2, confirmWindow := fieldAt bs 11 2
      missLimit := fieldAt bs 13 1, strayLimit := fieldAt bs 14 1, trimHoldOff := fieldAt bs 15 2
      startAuto := startAuto, preferred := preferred
      tankLrv := fieldAt bs 19 2, tankUrv := fieldAt bs 21 2 }
  if c.valid then some c else none

/-! ## The COMPRESS record, 108 bytes (R185) -/

/-- Every element is below the next. -/
def strictlyRising : List Nat → Bool
  | a :: b :: rest => decide (a < b) && strictlyRising (b :: rest)
  | _ => true

/-- The ranges and cross-checks of COMPRESS (R164). -/
def CompressSection.valid (c : CompressSection) : Bool :=
  c.pressures.toList.all (inRange 100000 20000000) && strictlyRising c.pressures.toList
    && c.temperatures.toList.all (inRange 23315 34315) && strictlyRising c.temperatures.toList
    && c.values.toList.all (fun row => row.toList.all (inRange 800000 1400000))

def encodeRow (row : Four Nat) : List Byte :=
  bytesLE 4 row.r0 ++ bytesLE 4 row.r1 ++ bytesLE 4 row.r2 ++ bytesLE 4 row.r3

def encodeCompress (c : CompressSection) : List Byte :=
  bytesLE 4 c.pressures.c0 ++ bytesLE 4 c.pressures.c1 ++ bytesLE 4 c.pressures.c2
    ++ bytesLE 4 c.pressures.c3 ++ bytesLE 4 c.pressures.c4
    ++ bytesLE 2 c.temperatures.r0 ++ bytesLE 2 c.temperatures.r1
    ++ bytesLE 2 c.temperatures.r2 ++ bytesLE 2 c.temperatures.r3
    ++ encodeRow c.values.c0 ++ encodeRow c.values.c1 ++ encodeRow c.values.c2
    ++ encodeRow c.values.c3 ++ encodeRow c.values.c4

/-- Four values of one grid pressure, F[i][0..3], from an offset. -/
def decodeRow (bs : List Byte) (offset : Nat) : Four Nat :=
  ⟨fieldAt bs offset 4, fieldAt bs (offset + 4) 4, fieldAt bs (offset + 8) 4, fieldAt bs (offset + 12) 4⟩

def decodeCompress (bs : List Byte) : Option CompressSection :=
  let c : CompressSection :=
    { pressures := ⟨fieldAt bs 0 4, fieldAt bs 4 4, fieldAt bs 8 4, fieldAt bs 12 4, fieldAt bs 16 4⟩
      temperatures := ⟨fieldAt bs 20 2, fieldAt bs 22 2, fieldAt bs 24 2, fieldAt bs 26 2⟩
      values := ⟨decodeRow bs 28, decodeRow bs 44, decodeRow bs 60, decodeRow bs 76, decodeRow bs 92⟩ }
  if c.valid then some c else none

/-! ## The MONITORS record, in halves of 137 bytes (R185) -/

/-- M13 and M15 have the low critical sense, the others the high (R150). -/
def lowSense (m : Fin 16) : Bool := m == 13 || m == 15

/-- The checks of R153 on one monitor's settings. -/
def MonitorSettings.valid (low : Bool) (c : MonitorSettings) : Bool :=
  decide (c.low ≤ c.high)
    && (if low then decide (c.critical ≤ c.low) else decide (c.high ≤ c.critical))
    && (if c.low < c.high then decide (c.hysteresis < c.high - c.low) else c.hysteresis == 0)

/-- The settings byte: bit 0 enabled, bits 1–2 mode (R184). -/
def MonitorSettings.byte (c : MonitorSettings) : Nat := boolCode c.enabled + 2 * c.mode.code

def encodeMonitor (c : MonitorSettings) : List Byte :=
  bytesLE 1 c.byte ++ bytesLE 4 c.low ++ bytesLE 4 c.high ++ bytesLE 4 c.critical
    ++ bytesLE 4 c.hysteresis

/-- One monitor's 17 bytes, when its settings byte names a mode and no other bit is set, and R153 holds. -/
def decodeMonitor (low : Bool) (bs : List Byte) (offset : Nat) : Option MonitorSettings :=
  let b := fieldAt bs offset 1
  match monitorMode? (b / 2) with
  | none => none
  | some mode =>
    let c : MonitorSettings :=
      { enabled := b % 2 == 1, mode := mode, low := fieldAt bs (offset + 1) 4
        high := fieldAt bs (offset + 5) 4, critical := fieldAt bs (offset + 9) 4
        hysteresis := fieldAt bs (offset + 13) 4 }
    if c.valid low then some c else none

def encodeMonitorGroup (g : Four MonitorSettings) : List Byte :=
  encodeMonitor g.r0 ++ encodeMonitor g.r1 ++ encodeMonitor g.r2 ++ encodeMonitor g.r3

/-- Four monitors in order, the first of them monitor `first`. -/
def decodeMonitorGroup (first : Fin 16) (bs : List Byte) (offset : Nat) :
    Option (Four MonitorSettings) := do
  let m0 ← decodeMonitor (lowSense first) bs offset
  let m1 ← decodeMonitor (lowSense (first + 1)) bs (offset + 17)
  let m2 ← decodeMonitor (lowSense (first + 2)) bs (offset + 34)
  let m3 ← decodeMonitor (lowSense (first + 3)) bs (offset + 51)
  some ⟨m0, m1, m2, m3⟩

/-- The record of one half: the half byte, then eight monitors. -/
def encodeMonitorsHalf (upper : Bool) (c : MonitorsSection) : List Byte :=
  bytesLE 1 (boolCode upper) ++
    (if upper then encodeMonitorGroup c.temperature ++ encodeMonitorGroup c.station
     else encodeMonitorGroup c.rate ++ encodeMonitorGroup c.pressure)

/-- The half a record of 137 bytes carries, put over the copy `base` (R185). -/
def decodeMonitorsHalf (base : MonitorsSection) (bs : List Byte) : Option MonitorsSection := do
  let upper ← yesNo? (fieldAt bs 0 1)
  if upper then
    let g2 ← decodeMonitorGroup 8 bs 1
    let g3 ← decodeMonitorGroup 12 bs 69
    some { base with temperature := g2, station := g3 }
  else
    let g0 ← decodeMonitorGroup 0 bs 1
    let g1 ← decodeMonitorGroup 4 bs 69
    some { base with rate := g0, pressure := g1 }

/-- The length of a section's record (R185, R189). -/
def SectionId.recordLength : SectionId → Nat
  | .station => 25
  | .run _ => 42
  | .odorant => 23
  | .compress => 108
  | .monitors => 137

end Sys2Proof.Machine
end

