-- ==== Sys2Proof/Machine/Flags.lean ====
section
/-! DEFINITION. Flags and status bytes: the interval flags, the channel, monitor and section bytes of R184, roundings. -/

namespace Sys2Proof.Machine

/-! ## Interval flags (R48, R137, R184) -/

/-- The union of two flag sets (R137). -/
def IntervalFlags.union (x y : IntervalFlags) : IntervalFlags :=
  { settling := x.settling || y.settling
    estimatedP := x.estimatedP || y.estimatedP
    estimatedT := x.estimatedT || y.estimatedT
    lowRange := x.lowRange || y.lowRange
    overRange := x.overRange || y.overRange
    substituted := x.substituted || y.substituted
    outOfTable := x.outOfTable || y.outOfTable
    reconfig := x.reconfig || y.reconfig
    integrity := x.integrity || y.integrity }

/-- The two-byte flags field, bit 0 SETTLING to bit 8 INTEGRITY. -/
def IntervalFlags.toNat (f : IntervalFlags) : Nat :=
  packBits [f.settling, f.estimatedP, f.estimatedT, f.lowRange, f.overRange, f.substituted,
    f.outOfTable, f.reconfig, f.integrity]

/-- The flow-window flags of a rate (R49): LOW_RANGE, OVER_RANGE. -/
def flowWindow (rate qMin qMax : Nat) : Bool × Bool :=
  (decide (0 < rate) && decide (rate < qMin), decide (qMax < rate))

/-! ## Status bytes (R184) -/

/-- The channel status byte: bits 0–2 state, bit 3 latest value present, bit 4 last good value present. -/
def Channel.statusByte (c : Channel) : Nat :=
  c.state.code + 8 * boolCode c.latest.isSome + 16 * boolCode c.lastGood.isSome

/-- The monitor condition byte: LOW, HIGH, CRITICAL, latch, event, last value present. -/
def MonitorState.conditionByte (m : MonitorState) : Nat :=
  packBits [m.low, m.high, m.critical, m.latch, m.event, m.last.isSome]

/-- The integrity byte: bit 0 INTEGRITY alarm, bits 1–2 consecutive events (R189). -/
def PulseRun.integrityByte (p : PulseRun) : Nat :=
  boolCode p.integrityAlarm + 2 * p.consecutiveEvents

/-- The dosing-mode bits of a record with ABANDONED in bit 3 (R189). -/
def StationAccumulators.modeByte (a : StationAccumulators) : Nat :=
  packBits [a.modes.off, a.modes.auto, a.modes.manual, a.abandoned]

/-- Marks a mode in the dosing mode flags (R95, R138). -/
def ModeFlags.mark (f : ModeFlags) : DosingMode → ModeFlags
  | .off => { f with off := true }
  | .auto => { f with auto := true }
  | .manual => { f with manual := true }

/-! ## A monitor's conditions and event (R152, R154) -/

/-- A condition whose set test holds becomes set, whose clear test holds becomes clear, else it keeps its state. -/
def hold (setTest clearTest was : Bool) : Bool :=
  if setTest then true else if clearTest then false else was

/-- LOW: set below low, cleared at low + h or above. -/
def lowCondition (c : MonitorSettings) (v : Nat) (was : Bool) : Bool :=
  hold (decide (v < c.low)) (decide (c.low + c.hysteresis ≤ v)) was

/-- HIGH: set above high, cleared at high − h or below. -/
def highCondition (c : MonitorSettings) (v : Nat) (was : Bool) : Bool :=
  hold (decide (c.high < v)) (decide (v + c.hysteresis ≤ c.high)) was

/-- CRITICAL, in the monitor's critical sense. -/
def criticalCondition (low : Bool) (c : MonitorSettings) (v : Nat) (was : Bool) : Bool :=
  if low then hold (decide (v < c.critical)) (decide (c.critical + c.hysteresis ≤ v)) was
  else hold (decide (c.critical < v)) (decide (v + c.hysteresis ≤ c.critical)) was

/-- The event a mode makes of the conditions and the latch (R154). -/
def eventOf (mode : MonitorMode) (m : MonitorState) : Bool :=
  match mode with
  | .follow => m.low || m.high || m.critical
  | .latch => m.latch || m.critical
  | .criticalOnly => m.critical

/-- The monitor with its event formed afresh. -/
def MonitorState.formed (mode : MonitorMode) (m : MonitorState) : MonitorState :=
  { m with event := eventOf mode m }

/-- The state of a monitor after an evaluation on the value `v` (R150, R152, R154). -/
def evaluated (low : Bool) (c : MonitorSettings) (v : Nat) (m : MonitorState) : MonitorState :=
  let lo := lowCondition c v m.low
  let hi := highCondition c v m.high
  let cr := criticalCondition low c v m.critical
  MonitorState.formed c.mode
    { low := lo, high := hi, critical := cr
      latch := match c.mode with
        | .latch => m.latch || lo || hi
        | _ => false
      event := m.event, last := some v }

/-! ## Roundings (00_scope.md, Rounding) and held fields (R140, R75) -/

/-- a / b rounded to the nearest, exact halves up. -/
def roundHalfUp (a b : Nat) : Nat := (2 * a + b) / (2 * b)

/-- a / b rounded to the nearest, exact halves away from zero. -/
def roundHalfAway (a : Int) (b : Nat) : Int :=
  if 0 ≤ a then (roundHalfUp a.toNat b : Nat) else -((roundHalfUp (-a).toNat b : Nat) : Int)

/-- a / b with the fractional part dropped. -/
def truncated (a : Int) (b : Nat) : Int := Int.tdiv a b

/-- The top of a 32-bit field. -/
def top32 : Nat := 4294967295

/-- A figure in a field with a top: held at the top, and marked, when above. -/
def heldAt (top n : Nat) : Held := { value := min n top, saturated := decide (top < n) }

end Sys2Proof.Machine
end

