-- ==== Sys2Proof/Machine/Ops.lean ====
section
/-! DEFINITION. The operations every family of commands shares: block updates, the clocks, notices, the store write list,
the action table's places. -/

namespace Sys2Proof.Machine

/-! ## One block updated, the others kept -/

def State.onTime (f : TimeBase → TimeBase) (s : State) : State := { s with time := f s.time }

def State.onPulse (f : Four PulseRun → Four PulseRun) (s : State) : State := { s with pulse := f s.pulse }

def State.onLoop (f : LoopFront → LoopFront) (s : State) : State := { s with loop := f s.loop }

def State.onRun (f : Four RunControl → Four RunControl) (s : State) : State := { s with run := f s.run }

def State.onConv (f : Conversion → Conversion) (s : State) : State := { s with conv := f s.conv }

def State.onDose (f : Dose → Dose) (s : State) : State := { s with dose := f s.dose }

def State.onPump (f : Two Pump → Two Pump) (s : State) : State := { s with pump := f s.pump }

def State.onSense (f : Two (Option Nat) → Two (Option Nat)) (s : State) : State := { s with sense := f s.sense }

def State.onTable (f : ActionTable → ActionTable) (s : State) : State := { s with table := f s.table }

def State.onRecorder (f : Recorder → Recorder) (s : State) : State := { s with recorder := f s.recorder }

def State.onMonitors (f : Monitors → Monitors) (s : State) : State := { s with monitors := f s.monitors }

def State.onSettings (f : Settings → Settings) (s : State) : State := { s with settings := f s.settings }

def State.onStore (f : Store → Store) (s : State) : State := { s with store := f s.store }

def State.onLink (f : Link → Link) (s : State) : State := { s with link := f s.link }

def State.onPins (f : Pins → Pins) (s : State) : State := { s with pins := f s.pins }

/-! ## Clocks and due times (R1, R2, R3) -/

/-- A count of milliseconds as a span of station time. -/
def ms (n : Nat) : Time := BitVec.ofNat 32 n

/-- A due time is reached when (now − due) modulo 2³² is below 2³¹ (R3). -/
def reached (due now : Time) : Bool := decide ((now - due).toNat < 2147483648)

/-- Station time now. -/
def State.now (s : State) : Time := s.time.stationTime

/-- The time base runs: WARMUP or RUNNING. Station time advances, edges are taken, the link works (R1, R19, R178). -/
def State.live (s : State) : Bool := s.time.phase == .warmup || s.time.phase == .running

/-- The age of the interval in progress (R6). -/
def State.age (s : State) : Nat := (s.now - s.time.intervalStart).toNat

/-- Both clocks after `dt` µs: the capture clock runs while there is supply, station time in WARMUP and RUNNING only. -/
def elapseTime (dt : Nat) (t : TimeBase) : TimeBase :=
  match t.phase with
  | .off => t
  | .halt => { t with captureClock := t.captureClock + BitVec.ofNat 32 dt }
  | _ =>
    { t with
      captureClock := t.captureClock + BitVec.ofNat 32 dt
      stationTime := t.stationTime + ms ((t.subMs + dt) / 1000)
      subMs := (t.subMs + dt) % 1000 }

/-- A conversion's time left after `dt` µs (R28). -/
def elapseLoop (dt : Nat) (l : LoopFront) : LoopFront :=
  match l.converter with
  | .idle => l
  | .converting c left => { l with converter := .converting c (left - dt) }

/-- A write's time left after `dt` µs (R172). -/
def elapseStore (dt : Nat) (st : Store) : Store :=
  { st with writing := st.writing.map fun w => { w with left := w.left - dt } }

/-- The line time left of the frame being sent, at a link rate in bit/s (R178). -/
def elapseLink (dt rate : Nat) (l : Link) : Link :=
  { l with tx := l.tx.map fun x => { x with left := x.left - dt * rate } }

/-- `dt` µs pass and nothing else happens (log entry 1). -/
def State.elapse (dt : Nat) (s : State) : State :=
  match s.time.phase with
  | .off => s
  | _ =>
    { s with
      time := elapseTime dt s.time
      loop := elapseLoop dt s.loop
      sense := s.sense.map (Option.map (· - dt))
      store := elapseStore dt s.store
      link := elapseLink dt s.settings.build.rate.bitsPerSecond s.link }

/-! ## The active build and the active copies -/

/-- Whether a run is fitted by the active build (R169). -/
def State.fitted (s : State) (r : RunId) : Bool := decide (r.val < s.settings.build.runs)

/-- Whether a pump is fitted: pump A by every build, pump B when the build fits two (R101). -/
def pumpFitted (pumps : Nat) : Side → Bool
  | .a => true
  | .b => decide (2 ≤ pumps)

def State.pumpIsFitted (s : State) (p : Side) : Bool := pumpFitted s.settings.build.pumps p

def State.runSection (s : State) (r : RunId) : RunSection := s.settings.active.run.get r

def State.odorant (s : State) : OdorantSection := s.settings.active.odorant

/-- The cap of the account, C = debt limit × stroke mass (chapter 5). -/
def OdorantSection.cap (o : OdorantSection) : Nat := o.debtLimit * o.strokeMass

def channelOf (l : LoopFront) : ChannelId → Channel
  | .p r => l.p.get r
  | .t r => l.t.get r
  | .hdr => l.hdr
  | .tank => l.tank

def setChannel (c : ChannelId) (x : Channel) (l : LoopFront) : LoopFront :=
  match c with
  | .p r => { l with p := l.p.set r x }
  | .t r => { l with t := l.t.set r x }
  | .hdr => { l with hdr := x }
  | .tank => { l with tank := x }

/-- A channel is usable in VALID, CLAMPED_LOW and CLAMPED_HIGH (section 2.3). -/
def Channel.usable (c : Channel) : Bool := c.state != .failed

/-! ## Things held per section -/

def PerSection.get {α : Type} (x : PerSection α) : SectionId → α
  | .station => x.station
  | .run r => x.run.get r
  | .odorant => x.odorant
  | .compress => x.compress
  | .monitors => x.monitors

def PerSection.set {α : Type} (x : PerSection α) (i : SectionId) (v : α) : PerSection α :=
  match i with
  | .station => { x with station := v }
  | .run r => { x with run := x.run.set r v }
  | .odorant => { x with odorant := v }
  | .compress => { x with compress := v }
  | .monitors => { x with monitors := v }

/-- Section by section, from two sets of marks. -/
def PerSection.zip (f : Bool → Bool → Bool) (x y : PerSection Bool) : PerSection Bool :=
  { station := f x.station y.station
    run := .tabulate fun r => f (x.run.get r) (y.run.get r)
    odorant := f x.odorant y.odorant
    compress := f x.compress y.compress
    monitors := f x.monitors y.monitors }

def PerSection.toList {α : Type} (x : PerSection α) : List α :=
  [x.station, x.run.r0, x.run.r1, x.run.r2, x.run.r3, x.odorant, x.compress, x.monitors]

/-- The eight sections in the order of the store write list (section 10). -/
def sectionIds : List SectionId :=
  [.station, .run 0, .run 1, .run 2, .run 3, .odorant, .compress, .monitors]

/-- Which sections have a staged copy. -/
def stagedMarks (g : StagedSections) : PerSection Bool :=
  { station := g.station.isSome
    run := g.run.map Option.isSome
    odorant := g.odorant.isSome
    compress := g.compress.isSome
    monitors := g.monitors.isSome }

/-- The staged copy of one section dropped. -/
def dropStaged (i : SectionId) (g : StagedSections) : StagedSections :=
  match i with
  | .station => { g with station := none }
  | .run r => { g with run := g.run.set r none }
  | .odorant => { g with odorant := none }
  | .compress => { g with compress := none }
  | .monitors => { g with monitors := none }

/-! ## Raising notices (R186) -/

/-- Whether a class is enabled. -/
def NoticeEnables.get (e : NoticeEnables) : NoticeClass → Bool
  | .critical => e.critical
  | .dosing => e.dosing
  | .run => e.run
  | .limit => e.limit
  | .period => e.period
  | .timer => e.timer

/-- The place of a pair in the order of R187: class first, then subject. -/
def Notice.rank (n : Notice) : Nat := n.cls.code * 256 + n.subject

/-- A pair added to the set, which holds no pair twice. -/
def addNotice (n : Notice) : List Notice → List Notice
  | [] => [n]
  | m :: rest =>
    if n = m then m :: rest
    else if n.rank < m.rank then n :: m :: rest
    else m :: addNotice n rest

/-- Raises a notice: kept only when its class is enabled in the active STATION copy (R186). -/
def raise (c : NoticeClass) (subject : Nat) (s : State) : State :=
  if s.settings.active.station.enables.get c then
    s.onLink fun l => { l with notices := addNotice ⟨c, subject⟩ l.notices }
  else s

def raiseDosing (s : State) : State := raise .dosing 0 s

def raiseRun (r : RunId) (s : State) : State := raise .run r.val s

/-- Raises a RUN notice for every run a test names, in run order. -/
def raiseRuns (test : RunId → Bool) (s : State) : State :=
  runIds.foldl (fun s r => if test r then raiseRun r s else s) s

/-! ## The store write list (R172) -/

/-- The item a content belongs to. -/
def StoreContent.item : StoreContent → StoreItem
  | .resume _ => .resume
  | .ring _ _ => .ring
  | .flags _ => .flags
  | .station _ => .sectionCopy .station
  | .run r _ => .sectionCopy (.run r)
  | .odorant _ => .sectionCopy .odorant
  | .compress _ => .sectionCopy .compress
  | .monitors _ => .sectionCopy .monitors

def WriteList.mark (l : WriteList) : StoreItem → WriteList
  | .resume => { l with resume := true }
  | .ring => { l with ring := true }
  | .flags => { l with flags := true }
  | .sectionCopy i => { l with sections := l.sections.set i true }

def WriteList.unmark (l : WriteList) : StoreItem → WriteList
  | .resume => { l with resume := false }
  | .ring => { l with ring := false }
  | .flags => { l with flags := false }
  | .sectionCopy i => { l with sections := l.sections.set i false }

/-- The list's first item, in the order RESUME, RING, FLAGS, SECTION 0 to 7. -/
def WriteList.first? (l : WriteList) : Option StoreItem :=
  if l.resume then some .resume
  else if l.ring then some .ring
  else if l.flags then some .flags
  else (sectionIds.find? fun i => l.sections.get i).map .sectionCopy

/-- The item added to the list, its content in memory changed; a write of the same item in progress no longer answers its
marks (R163, log entry 10). -/
def Store.add (item : StoreItem) (st : Store) : Store :=
  { st with
    list := st.list.mark item
    writing := st.writing.map fun w => if w.content.item = item then { w with stale := true } else w }

def addItem (item : StoreItem) (s : State) : State := s.onStore (·.add item)

/-- The items of several sections added. -/
def addSections (which : PerSection Bool) (s : State) : State :=
  sectionIds.foldl (fun s i => if which.get i then addItem (.sectionCopy i) s else s) s

/-- The items of unstored sections, and FLAGS when unstored, put into the list again at a restart (R176 step 3). One that is
being written is listed too, and that write still answers its marks, since its content has not changed (log entry 33). -/
def Store.relist (unstored : PerSection Bool) (flagsUnstored : Bool) (st : Store) : Store :=
  { st with list := { st.list with
      flags := st.list.flags || flagsUnstored
      sections := PerSection.zip (· || ·) st.list.sections unstored } }

/-- The list is not empty or an item is in progress: the BUSY of R165 and R170. -/
def State.storeBusy (s : State) : Bool := s.store.list.first?.isSome || s.store.writing.isSome

/-! ## The action table's places (R121, R122, R126, R127) -/

/-- The lowest id not held. -/
def lowestFree : List (Option Entry) → Option Nat
  | [] => none
  | none :: _ => some 0
  | some _ :: rest => (lowestFree rest).map (· + 1)

/-- An entry placed at the lowest free id; a table without one keeps what it holds. -/
def ActionTable.place (e : Entry) (t : ActionTable) : ActionTable :=
  match lowestFree t.places with
  | some i => { t with places := t.places.set i (some e) }
  | none => t

/-- The entry holding an id. -/
def ActionTable.at (t : ActionTable) (id : Nat) : Option Entry := (t.places[id]?).join

def ActionTable.free (id : Nat) (t : ActionTable) : ActionTable :=
  { t with places := t.places.set id none }

/-- Every entry a test names removed, its action not carried out. -/
def ActionTable.drop (test : Entry → Bool) (t : ActionTable) : ActionTable :=
  { t with places := t.places.map fun e => e.filter fun x => !test x }

/-- Whether some entry present passes a test. -/
def ActionTable.any (test : Entry → Bool) (t : ActionTable) : Bool :=
  t.places.any fun e => e.any test

/-- The number of entries present that pass a test. -/
def ActionTable.count (test : Entry → Bool) (t : ActionTable) : Nat :=
  t.places.countP fun e => e.any test

def isStroke (e : Entry) : Bool := e.kind == .stroke

def isConfirmOf (p : Side) (e : Entry) : Bool := e.kind == .confirm && e.target == Side.code p

def isLink (e : Entry) : Bool := e.owner == .link

/-! ## The record of a period in progress -/

/-- The station accumulators updated (R138). -/
def onStation (f : StationAccumulators → StationAccumulators) (s : State) : State :=
  s.onRecorder fun r => { r with station := f r.station }

/-- The stroke counts of a pump updated (R117). -/
def onStrokes (p : Side) (f : StrokeCounts → StrokeCounts) (s : State) : State :=
  onStation (fun a => { a with strokes := a.strokes.modify p f }) s

end Sys2Proof.Machine
end

