-- ==== Sys2Proof/Machine/Link.lean ====
section
/-! DEFINITION. The station link's frames, receiver, notices and transmitter (chapter 11). -/

namespace Sys2Proof.Machine

/-! ## The check (R179) -/

/-- One bit of the CRC-16 of polynomial x¹⁶ + x¹² + x⁵ + 1. -/
def crcBit (crc : BitVec 16) : BitVec 16 :=
  if crc.msb then (crc <<< 1) ^^^ 0x1021#16 else crc <<< 1

def crcBits : Nat → BitVec 16 → BitVec 16
  | 0, crc => crc
  | n + 1, crc => crcBits n (crcBit crc)

/-- One byte, most significant bit first. -/
def crcByte (crc : BitVec 16) (b : Byte) : BitVec 16 :=
  crcBits 8 (crc ^^^ ((b.zeroExtend 16) <<< 8))

/-- The check over bytes in the order sent, from 0xFFFF. -/
def crc16 (bytes : List Byte) : BitVec 16 := bytes.foldl crcByte 0xFFFF#16

/-! ## Frames (R179) -/

def startByte : Byte := 0xB7#8

/-- The bytes from length to the last payload byte, over which the check is computed. -/
def frameBody (f : Frame) : List Byte :=
  byteOf (f.payload.length + 2) :: f.kind :: f.tag :: f.payload

/-- The bytes of a frame on the line; the check is sent low byte first. -/
def frameBytes (f : Frame) : List Byte :=
  startByte :: (frameBody f ++ bytesLE 2 (crc16 (frameBody f)).toNat)

/-! ## The receiver (R180) -/

/-- The frame in a buffer that holds length, kind, tag, payload and check; none when the check does not match. -/
def checkedFrame (buffer : List Byte) : Option Frame :=
  let body := buffer.take (buffer.length - 2)
  let check := natLE (buffer.drop (buffer.length - 2))
  if check = (crc16 body).toNat then
    match body with
    | _ :: kind :: tag :: payload => some ⟨kind, tag, payload⟩
    | _ => none
  else none

/-- One byte taken: the receiver after it, and the request it completes, if any. -/
def takeByte (r : Receiver) (b : Byte) : Receiver × Option Frame :=
  match r.state with
  | .hunt => if b = startByte then (⟨.length, []⟩, none) else (huntReceiver, none)
  | .length => if inRange 2 250 b.toNat then (⟨.body, [b]⟩, none) else (huntReceiver, none)
  | .body =>
    let buffer := r.buffer ++ [b]
    if buffer.length = natLE (buffer.take 1) + 1 then (⟨.check, buffer⟩, none)
    else (⟨.body, buffer⟩, none)
  | .check =>
    let buffer := r.buffer ++ [b]
    if buffer.length = natLE (buffer.take 1) + 3 then (huntReceiver, checkedFrame buffer)
    else (⟨.check, buffer⟩, none)

/-- The longest time between two consecutive bytes of a frame, 20 ms in µs; exactly 20 ms is allowed (R180). -/
def longestGap : Nat := 20000

/-- A gap is longer than a frame allows: a receive timeout (R180). -/
def gapExceeded (gap : Nat) : Bool := decide (longestGap < gap)

/-- The receiver once `gap` µs have passed without a byte: a timeout discards the frame being received (R180). -/
def waited (gap : Nat) (r : Receiver) : Receiver := if gapExceeded gap then huntReceiver else r

/-- The requests a run of bytes completes, in order, with the receiver after it. The byte that ends a gap of more than 20 ms is
taken in HUNT (R180). -/
def takeBytes : Receiver → List LineByte → Receiver × List Frame
  | r, [] => (r, [])
  | r, b :: bs =>
    let (r', f) := takeByte (waited b.gap r) b.byte
    let (r'', fs) := takeBytes r' bs
    (r'', f.toList ++ fs)

/-- The frame being received is dropped and the receiver returns to HUNT (R180, R181). -/
def dropFrame (s : State) : State := s.onLink fun l => { l with receiver := huntReceiver }

/-! ## Notices (R187, R188) -/

/-- The monitor a subject names; subjects of CRITICAL and LIMIT are below 16 (R186). -/
def subjectMonitor (n : Nat) : Fin 16 := ⟨n % 16, Nat.mod_lt _ (by decide)⟩

def subjectRun (n : Nat) : RunId := ⟨n % 4, Nat.mod_lt _ (by decide)⟩

/-- The payload of a notice before its station time, from the state of its subject. -/
def noticePayload (n : Notice) (s : State) : List Byte :=
  match n.cls with
  | .critical | .limit =>
    let m := s.monitors.each.get (subjectMonitor n.subject)
    bytesLE 1 n.subject ++ bytesLE 1 m.conditionByte ++ bytesLE 4 (m.last.getD 0)
  | .dosing =>
    bytesLE 1 s.dose.mode.code ++ bytesLE 1 s.dose.state.code ++ bytesLE 4 s.dose.account
      ++ bytesLE 2 s.dose.trim ++ bytesLE 1 (Side.code s.dose.duty)
      ++ bytesLE 1 s.pump.a.state.code ++ bytesLE 1 s.pump.b.state.code
  | .run =>
    let r := s.run.get (subjectRun n.subject)
    bytesLE 1 n.subject ++ bytesLE 1 r.state.code ++ bytesLE 2 r.settle
      ++ bytesLE 1 (s.pulse.get (subjectRun n.subject)).integrityByte
  | .period =>
    match s.recorder.ring with
    | [] => bytesLE 12 0
    | r :: _ =>
      bytesLE 4 r.sequence.toNat ++ bytesLE 1 r.cause.code ++ bytesLE 2 r.intervals
        ++ bytesLE 4 r.duration ++ bytesLE 1 s.recorder.ring.length
  | .timer => bytesLE 1 n.subject

/-- A notice built: kind 0xE0 + class code, tag 0, the payload and the station time (R188). -/
def buildNotice (n : Notice) (s : State) : Frame :=
  { kind := byteOf (0xE0 + n.cls.code), tag := 0
    payload := noticePayload n s ++ bytesLE 4 s.now.toNat }

/-! ## The transmitter (R178, R182, R187) -/

/-- The line time of a frame: 10 bit times a byte, in µs times bit/s (R178). -/
def lineTime (f : Frame) : Nat := 10 * (frameBytes f).length * 1000000

def sending (f : Frame) : Sending := ⟨f, lineTime f⟩

/-- An IDLE transmitter takes the oldest reply, or else picks the first pending pair (R182, R187).
Once the RESTART reply has been sent in full it takes no further frame (log entry 14). -/
def serveLink (s : State) : State :=
  if s.live && !s.time.restartDue && s.link.tx.isNone then
    match s.link.queue, s.link.notices with
    | reply :: rest, _ => s.onLink fun l => { l with queue := rest, tx := some (sending reply) }
    | [], n :: rest =>
      s.onLink fun l => { l with notices := rest, tx := some (sending (buildNotice n s)) }
    | [], [] => s
  else s

end Sys2Proof.Machine
end

