-- ==== Sys2Proof/Machine/StoreOps.lean ====
section
/-! DEFINITION. The store's writes (R172, R173): what a write takes from memory, when it starts, what its completion does. -/

namespace Sys2Proof.Machine

/-- A store write takes 30 ms (R172). -/
def writeTime : Nat := 30000

/-- The records of the ring newer than the stored-through sequence, newest first (R146). -/
def unstoredRecords (ring : List PeriodRecord) (storedThrough : Option Time) : List PeriodRecord :=
  ring.takeWhile fun r => decide (some r.sequence ≠ storedThrough)

/-- The drive age, or the marker that recent drive is clear (R99). -/
def driveAge (s : State) : Option Nat :=
  if s.dose.recentDrive then s.dose.lastDrive.map fun d => (s.now - d).toNat else none

/-- The content of the RESUME item as memory stands (R173). -/
def resumeContent (s : State) : ResumeRecord :=
  { buildRuns := s.settings.build.runs
    buildPumps := s.settings.build.pumps
    intervalCount := s.time.periodCount
    elapsed := (s.now - s.time.periodOpen).toNat
    lastIndex := s.recorder.lastIndex
    runs := s.recorder.runs
    station := s.recorder.station
    lastSequence := s.recorder.lastSequence
    unstored := unstoredRecords s.recorder.ring s.recorder.storedThrough
    totals := s.recorder.totals
    runStates := s.run.map (·.state)
    residues := s.conv.residue
    account := s.dose.account
    owedResidue := s.dose.residue
    trim := s.dose.trim
    duty := s.dose.duty
    driveAge := driveAge s
    pumpFailed := s.pump.map fun p => p.state == .failed
    heatingValue := s.settings.heatingValue }

/-- The content of an item as memory stands. -/
def itemContent (s : State) : StoreItem → StoreContent
  | .resume => .resume (resumeContent s)
  | .ring => .ring s.recorder.ring s.recorder.lastSequence
  | .flags => .flags s.settings.protection
  | .sectionCopy .station => .station s.settings.active.station
  | .sectionCopy (.run r) => .run r (s.settings.active.run.get r)
  | .sectionCopy .odorant => .odorant s.settings.active.odorant
  | .sectionCopy .compress => .compress s.settings.active.compress
  | .sectionCopy .monitors => .monitors s.settings.active.monitors

/-- The write of an item starts: the item leaves the list and its content is taken. -/
def startWrite (item : StoreItem) (s : State) : State :=
  s.onStore fun st =>
    { st with
      list := st.list.unmark item
      writing := some { content := itemContent s item, left := writeTime, stale := false } }

/-- With no item in progress, the warning's RESUME write starts in HALT (R177),
and in WARMUP and RUNNING the list's first item (R172). -/
def serveStore (s : State) : State :=
  if s.store.writing.isSome then s
  else if s.store.warningResume then
    startWrite .resume (s.onStore fun st => { st with warningResume := false })
  else if s.live then
    match s.store.list.first? with
    | some item => startWrite item s
    | none => s
  else s

/-- The stored copy of an item replaced whole, passing its check. -/
def Store.put (c : StoreContent) (st : Store) : Store :=
  match c with
  | .resume r => { st with resume := .valid r }
  | .ring rs _ => { st with ring := .valid rs }
  | .flags f => { st with flags := .valid f }
  | .station x => { st with sections := { st.sections with station := .valid x } }
  | .run r x => { st with sections := { st.sections with run := st.sections.run.set r (.valid x) } }
  | .odorant x => { st with sections := { st.sections with odorant := .valid x } }
  | .compress x => { st with sections := { st.sections with compress := .valid x } }
  | .monitors x => { st with sections := { st.sections with monitors := .valid x } }

/-- The stored copy of an item left failing its check (R173). -/
def Store.spoil (item : StoreItem) (st : Store) : Store :=
  match item with
  | .resume => { st with resume := .failing }
  | .ring => { st with ring := .failing }
  | .flags => { st with flags := .failing }
  | .sectionCopy .station => { st with sections := { st.sections with station := .failing } }
  | .sectionCopy (.run r) =>
    { st with sections := { st.sections with run := st.sections.run.set r .failing } }
  | .sectionCopy .odorant => { st with sections := { st.sections with odorant := .failing } }
  | .sectionCopy .compress => { st with sections := { st.sections with compress := .failing } }
  | .sectionCopy .monitors => { st with sections := { st.sections with monitors := .failing } }

/-- The marks a completed write answers: unstored, flags unstored, the stored-through sequence (R146, R163, R172). -/
def clearMarks (w : StoreWrite) (s : State) : State :=
  match w.content with
  | .ring _ q => s.onRecorder fun r => { r with storedThrough := q }
  | .resume _ => s
  | .flags _ =>
    if w.stale then s else s.onSettings fun g => { g with flagsUnstored := false }
  | c =>
    match c.item with
    | .sectionCopy i =>
      if w.stale then s
      else s.onSettings fun g => { g with unstored := g.unstored.set i false }
    | _ => s

/-- A write completes: the stored copy is replaced and its marks are cleared. -/
def completeWrite (w : StoreWrite) (s : State) : State :=
  (clearMarks w s).onStore fun st => { st.put w.content with writing := none }

/-- No write is in progress and none of the warning's is owed: its store work has ended (R177). -/
def State.storeWorkDone (s : State) : Bool := s.store.writing.isNone && !s.store.warningResume

end Sys2Proof.Machine
end

