-- ==== Sys2Proof/Machine/Events.lean ====
section
/-! DEFINITION. How a command is taken: time passes, the event takes place if its time has come, and a request is answered. -/

namespace Sys2Proof.Machine

/-- The outcome of a step of this machine. -/
abbrev Result := Host.Outcome State Fault Refusal

/-- What ends every event: the store starts a write and the transmitter takes a frame, where each is free to
(R172, R182, R187; log entries 9 and 10). -/
def finish (s : State) : State := serveLink (serveStore s)

/-- An event `after` µs later: if its guard holds it takes place; an event whose guard fails does not occur (log entry 3). -/
def event (after : Nat) (guard : State → Bool) (body : State → State) (s : State) : Result :=
  let s := s.elapse after
  .next (if guard s then finish (body s) else s)

/-! ## Requests (R174, R181) -/

/-- The outcome codes of R181. -/
inductive OutcomeCode where
  | ok
  | unknownKind
  | badLength
  | badValue
  | noSubject
  | busy
  | isProtected
  | locked
  | wrongState
  | tableFull
  | switchClosed
  | notFound
  | warming
deriving DecidableEq, Repr

def OutcomeCode.code : OutcomeCode → Nat
  | .ok => 0
  | .unknownKind => 1
  | .badLength => 2
  | .badValue => 3
  | .noSubject => 4
  | .busy => 5
  | .isProtected => 6
  | .locked => 7
  | .wrongState => 8
  | .tableFull => 9
  | .switchClosed => 10
  | .notFound => 11
  | .warming => 12

/-- What a request comes to: its outcome and reply data, and the state it leaves. -/
structure Answer where
  outcome : OutcomeCode
  data : List Byte
  state : State

/-- A refused request changes nothing and its reply carries the outcome byte alone (R181). -/
def refuse (o : OutcomeCode) (s : State) : Answer := ⟨o, [], s⟩

def accept (data : List Byte) (s : State) : Answer := ⟨.ok, data, s⟩

/-- The reply kind: request kind + 0x80, or 0xFF to an unknown kind (R181). -/
def replyKind (o : OutcomeCode) (kind : Byte) : Byte :=
  match o with
  | .unknownKind => 0xFF#8
  | _ => kind + 0x80#8

/-- The payload of a reply: the outcome byte, then the data when the outcome is OK. -/
def replyPayload (o : OutcomeCode) (data : List Byte) : List Byte :=
  bytesLE 1 o.code ++ (match o with
    | .ok => data
    | _ => [])

def queueReply (f : Frame) (s : State) : State := s.onLink fun l => { l with queue := l.queue ++ [f] }

/-- A request dispatched (R181): discarded when four replies wait; else carried out, its notices served, its reply appended. -/
def dispatch (kind tag : Byte) (carryOut : State → Answer) (s : State) : State :=
  if 4 ≤ s.link.queue.length then s
  else
    let a := carryOut s
    finish (queueReply ⟨replyKind a.outcome kind, tag, replyPayload a.outcome a.data⟩
      (finish a.state))

/-- A known request other than IDENT and STATION_STATUS is refused with WARMING in WARMUP, before any other check (R174). -/
def unlessWarming (carryOut : State → Answer) (s : State) : Answer :=
  if s.time.phase = .warmup then refuse .warming s else carryOut s

/-- A payload of exactly `n` bytes, or BAD_LENGTH, where the chapter's order of checks gives it (R183), and for the four requests
of log entry 36. -/
def withLength (n : Nat) (payload : List Byte) (carryOut : State → Answer) (s : State) : Answer :=
  if payload.length = n then carryOut s else refuse .badLength s

/-- The frame of a request ends `after` µs later: the receiver is in HUNT again and the request is dispatched (R180, R181).
The link takes nothing in HALT or with power off. -/
def request (after : Nat) (kind tag : Byte) (carryOut : State → Answer) (s : State) : Result :=
  let s := s.elapse after
  .next (if s.live then dispatch kind tag carryOut (dropFrame s) else s)

end Sys2Proof.Machine
end

