-- ==== Sys2Proof/Machine/MonitorOps.lean ====
section
/-! DEFINITION. Limit monitors (chapter 9): evaluations, notices, the ALARM line, settings applied, runs taken out. -/

namespace Sys2Proof.Machine

/-- The run a monitor belongs to: M(k), M(4 + k) and M(8 + k) to run k (R151). -/
def monitorRun (m : Fin 16) : Option RunId := if m.val < 12 then some (monitorPlace m) else none

/-- The channel a monitor watches (R34). -/
def monitorChannel (m : Fin 16) : Option ChannelId :=
  match m.val / 4 with
  | 0 => none
  | 1 => some (.p (monitorPlace m))
  | 2 => some (.t (monitorPlace m))
  | _ => if m = 12 then some .hdr else if m = 13 then some .tank else none

def rateMonitor (r : RunId) : Fin 16 := ⟨r.val, by omega⟩

/-- The monitor of a channel (R34). -/
def channelMonitor : ChannelId → Fin 16
  | .p r => ⟨4 + r.val, by omega⟩
  | .t r => ⟨8 + r.val, by omega⟩
  | .hdr => 12
  | .tank => 13

/-- The standing of a monitor's evaluation (R161, R184). -/
inductive Standing where
  | evaluated
  | disabled
  | runOut
  | notFitted
  | inputFailed
deriving DecidableEq, Repr

def Standing.code : Standing → Nat
  | .evaluated => 0
  | .disabled => 1
  | .runOut => 2
  | .notFitted => 3
  | .inputFailed => 4

/-- The first case of R151 that holds. -/
def standing (m : Fin 16) (s : State) : Standing :=
  if !(s.settings.active.monitors.get m).enabled then .disabled
  else
    match monitorRun m with
    | some r =>
      if !s.fitted r then .notFitted
      else if (s.run.get r).state = .out then .runOut
      else
        match monitorChannel m with
        | some c => if (channelOf s.loop c).usable then .evaluated else .inputFailed
        | none => .evaluated
    | none =>
      match monitorChannel m with
      | some c => if (channelOf s.loop c).usable then .evaluated else .inputFailed
      | none => .evaluated

/-- The notices a change of a monitor raises (R156). -/
def monitorNotices (m : Fin 16) (was is : MonitorState) (s : State) : State :=
  let s := if is.critical && !was.critical then raise .critical m.val s else s
  if is.event && !was.event && !is.critical then raise .limit m.val s else s

def setMonitor (m : Fin 16) (x : MonitorState) (s : State) : State :=
  s.onMonitors fun b => { b with each := b.each.set m x }

/-- The evaluation of a monitor on a delivered value (R150), when no case of R151 forbids it. -/
def evaluate (m : Fin 16) (v : Nat) (s : State) : State :=
  if standing m s = .evaluated then
    let was := s.monitors.each.get m
    let is := evaluated (lowSense m) (s.settings.active.monitors.get m) v was
    monitorNotices m was is (setMonitor m is s)
  else s

/-! ## The ALARM line (R158) -/

def anyEvent (b : Sixteen MonitorState) : Bool :=
  b.rate.toList.any (·.event) || b.pressure.toList.any (·.event)
    || b.temperature.toList.any (·.event) || b.station.toList.any (·.event)

/-- The level of the ALARM line: off in HALT and without power, else on while a cause holds (R38, R158). -/
def State.alarm (s : State) : Bool :=
  s.live && (anyEvent s.monitors.each || s.dose.state == .fault
    || s.pump.a.state == .failed || s.pump.b.state == .failed)

/-! ## EVENT_CLEAR (R155) -/

/-- A monitor after EVENT_CLEAR: in LATCH the latch is cleared, and set again at once while LOW or HIGH is set. -/
def acknowledged (c : MonitorSettings) (m : MonitorState) : MonitorState :=
  match c.mode with
  | .latch => MonitorState.formed .latch { m with latch := m.low || m.high }
  | _ => m

/-- Whether a monitor is enabled and not held cleared for an OUT or unfitted run. -/
def monitorActs (m : Fin 16) (s : State) : Bool :=
  (s.settings.active.monitors.get m).enabled &&
    (match monitorRun m with
     | some r => s.fitted r && (s.run.get r).state != .out
     | none => true)

def clearEvent (m : Fin 16) (s : State) : State :=
  if monitorActs m s then
    setMonitor m (acknowledged (s.settings.active.monitors.get m) (s.monitors.each.get m)) s
  else s

/-! ## Settings applied (R157) and runs taken out (R160) -/

/-- A monitor taking its new settings, before its event is formed anew. -/
def retuned (old new : MonitorSettings) (m : MonitorState) : MonitorState :=
  if !new.enabled || !old.enabled then clearedMonitor
  else
    match old.mode, new.mode with
    | .latch, .latch => m
    | _, .latch => { m with latch := m.low || m.high }
    | .latch, _ => { m with latch := false }
    | _, _ => m

/-- One monitor takes its new settings at the boundary, with its notice. -/
def retuneMonitor (old new : MonitorsSection) (s : State) (m : Fin 16) : State :=
  let was := s.monitors.each.get m
  let is := if (new.get m).enabled then
      MonitorState.formed (new.get m).mode (retuned (old.get m) (new.get m) was)
    else clearedMonitor
  monitorNotices m was is (setMonitor m is s)

def monitorIds : List (Fin 16) := [0, 1, 2, 3, 4, 5, 6, 7, 8, 9, 10, 11, 12, 13, 14, 15]

/-- Every monitor takes the settings of the MONITORS copy that became active. -/
def retuneMonitors (old new : MonitorsSection) (s : State) : State :=
  monitorIds.foldl (retuneMonitor old new) s

/-- A run's three monitors set to normal (R46, R160). -/
def clearRunMonitors (r : RunId) (s : State) : State :=
  s.onMonitors fun b =>
    { b with each :=
        { b.each with
          rate := b.each.rate.set r clearedMonitor
          pressure := b.each.pressure.set r clearedMonitor
          temperature := b.each.temperature.set r clearedMonitor } }

/-- Every monitor cleared, the limit lock kept (R162). -/
def clearMonitors (s : State) : State := s.onMonitors fun b => { b with each := .all clearedMonitor }

end Sys2Proof.Machine
end

