-- ==== Sys2Proof/Machine/DoseOps.lean ====
section
/-! DEFINITION. The dose controller and the pump units (chapters 5 and 6): the account, strokes, duty, the trim. -/

namespace Sys2Proof.Machine

/-! ## Scheduling (R85, R86) -/

def State.duty (s : State) : Side := s.dose.duty

def State.pumpReady (s : State) (p : Side) : Bool := (s.pump.get p).state == .ready

/-- The due time of a STROKE entry placed now (R86). -/
def strokeDue (s : State) : Time :=
  match s.dose.recentDrive, s.dose.lastDrive with
  | true, some d =>
    if reached (d + ms s.odorant.spacing) s.now then s.now else d + ms s.odorant.spacing
  | _, _ => s.now

/-- Whether a stroke is owed and can be served (R85). -/
def strokeOwed (s : State) : Bool :=
  s.dose.mode == .auto && s.dose.state == .armed && s.pumpReady s.duty
    && decide (s.odorant.strokeMass ≤ s.dose.account)

/-- The scheduling check: a stroke owed gets its STROKE entry, and the state becomes STROKE_WAIT (R85). -/
def schedulingCheck (s : State) : State :=
  if strokeOwed s then
    let e : Entry :=
      { owner := .dosing, kind := .stroke, target := Side.code s.duty, due := strokeDue s }
    (s.onTable (·.place e)).onDose fun d =>
      { d with state := .strokeWait, massInFlight := s.odorant.strokeMass }
  else s

/-! ## The account (R80, R81, R82, R96) -/

/-- The dose debt in parts per thousand of the cap (R96). -/
def doseDebt (s : State) : Nat := s.dose.account * 1000 / s.odorant.cap

/-- The debt handed to M14 (R96). -/
def debtToMonitor (s : State) : State := evaluate 14 (doseDebt s) s

/-- Y of R80, in units of 10⁻⁹ µg. -/
def owedDividend (vbs : Nat) (s : State) : Nat :=
  s.odorant.target * vbs * s.dose.trim + s.dose.residue

def nano : Nat := 1000000000

/-- Owed odorant formed and put to the account or to forgone (R80, R81). -/
def accrueAccount (vbs : Nat) (s : State) : State :=
  let y := owedDividend vbs s
  let owed := y / nano
  let sum := s.dose.account + owed
  let kept := if s.dose.mode = .auto then min sum s.odorant.cap else s.dose.account
  let forgone := if s.dose.mode = .auto then sum - s.odorant.cap else owed
  (s.onDose fun d => { d with residue := y % nano, account := kept })
    |> onStation fun a => { a with owed := a.owed + owed, forgone := a.forgone + forgone }

/-- The dose controller's work at an interval close: accrual, the debt monitor, and the check when A has increased. -/
def accrue (vbs : Nat) (s : State) : State :=
  let s' := debtToMonitor (accrueAccount vbs s)
  if s.dose.account < s'.dose.account then schedulingCheck s' else s'

/-- All of A moved to forgone (R84, R98). -/
def forgoAccount (s : State) : State :=
  (s.onDose fun d => { d with account := 0 })
    |> onStation fun a => { a with forgone := a.forgone + s.dose.account }

/-- The excess of A over the active cap moved to forgone (R82, R100). -/
def forgoExcess (s : State) : State :=
  (s.onDose fun d => { d with account := min d.account s.odorant.cap })
    |> onStation fun a => { a with forgone := a.forgone + (s.dose.account - s.odorant.cap) }

/-- A mode put in force, marked in the period's dosing mode flags (R84, R95). -/
def setMode (m : DosingMode) (s : State) : State :=
  (s.onDose fun d => { d with mode := m }) |> onStation fun a => { a with modes := a.modes.mark m }

def setDosingState (x : DosingState) (s : State) : State := s.onDose fun d => { d with state := x }

/-- The STROKE entry removed and no stroke scheduled (R84, R91). -/
def withdrawStroke (s : State) : State :=
  (s.onTable (·.drop isStroke)).onDose fun d => { d with massInFlight := 0 }

/-! ## Duty (R90, R91, R108, R112) -/

/-- FAULT entered, with its notice (R96). -/
def enterFault (s : State) : State := raiseDosing (setDosingState .fault s)

/-- Duty passes to the other pump and is counted (R112). -/
def changeover (s : State) : State :=
  raiseDosing ((s.onDose fun d => { d with duty := d.duty.other })
    |> onStation fun a => { a with changeovers := a.changeovers + 1 })

/-- A pump fails: FAILED, its line left as it is, and a changeover when it was on duty and the other is READY (R108, R112). -/
def failPump (p : Side) (s : State) : State :=
  let s := raiseDosing (s.onPump (·.modify p fun x => { x with state := .failed }))
  if s.duty = p && s.pumpReady p.other then changeover s else s

/-- What the dosing state becomes after the pump `p` has failed by stray edges (R91, R108).
In CONFIRM_WAIT the state waits for the stroke's outcome. -/
def afterStrayFailure (p : Side) (wasDuty : Bool) (s : State) : State :=
  if wasDuty && s.dose.mode == .auto && s.dose.state != .confirmWait then
    let s := if s.dose.state = .strokeWait then withdrawStroke s else s
    if s.duty = p then enterFault s else schedulingCheck (setDosingState .armed s)
  else s

/-- A pump that has just become READY, at a drive's end or by PUMP_RESET: the duty change of R90, the end of FAULT (R91)
and the check. -/
def pumpBecameReady (p : Side) (s : State) : State :=
  let s := if !s.pumpReady s.duty && s.dose.state != .confirmWait then
      s.onDose fun d => { d with duty := p }
    else s
  let s := if s.dose.state = .fault then raiseDosing (setDosingState .armed s) else s
  schedulingCheck s

/-! ## Drives (R87, R92, R102, R103, R104) -/

/-- The end of a drive (R103). -/
def endDrive (p : Side) (s : State) : State :=
  let x := s.pump.get p
  let off : Pump := { x with line := false, driveEnd := none, confirmedInDrive := false }
  match x.state, x.confirmedInDrive with
  | .driving, false => s.onPump (·.set p { off with state := .await })
  | .driving, true => pumpBecameReady p (s.onPump (·.set p { off with state := .ready }))
  | _, _ => s.onPump (·.set p off)

/-- The drive's end has been reached. -/
def driveEnded (p : Side) (s : State) : Bool :=
  match (s.pump.get p).driveEnd with
  | some d => reached d s.now
  | none => false

/-- A drive in progress whose end has been reached is ended first (R104). -/
def endDriveIfReached (p : Side) (s : State) : State := if driveEnded p s then endDrive p s else s

/-- The due time of the CONFIRM entry of a drive started now (R102). -/
def confirmDue (s : State) : Time := s.now + ms s.odorant.confirmWindow

/-- A READY pump's drive starts now: line on, DRIVING, its CONFIRM entry placed, last drive set (R86, R87, R102). -/
def startDrive (p : Side) (s : State) : State :=
  let e : Entry :=
    { owner := .dosing, kind := .confirm, target := Side.code p, due := confirmDue s }
  ((s.onPump (·.modify p fun x =>
      { x with state := .driving, line := true, confirmedInDrive := false
               driveEnd := some (s.now + ms s.odorant.driveWidth) })).onTable (·.place e)).onDose
    fun d => { d with lastDrive := some s.now, recentDrive := true }

/-- The drive of an automatic stroke (R87, R104). A pump that is not READY starts none (R101). -/
def autoDrive (p : Side) (s : State) : State :=
  let s := endDriveIfReached p.other s
  if s.pumpReady p then setDosingState .confirmWait (startDrive p s) else s

/-- The drive of a manual stroke (R92, R114). -/
def manualDrive (p : Side) (s : State) : State :=
  (startDrive p s).onDose fun d =>
    { d with state := .manualWait, massInFlight := s.odorant.strokeMass }

/-! ## Outcomes (R88, R89, R92) -/

/-- A confirmed automatic stroke draws down the account; what the account did not hold is surplus (R88). -/
def drawDown (s : State) : State :=
  let drawn := min s.dose.account s.dose.massInFlight
  (s.onDose fun d =>
      { d with account := d.account - drawn, massInFlight := 0, state := .armed })
    |> onStation fun a =>
      { a with autoDelivered := a.autoDelivered + drawn
               surplus := a.surplus + (s.dose.massInFlight - drawn) }

/-- A confirmed outcome taken by the dose controller. -/
def confirmedOutcome (s : State) : State :=
  match s.dose.state with
  | .confirmWait => schedulingCheck (debtToMonitor (drawDown s))
  | .manualWait =>
    debtToMonitor ((s.onDose fun d => { d with massInFlight := 0, state := .idle })
      |> onStation fun a => { a with manualMass := a.manualMass + s.dose.massInFlight })
  | _ => s

/-- A missed outcome taken by the dose controller, the pump's failure and changeover made already (R89, R109). -/
def missedOutcome (p : Side) (s : State) : State :=
  match s.dose.state with
  | .confirmWait =>
    let s := s.onDose fun d => { d with massInFlight := 0, state := .armed }
    if s.duty = p && (s.pump.get p).state == .failed then debtToMonitor (enterFault s)
    else schedulingCheck (debtToMonitor s)
  | .manualWait =>
    debtToMonitor ((s.onDose fun d => { d with massInFlight := 0, state := .idle })
      |> onStation fun a => { a with manualMisses := a.manualMisses + 1 })
  | _ => s

/-! ## Sense edges and deadlines (R105, R106, R109, R110, R111) -/

/-- A sense edge confirms when the pump is DRIVING or AWAIT and its CONFIRM entry is in the table (R105). -/
def confirms (p : Side) (s : State) : Bool :=
  ((s.pump.get p).state == .driving || (s.pump.get p).state == .await)
    && s.table.any (isConfirmOf p)

/-- A pump at a confirming edge: DRIVING keeps driving, AWAIT becomes READY (R105). -/
def pumpConfirmed (x : Pump) : Pump :=
  match x.state with
  | .driving => { x with misses := 0, confirmedInDrive := true }
  | _ => { x with misses := 0, state := .ready }

/-- A confirming edge (R105). -/
def confirmStroke (p : Side) (s : State) : State :=
  (((s.onTable (·.drop (isConfirmOf p))).onPump (·.modify p pumpConfirmed))
    |> onStrokes p fun c => { c with confirmed := c.confirmed + 1 })
    |> raiseDosing |> confirmedOutcome

/-- A stray edge (R110, R111). -/
def strayEdge (p : Side) (s : State) : State :=
  let s := raiseDosing (onStrokes p (fun c => { c with stray := c.stray + 1 }) s)
  let x := s.pump.get p
  if x.state = .ready || x.state = .driving then
    let s := s.onPump (·.modify p fun x => { x with strays := x.strays + 1 })
    if s.odorant.strayLimit ≤ x.strays + 1 then
      afterStrayFailure p (s.duty == p) (failPump p s)
    else s
  else s

/-- The CONFIRM deadline of a pump in AWAIT: the stroke is missed (R106, R109). -/
def missStroke (p : Side) (s : State) : State :=
  let x := s.pump.get p
  let s := raiseDosing ((s.onPump (·.set p { x with misses := x.misses + 1, state := .ready }))
    |> onStrokes p fun c => { c with missed := c.missed + 1 })
  let s := if s.odorant.missLimit ≤ x.misses + 1 then failPump p s else s
  missedOutcome p s

/-- The deadline taken by the pump unit. A drive whose end has been reached and not yet been taken is ended first
(log entry 20); a pump not awaiting proof has no stroke to miss (log entry 35). -/
def deadline (p : Side) (s : State) : State :=
  let s := endDriveIfReached p s
  if (s.pump.get p).state = .await then missStroke p s else s

/-! ## The trim (R93, R94) -/

/-- The trim flag of a reading: the first test of R93 that holds. -/
def trimFlag (m : Nat) (s : State) : TrimFlag :=
  if s.dose.mode ≠ .auto then .notAuto
  else if m = 0 ∨ 3 * s.odorant.target < m then .implausible
  else if s.dose.trimHoldOff.isSome then .held
  else .applied

/-- The trim after an APPLIED reading: τ + τ × e / (8 × t) truncated, held within 8,000..12,500 (R94). -/
def updatedTrim (trim target m : Nat) : Nat :=
  let step := truncated ((trim : Int) * ((target : Int) - (m : Int))) (8 * target)
  (max 8000 (min 12500 ((trim : Int) + step))).toNat

/-- The dose controller's part of a reading (R93, R94). -/
def takeReading (m : Nat) (s : State) : State :=
  let flag := trimFlag m s
  let s := s.onDose fun d => { d with lastReading := some (m, flag) }
  if flag = .applied then
    raiseDosing (s.onDose fun d =>
      { d with trim := updatedTrim d.trim s.odorant.target m
               trimHoldOff := some (s.now + ms (s.odorant.trimHoldOff * 1000)) })
  else s

/-! ## Start (R98, R100, R118, R119) -/

/-- A stroke is in flight: DRIVING not confirmed, or AWAIT (R118). -/
def Pump.strokeInFlight (x : Pump) : Bool :=
  (x.state == .driving && !x.confirmedInDrive) || x.state == .await

/-- ABANDONED set for a stroke in flight (R118, R119). -/
def markAbandoned (s : State) : State :=
  if s.pump.a.strokeInFlight || s.pump.b.strokeInFlight then
    onStation (fun a => { a with abandoned := true }) s
  else s

/-- A pump at a restart (R119): DRIVING and AWAIT become READY, everything of the drive is cleared. -/
def restartedPump (x : Pump) : Pump :=
  freshPump (match x.state with
    | .driving | .await => .ready
    | st => st)

/-- The duty pump chosen at a start (R98 step 2). -/
def startDuty (s : State) : Side :=
  let want := s.odorant.preferred
  if s.pumpReady want then want
  else if s.pumpReady want.other then want.other
  else if s.pumpIsFitted s.duty then s.duty else .a

/-- The start mode of the active ODORANT section, OFF when it is DEFAULTED (R98 step 1). -/
def startMode (s : State) : DosingMode :=
  if s.odorant.startAuto && !s.settings.defaulted.odorant then .auto else .off

/-- Steps 1 to 5 of R98. -/
def startDosing (s : State) : State :=
  let s := setMode (startMode s) s
  let s := s.onDose fun d => { d with duty := startDuty s }
  match s.dose.mode with
  | .auto =>
    let s := setDosingState (if s.pumpReady s.duty then .armed else .fault) s
    raiseDosing (schedulingCheck s)
  | _ => setDosingState .idle (forgoAccount s)

end Sys2Proof.Machine
end

