-- ==== Sys2Proof/Machine/FieldOps.lean ====
section
/-! DEFINITION. Field inputs (chapter 2): pulse edges, the scan, scaling, failure and recovery, and the run states they move (R44). -/

namespace Sys2Proof.Machine

/-! ## Pulse edges (R19, R20, R21, R26) -/

/-- A pulse channel's hold-off lasts 50 µs of capture clock (R19). -/
def pulseHoldOff : Nat := 50

/-- The hold-off started at a capture time has run its 50 µs. -/
def holdOffOver (started now : Time) : Bool := decide (pulseHoldOff ≤ (now - started).toNat)

/-- Whether an edge is accepted: the hold-off has ended, or ends at this instant (R19). -/
def edgeAccepted (hold : Option Time) (now : Time) : Bool :=
  match hold with
  | none => true
  | some t => holdOffOver t now

/-- A time appended to a ring of at most 8, the oldest discarded when it is full (R21). -/
def appendRing (t : Time) (ring : List Time) : List Time :=
  if ring.length < 8 then ring ++ [t] else ring.drop (ring.length - 7) ++ [t]

/-- An accepted edge of a run that is not OUT: counted and ringed (R20). -/
def countEdge (ch : Side) (now : Time) (p : PulseRun) : PulseRun :=
  { p with count := p.count.modify ch (· + 1), ring := p.ring.modify ch (appendRing now) }

/-- An accepted edge of an OUT run: channel A to the maintenance count, channel B discarded (R20, R26). -/
def maintainEdge (ch : Side) (p : PulseRun) : PulseRun :=
  match ch with
  | .a => { p with maintenance := p.maintenance + 1 }
  | .b => p

/-- An accepted edge starts the hold-off and is routed by the run's state (R19, R20). -/
def takeEdge (ch : Side) (out : Bool) (now : Time) (p : PulseRun) : PulseRun :=
  let p := { p with holdOff := p.holdOff.set ch (some now) }
  if out then maintainEdge ch p else countEdge ch now p

/-- Whether a pulse edge is accepted: a fitted run's, in WARMUP or RUNNING, outside the hold-off. -/
def pulseTaken (r : RunId) (ch : Side) (s : State) : Bool :=
  s.live && s.fitted r && edgeAccepted ((s.pulse.get r).holdOff.get ch) s.time.captureClock

def pulseEdge (r : RunId) (ch : Side) (s : State) : State :=
  s.onPulse (·.modify r (takeEdge ch ((s.run.get r).state == .out) s.time.captureClock))

/-- The hold-off of a channel is running and its 50 µs have passed. -/
def pulseHoldOffDone (r : RunId) (ch : Side) (s : State) : Bool :=
  match (s.pulse.get r).holdOff.get ch with
  | some t => s.time.phase != .off && holdOffOver t s.time.captureClock
  | none => false

def endPulseHoldOff (r : RunId) (ch : Side) (s : State) : State :=
  s.onPulse (·.modify r fun p => { p with holdOff := p.holdOff.set ch none })

/-! ## The scan (R28, R29, R30) -/

def scanOrder : List ChannelId :=
  [.p 0, .t 0, .p 1, .t 1, .p 2, .t 2, .p 3, .t 3, .hdr, .tank]

/-- A channel is fitted with its run; HDR and TANK always (section 2.3). -/
def channelFitted (s : State) : ChannelId → Bool
  | .p r => s.fitted r
  | .t r => s.fitted r
  | _ => true

/-- The channels a scan converts, in order. -/
def scanList (s : State) : List ChannelId := scanOrder.filter (channelFitted s)

/-- The channel after a given one in a list. -/
def channelAfter (c : ChannelId) : List ChannelId → Option ChannelId
  | [] => none
  | x :: rest => if x = c then rest.head? else channelAfter c rest

/-- The conversion of a channel starts, or the converter is IDLE. -/
def convert (c : Option ChannelId) (s : State) : State :=
  s.onLoop fun l =>
    { l with converter := match c with
        | some c => .converting c conversionTime
        | none => .idle }

/-- A scan begins with the first fitted channel; a conversion in progress is discarded (R28, R29). -/
def startScan (s : State) : State := convert (scanList s).head? s

/-- After a completion: the next fitted channel; after TANK the converter is IDLE, but in WARMUP the next scan begins (R28, R30). -/
def nextConversion (c : ChannelId) (s : State) : State :=
  match channelAfter c (scanList s) with
  | some d => convert (some d) s
  | none => if s.time.phase = .warmup then startScan s else convert none s

/-! ## Scaling (R31, R33) -/

/-- The range a channel is scaled over: LRV and URV of the active copy. -/
def rangeOf (a : ActiveSections) : ChannelId → Nat × Nat
  | .p r => ((a.run.get r).pLrv, (a.run.get r).pUrv)
  | .t r => ((a.run.get r).tLrv, (a.run.get r).tUrv)
  | .hdr => (a.station.hdrLrv, a.station.hdrUrv)
  | .tank => (a.odorant.tankLrv, a.odorant.tankUrv)

/-- What is added to make a reading absolute: the atmospheric pressure for a GAUGE pressure channel (R33). -/
def absoluteOffset (a : ActiveSections) (c : ChannelId) : Nat :=
  let gauge : Bool := match c with
    | .p r => (a.run.get r).pType == .gauge
    | .hdr => a.station.hdrType == .gauge
    | _ => false
  if gauge then a.station.atmospheric else 0

/-- The zone of a loop current and the value it gives; none out of bounds (R31). -/
def scaled (lrv urv current : Nat) : Option (ChannelState × Nat) :=
  if inRange 4000 20000 current then
    some (.valid, lrv + roundHalfUp ((current - 4000) * (urv - lrv)) 16000)
  else if inRange 3800 3999 current then some (.clampedLow, lrv)
  else if inRange 20001 20500 current then some (.clampedHigh, urv)
  else none

/-- The reading of a channel from a current; one beyond 25,000 µA is delivered as 25,000 (R31). -/
def reading (a : ActiveSections) (c : ChannelId) (current : Nat) : Option (ChannelState × Nat) :=
  (scaled (rangeOf a c).1 (rangeOf a c).2 (min current 25000)).map fun x =>
    (x.1, x.2 + absoluteOffset a c)

/-- A channel after a completion (R31, R32). -/
def completed (got : Option (ChannelState × Nat)) (c : Channel) : Channel :=
  match got with
  | none => { c with state := .failed, recovery := 0 }
  | some (zone, v) =>
    if c.state = .failed && c.recovery < 2 then
      { c with latest := some v, recovery := c.recovery + 1 }
    else { state := zone, latest := some v, lastGood := some v, recovery := 0 }

/-! ## Run states moved by channels (R44) -/

/-- Both of a run's channels are usable. -/
def channelsUsable (r : RunId) (l : LoopFront) : Bool := (l.p.get r).usable && (l.t.get r).usable

/-- METERING or DEGRADED, by the run's channels (R42). -/
def meteringState (r : RunId) (l : LoopFront) : RunState :=
  if channelsUsable r l then .metering else .degraded

def setRunState (r : RunId) (x : RunState) (s : State) : State :=
  s.onRun (·.modify r fun c => { c with state := x })

/-- A completion of a run's channel moves the run between METERING and DEGRADED (R44). -/
def followChannels (r : RunId) (s : State) : State :=
  match (s.run.get r).state with
  | .metering =>
    if channelsUsable r s.loop then s else raiseRun r (setRunState r .degraded s)
  | .degraded =>
    if channelsUsable r s.loop then raiseRun r (setRunState r .metering s) else s
  | _ => s

def followChannel (c : ChannelId) (s : State) : State :=
  match c with
  | .p r => followChannels r s
  | .t r => followChannels r s
  | _ => s

/-- The completion of the conversion of a channel: stored, handed to the run controller and the monitor, and the next
conversion starts (R28, R31 to R34). -/
def completion (c : ChannelId) (current : Nat) (s : State) : State :=
  let x := completed (reading s.settings.active c current) (channelOf s.loop c)
  let s := followChannel c (s.onLoop (setChannel c x))
  nextConversion c (evaluate (channelMonitor c) (x.latest.getD 0) s)

/-! ## Stroke-sense lines (R35) -/

/-- The 5 ms hold-off of a stroke-sense line (R35). -/
def senseHoldOff : Nat := 5000

/-- The hold-off of a stroke-sense line has ended, or ends at this instant (R35). -/
def senseOver : Option Nat → Bool
  | none => true
  | some left => left == 0

/-- Whether a sense edge is accepted. -/
def senseTaken (p : Side) (s : State) : Bool :=
  s.live && s.pumpIsFitted p && senseOver (s.sense.get p)

/-- A running hold-off whose 5 ms have passed. -/
def senseHoldOffDone (p : Side) (s : State) : Bool :=
  s.time.phase != .off && s.sense.get p == some 0

/-- An accepted edge starts the hold-off and reaches the pump unit (R35, R105, R110). -/
def senseEdge (p : Side) (s : State) : State :=
  let s := s.onSense (·.set p (some senseHoldOff))
  if confirms p s then confirmStroke p s else strayEdge p s

end Sys2Proof.Machine
end

