-- ==== Sys2Proof/Machine/Recording.lean ====
section
/-! DEFINITION. The period recorder (chapter 8): accumulators, records, the ring, totals. -/

namespace Sys2Proof.Machine

/-- The figures of one run at an interval close, as the blocks hand them on (R48, R56, R73). -/
structure RunFigures where
  count : Nat
  channel : Side
  state : RunState
  pUsed : Nat
  pSubstitute : Substitute
  tUsed : Nat
  tSubstitute : Substitute
  gross : Nat
  residue : Nat
  ratio : Nat
  outOfTable : Bool
  base : Nat
  energy : Nat
  rate : Nat
  /-- which of the run's rings the zero-flow timeout empties (R67) -/
  emptied : Two Bool
  /-- the judgement of R24: an integrity event or clean, none when not judged -/
  judged : Option Bool
  flags : IntervalFlags
deriving DecidableEq, Repr

/-! ## Accumulators and totals (R136, R144) -/

/-- A run's accumulators with an interval's figures added (R136). -/
def RunAccumulators.add (f : RunFigures) (a : RunAccumulators) : RunAccumulators :=
  { gross := a.gross + f.gross, base := a.base + f.base, energy := a.energy + f.energy
    sumPG := a.sumPG + f.pUsed * f.gross, sumTG := a.sumTG + f.tUsed * f.gross
    metered := a.metered + 1, flags := a.flags.union f.flags
    integrityEvents := a.integrityEvents + boolCode f.flags.integrity
    peak := max a.peak f.rate, lastP := some f.pUsed, lastT := some f.tUsed }

/-- The wrap of the totals (R144). -/
def totalWrap : Nat := 1000000000000

/-- One total and its residue with an amount added, floor with residue carried, modulo 10¹² (R144). -/
def addTotal (unit total residue amount : Nat) : Nat × Nat :=
  ((total + (residue + amount) / unit) % totalWrap, (residue + amount) % unit)

def Totals.add (f : RunFigures) (t : Totals) : Totals :=
  { gross := (addTotal 1000 t.gross t.grossResidue f.gross).1
    grossResidue := (addTotal 1000 t.gross t.grossResidue f.gross).2
    base := (addTotal 1000 t.base t.baseResidue f.base).1
    baseResidue := (addTotal 1000 t.base t.baseResidue f.base).2
    energy := (addTotal 1000000 t.energy t.energyResidue f.energy).1
    energyResidue := (addTotal 1000000 t.energy t.energyResidue f.energy).2 }

/-- RECONFIG marked for the runs a test names (R137). -/
def markReconfig (test : RunId → Bool) (s : State) : State :=
  s.onRecorder fun r =>
    { r with runs := .tabulate fun i =>
        let a := r.runs.get i
        if test i then { a with flags := { a.flags with reconfig := true } } else a }

/-! ## Records (R139, R140) -/

/-- A volume or energy of a sub-record: rounded half up and held at the top of its field (R140). -/
def recordFigure (n unit : Nat) : Held := heldAt top32 (roundHalfUp n unit)

/-- The averages of a sub-record (R140). -/
def recordAverages (a : RunAccumulators) : Option (Nat × Nat) :=
  if 0 < a.gross then some (roundHalfUp a.sumPG a.gross, roundHalfUp a.sumTG a.gross)
  else
    match a.lastP, a.lastT with
    | some p, some t => some (p, t)
    | _, _ => none

/-- The average gross rate of a sub-record (R140). -/
def recordRate (gross duration : Nat) : Held :=
  if duration = 0 then ⟨0, false⟩ else heldAt top32 (gross * 3600 / duration)

def subRecord (r : RunId) (st : RunState) (duration : Nat) (a : RunAccumulators) : RunSubRecord :=
  { run := r, state := st
    gross := recordFigure a.gross 1000, base := recordFigure a.base 1000
    energy := recordFigure a.energy 1000000
    averages := recordAverages a, averageRate := recordRate a.gross duration
    peak := a.peak, metered := a.metered, integrityEvents := a.integrityEvents, flags := a.flags }

/-- The runs a build fits, in run order. -/
def fittedRuns (runs : Nat) : List RunId := runIds.filter fun r => decide (r.val < runs)

/-- What the time base hands over at a period close (R9). -/
structure CloseFigures where
  cause : CloseCause
  intervals : Nat
  duration : Nat
deriving DecidableEq, Repr

/-- The sequence number of the next record: one more than the last, and 1 for the first (R139, R149). -/
def nextSequence : Option Time → Time
  | none => 1
  | some n => n + 1

/-- The record of a period from its accumulators (R139, R140). -/
def buildRecord (c : CloseFigures) (runs : Nat) (states : Four RunState) (trim account : Nat)
    (r : Recorder) : PeriodRecord :=
  { sequence := nextSequence r.lastSequence, cause := c.cause, intervals := c.intervals
    duration := c.duration, lastIndex := r.lastIndex, station := r.station, trim := trim
    accountClose := account
    runs := (fittedRuns runs).map fun i => subRecord i (states.get i) c.duration (r.runs.get i) }

/-- The ring holds up to 48 records (R141). -/
def ringSize : Nat := 48

/-- A record placed in the ring as the newest (R141). -/
def placeRecord (x : PeriodRecord) (r : Recorder) : Recorder :=
  { r with ring := (x :: r.ring).take ringSize, lastSequence := some x.sequence }

/-- A run's accumulators at an opening: the last P and T used are kept (R135). -/
def RunAccumulators.reopened (a : RunAccumulators) : RunAccumulators :=
  { freshRunAccumulators with lastP := a.lastP, lastT := a.lastT }

/-- The next period opened (R135). -/
def openPeriod (mode : DosingMode) (account : Nat) (r : Recorder) : Recorder :=
  { r with
    runs := r.runs.map RunAccumulators.reopened
    station := openStation (noModes.mark mode) account
    lastIndex := 0 }

/-! ## The close of a period (R9, R139) -/

/-- The stray counts of the pumps set to 0 (R111). -/
def clearStrays (s : State) : State := s.onPump (·.map fun x => { x with strays := 0 })

/-- A period closed: its record built, numbered and placed, RING and RESUME listed, PERIOD raised, the next period opened
at `now`. -/
def closePeriodAs (c : CloseFigures) (s : State) : State :=
  let record := buildRecord c s.settings.build.runs (s.run.map (·.state)) s.dose.trim
    s.dose.account s.recorder
  let s := s.onRecorder fun r =>
    openPeriod s.dose.mode s.dose.account (placeRecord record r)
  let s := raise .period 0 (addItem .resume (addItem .ring (clearStrays s)))
  s.onTime fun t => { t with periodCount := 0, periodOpen := t.stationTime }

/-- The close of the period in progress, with the count and duration the time base holds (R9). -/
def closePeriod (cause : CloseCause) (s : State) : State :=
  closePeriodAs
    { cause := cause, intervals := s.time.periodCount
      duration := (s.now - s.time.periodOpen).toNat } s

/-! ## The ring at power-on (R148, R149) -/

/-- The sequence numbers run without a gap, newest first. -/
def consecutive : List PeriodRecord → Bool
  | a :: b :: rest => (a.sequence == b.sequence + 1) && consecutive (b :: rest)
  | _ => true

/-- The resume record's unstored records put before a loaded ring, skipping any the ring holds (R148). -/
def mergedRing (loaded : List PeriodRecord) (unstored : List PeriodRecord) : List PeriodRecord :=
  unstored.filter (fun x => !loaded.any fun y => y.sequence == x.sequence) ++ loaded

/-- The merged ring ends at the resume record's last sequence with no gap (R148). -/
def mergeStands (merged : List PeriodRecord) (last : Option Time) : Bool :=
  consecutive merged && (merged.head?.map (·.sequence)) == last

/-- The sequence of the newest record of a ring. -/
def newestSequence (ring : List PeriodRecord) : Option Time := ring.head?.map (·.sequence)

/-- What power-on loads: the ring, the last sequence, the stored-through sequence (R148, R149). -/
structure LoadedRing where
  ring : List PeriodRecord
  last : Option Time
  storedThrough : Option Time
deriving DecidableEq, Repr

/-- What power-on takes of the ring. A record appended to a full ring discards the oldest (R141), so the result is tested for
gaps as the ring it leaves: the newest 48. -/
def loadRing (ring : Stored (List PeriodRecord)) (resume : Stored ResumeRecord) : LoadedRing :=
  match ring, resume with
  | .valid loaded, .valid r =>
    let merged := (mergedRing loaded r.unstored).take ringSize
    if mergeStands merged r.lastSequence then ⟨merged, r.lastSequence, newestSequence loaded⟩
    else ⟨r.unstored.take ringSize, r.lastSequence, none⟩
  | _, .valid r => ⟨r.unstored.take ringSize, r.lastSequence, none⟩
  | .valid loaded, _ => ⟨loaded.take ringSize, newestSequence loaded, newestSequence loaded⟩
  | _, _ => ⟨[], none, none⟩

end Sys2Proof.Machine
end

