-- ==== Sys2Proof/Machine/Interval.lean ====
section
/-! DEFINITION. The interval close: metered count, substitutes, conversion, rate, flags, the station's base volume
(chapters 2, 3 and 4), the boundary and the forced close (chapter 1). -/

namespace Sys2Proof.Machine

/-! ## Metered count and judgement (R23, R24) -/

/-- The metered channel of an interval (R23). -/
def meteredChannel (c : RunSection) (n : Two Nat) : Side :=
  if c.bCheck && n.a == 0 && decide (c.tolerance < n.b) then .b else .a

/-- The difference of nA and nB, without sign, exceeds the tolerance: an integrity event (R24). -/
def integrityEvent (c : RunSection) (n : Two Nat) : Bool :=
  decide (c.tolerance < (n.a - n.b) + (n.b - n.a))

/-- The consecutive counts and the alarm after a judgement (R25). -/
def judge (isEvent : Bool) (p : PulseRun) : PulseRun :=
  match isEvent, p.integrityAlarm with
  | true, false =>
    if p.consecutiveEvents + 1 = 3 then
      { p with consecutiveClean := 0, consecutiveEvents := 0, integrityAlarm := true }
    else { p with consecutiveClean := 0, consecutiveEvents := p.consecutiveEvents + 1 }
  | true, true => { p with consecutiveClean := 0, consecutiveEvents := 0 }
  | false, false => { p with consecutiveEvents := 0 }
  | false, true =>
    if p.consecutiveClean + 1 = 60 then
      { p with consecutiveClean := 0, integrityAlarm := false }
    else { p with consecutiveClean := p.consecutiveClean + 1 }

/-! ## Pressure and temperature used (R45) -/

/-- What an interval uses for a channel: its latest value, or a substitute by the policy (R45). -/
def usedValue (policy : SubstitutePolicy) (fallback : Nat) (c : Channel) : Nat × Substitute :=
  match c.usable, c.latest, policy, c.lastGood with
  | true, some v, _, _ => (v, noSubstitute)
  | _, _, .hold, some v => (v, ⟨.held, some v⟩)
  | _, _, _, _ => (fallback, ⟨.fallback, some fallback⟩)

/-! ## Gross volume (R57) -/

/-- X of R57, in millionths of a millilitre. -/
def grossDividend (c : RunSection) (n residue : Nat) : Nat := n * c.vpp * c.mf + residue

/-! ## The compressibility ratio (R60 to R63) -/

def clamp (lo hi v : Nat) : Nat := max lo (min hi v)

/-- The pressure or temperature needed clamping into the grid (R61). -/
def outOfTable (g : CompressSection) (p t : Nat) : Bool :=
  decide (p < g.pressures.c0) || decide (g.pressures.c4 < p)
    || decide (t < g.temperatures.r0) || decide (g.temperatures.r3 < t)

/-- The lowest of 0..3 for which P ≤ p(i+1) (R62). -/
def pressureIndex (g : CompressSection) (p : Nat) : Nat :=
  if p ≤ g.pressures.c1 then 0 else if p ≤ g.pressures.c2 then 1
  else if p ≤ g.pressures.c3 then 2 else 3

/-- The lowest of 0..2 for which T ≤ t(j+1) (R62). -/
def temperatureIndex (g : CompressSection) (t : Nat) : Nat :=
  if t ≤ g.temperatures.r1 then 0 else if t ≤ g.temperatures.r2 then 1 else 2

/-- from + (to − from) × num / den, the quotient rounded half away from zero (R63). -/
def interpolate (start stop num den : Nat) : Nat :=
  ((start : Int) + roundHalfAway (((stop : Int) - (start : Int)) * (num : Int)) den).toNat

/-- F of R63 for a pressure and a temperature. -/
def ratioF (g : CompressSection) (p t : Nat) : Nat :=
  let p := clamp g.pressures.c0 g.pressures.c4 p
  let t := clamp g.temperatures.r0 g.temperatures.r3 t
  let i := pressureIndex g p
  let j := temperatureIndex g t
  let dp := p - g.pressures.nth i
  let wp := g.pressures.nth (i + 1) - g.pressures.nth i
  let fa := interpolate ((g.values.nth i).nth j) ((g.values.nth (i + 1)).nth j) dp wp
  let fb := interpolate ((g.values.nth i).nth (j + 1)) ((g.values.nth (i + 1)).nth (j + 1)) dp wp
  interpolate fa fb (t - g.temperatures.nth j) (g.temperatures.nth (j + 1) - g.temperatures.nth j)

/-! ## Base volume and energy (R64, R66) -/

def baseVolume (c : StationSection) (g p t f : Nat) : Nat :=
  roundHalfUp (g * p * c.tb * f) (c.pb * t * 1000000)

def energyOf (vb cv : Nat) : Nat := roundHalfUp (vb * cv) 1000

/-! ## The gross rate (R67 to R70) -/

/-- The age of the newest time of a ring; none for an empty ring. -/
def ringAge (ring : List Time) (capture : Time) : Option Nat :=
  ring.getLast?.map fun t => (capture - t).toNat

/-- The age exceeds the zero-flow timeout: the ring is to be emptied (R67). -/
def ringStale (timeout : Nat) (ring : List Time) (capture : Time) : Bool :=
  match ringAge ring capture with
  | some age => decide (timeout * 1000000 < age)
  | none => false

/-- The span of a ring, newest less oldest (R68). -/
def ringSpan (ring : List Time) : Nat :=
  match ring.head?, ring.getLast? with
  | some first, some last => (last - first).toNat
  | _, _ => 0

/-- (k − 1) × vpp × 3,600,000 / Δ, truncated (R68). -/
def ringRate (vpp : Nat) (ring : List Time) : Nat :=
  (ring.length - 1) * vpp * 3600000 / ringSpan ring

/-- The gross rate in L/h (R67 to R70). -/
def grossRate (c : RunSection) (ring : List Time) (capture : Time) : Nat :=
  if ringStale c.zeroFlowTimeout ring capture then 0
  else if ring.length < 2 then 0
  else
    match ringAge ring capture with
    | none => 0
    | some 0 => min top32 (ringRate c.vpp ring)
    | some age => min top32 (min (ringRate c.vpp ring) (c.vpp * 3600000 / age))

/-! ## One run's figures (R48, R56) -/

/-- The state for the interval (R48). -/
def intervalState (c : RunControl) : RunState :=
  if c.state = .out then c.stateForInterval.getD .out else c.state

/-- Whether the run controller hands an interval entry for a run (R48). -/
def entryHanded (s : State) (r : RunId) : Bool :=
  s.fitted r && ((s.run.get r).state != .out || (s.run.get r).closedInInterval)

/-- The figures of a run for which an entry is handed. -/
def figuresOf (s : State) (r : RunId) : RunFigures :=
  let c := s.runSection r
  let rc := s.run.get r
  let pulse := s.pulse.get r
  let channel := meteredChannel c pulse.count
  let n := pulse.count.get channel
  let p := usedValue c.policy c.fallbackP (s.loop.p.get r)
  let t := usedValue c.policy c.fallbackT (s.loop.t.get r)
  let x := grossDividend c n (s.conv.residue.get r)
  let f := ratioF s.settings.active.compress p.1 t.1
  let oot := outOfTable s.settings.active.compress p.1 t.1
  let vb := baseVolume s.settings.active.station (x / 1000000) p.1 t.1 f
  let rate := grossRate c (pulse.ring.get channel) s.time.captureClock
  let judged := if c.bCheck then some (integrityEvent c pulse.count) else none
  let window := flowWindow rate c.qMin c.qMax
  { count := n, channel := channel, state := intervalState rc
    pUsed := p.1, pSubstitute := p.2, tUsed := t.1, tSubstitute := t.2
    gross := x / 1000000, residue := x % 1000000, ratio := f, outOfTable := oot
    base := vb, energy := energyOf vb s.settings.heatingValue, rate := rate
    emptied := pulse.ring.map fun ring => ringStale c.zeroFlowTimeout ring s.time.captureClock
    judged := judged
    flags :=
      { settling := intervalState rc == .starting
        estimatedP := p.2.kind != .none, estimatedT := t.2.kind != .none
        lowRange := window.1, overRange := window.2
        substituted := channel == .b, outOfTable := oot, reconfig := false
        integrity := judged == some true } }

/-- The figures of a run at an interval close, when it is computed. -/
def runFigures (s : State) (r : RunId) : Option RunFigures :=
  if entryHanded s r then some (figuresOf s r) else none

/-! ## The close (R7, R48, R73) -/

/-- The pulse front end at a close: last figures, rings emptied by the timeout, the judgement (R23, R24, R67). -/
def closePulse (s : State) (r : RunId) : PulseRun :=
  let p := s.pulse.get r
  if s.fitted r then
    let p := { p with lastCount := p.count, lastChannel := meteredChannel (s.runSection r) p.count }
    match runFigures s r with
    | none => p
    | some f =>
      let p := { p with
        ring := ⟨if f.emptied.a then [] else p.ring.a, if f.emptied.b then [] else p.ring.b⟩ }
      match f.judged with
      | some e => judge e p
      | none => p
  else p

/-- The run controller at a close: substitutes, last figures, closed in interval cleared (R45, R48). -/
def closeControl (s : State) (r : RunId) : RunControl :=
  let c := s.run.get r
  match runFigures s r with
  | none => { c with closedInInterval := false, stateForInterval := none }
  | some f =>
    { c with
      closedInInterval := false, stateForInterval := none
      pSubstitute := f.pSubstitute, tSubstitute := f.tSubstitute
      last := some { state := f.state, pUsed := f.pUsed, tUsed := f.tUsed, rate := f.rate
                     flags := f.flags } }

/-- The sum of a figure over the runs computed. -/
def sumFigures (g : RunFigures → Nat) (s : State) : Nat :=
  (runIds.map fun r => ((runFigures s r).map g).getD 0).sum

/-- The conversion engine at a close (R57, R72, R73). -/
def closeConversion (s : State) : Conversion :=
  { residue := .tabulate fun r => ((runFigures s r).map (·.residue)).getD (s.conv.residue.get r)
    last := .tabulate fun r =>
      match runFigures s r with
      | some f => some { gross := f.gross, base := f.base, energy := f.energy, ratio := f.ratio
                         outOfTable := f.outOfTable }
      | none => s.conv.last.get r
    station := some { base := sumFigures (·.base) s, rate := sumFigures (·.rate) s } }

/-- The period recorder at a close (R136, R144). -/
def closeRecorder (s : State) : Recorder :=
  { s.recorder with
    runs := .tabulate fun r =>
      match runFigures s r with
      | some f => (s.recorder.runs.get r).add f
      | none => s.recorder.runs.get r
    totals := .tabulate fun r =>
      match runFigures s r with
      | some f => (s.recorder.totals.get r).add f
      | none => s.recorder.totals.get r }

/-- The rate monitors evaluated at a close, with the rates of the state before it (R70, R150, R151). -/
def rateMonitors (before s : State) : State :=
  runIds.foldl (fun s r =>
    match runFigures before r with
    | some f => evaluate (rateMonitor r) f.rate s
    | none => s) s

/-- The figures of every run put to their blocks. -/
def closeRuns (s : State) : State :=
  { s with
    pulse := .tabulate (closePulse s)
    run := .tabulate (closeControl s)
    conv := closeConversion s
    recorder := closeRecorder s }

/-- The close of the interval in progress: every block's interval-close work of R7, not the boundary's own. -/
def closeInterval (s : State) : State :=
  let closed := raiseRuns
    (fun r => (closePulse s r).integrityAlarm != (s.pulse.get r).integrityAlarm) (closeRuns s)
  accrue (sumFigures (·.base) s) (rateMonitors s closed)

/-- The closing interval counted into the period (R10, R139). -/
def countInterval (s : State) : State :=
  (s.onTime fun t => { t with periodCount := t.periodCount + 1 }).onRecorder
    fun r => { r with lastIndex := s.time.intervalIndex }

/-- Every interval count set to 0 (R22). -/
def clearCounts (s : State) : State := s.onPulse (·.map fun p => { p with count := .both 0 })

/-! ## Settling (R42) -/

/-- A run at a boundary: the settle count of a STARTING run decreases, and at 0 the run leaves STARTING. -/
def settled (l : LoopFront) (r : RunId) (c : RunControl) : RunControl :=
  if c.state = .starting then
    if c.settle ≤ 1 then { c with settle := 0, state := meteringState r l }
    else { c with settle := c.settle - 1 }
  else c

def settleRuns (s : State) : State :=
  let after := s.onRun fun rs => .tabulate fun r => settled s.loop r (rs.get r)
  raiseRuns (fun r => (after.run.get r).state != (s.run.get r).state) after

/-! ## Staged copies made active (R166, with R25, R82, R157) -/

/-- The sections that became active, and what a period holds of them. -/
def applySections (s : State) : State :=
  let g := s.settings
  let marks := stagedMarks g.staged
  let active : ActiveSections :=
    { station := g.staged.station.getD g.active.station
      run := .tabulate fun r => (g.staged.run.get r).getD (g.active.run.get r)
      odorant := g.staged.odorant.getD g.active.odorant
      compress := g.staged.compress.getD g.active.compress
      monitors := g.staged.monitors.getD g.active.monitors }
  let s := s.onSettings fun g =>
    { g with
      active := active, staged := noneStaged
      defaulted := PerSection.zip (fun d m => d && !m) g.defaulted marks
      unstored := PerSection.zip (· || ·) g.unstored marks
      heatingValue := g.stagedHeatingValue.getD g.heatingValue, stagedHeatingValue := none }
  let s := addSections marks s
  if g.stagedHeatingValue.isSome then addItem .resume s else s

/-- A RUN section turned its B check off: the consecutive counts and the alarm of the run are cleared (R25). -/
def bCheckOff (old new : ActiveSections) (r : RunId) : Bool :=
  (old.run.get r).bCheck && !(new.run.get r).bCheck

def clearIntegrity (p : PulseRun) : PulseRun :=
  { p with consecutiveEvents := 0, consecutiveClean := 0, integrityAlarm := false }

def dropIntegrity (old : ActiveSections) (s : State) : State :=
  let off := fun r => bCheckOff old s.settings.active r
  let cleared := s.onPulse fun ps => .tabulate fun r =>
    if off r then clearIntegrity (ps.get r) else ps.get r
  raiseRuns (fun r => off r && (s.pulse.get r).integrityAlarm) cleared

/-- The blocks take up the copies that became active at a boundary. -/
def applyStaged (s : State) : State :=
  let before := s.settings
  let s := dropIntegrity before.active (applySections s)
  let s := if before.staged.monitors.isSome then
      retuneMonitors before.active.monitors s.settings.active.monitors s
    else s
  if before.staged.odorant.isSome then schedulingCheck (forgoExcess s) else s

/-- The runs RECONFIG marks for the copies applied (R137). -/
def reconfigRuns (g : Settings) (r : RunId) : Bool :=
  decide (r.val < g.build.runs) &&
    ((g.staged.run.get r).isSome || g.staged.station.isSome || g.staged.compress.isSome
      || g.stagedHeatingValue.isSome)

/-! ## The boundary (R7, R8, R10) and the forced close (R12, R13) -/

/-- The next interval begins, with its scan (R8, R28). A conversion whose completion falls at this very instant and has not been
taken is discarded with the scan it belongs to, and moves no run afterwards (R29, log entry 34). -/
def beginInterval (s : State) : State :=
  startScan (s.onTime fun t =>
    { t with intervalStart := t.stationTime, intervalIndex := t.intervalIndex + 1 })

/-- The LENGTH close of R10, with the period length active from this boundary on (R11). -/
def lengthClose (s : State) : State :=
  if s.settings.active.station.periodLength ≤ s.time.periodCount then closePeriod .length s else s

/-- A boundary: the interval closes, the blocks do their boundary work in the order of R7's table, the period may close
by the rule given, RECONFIG is marked in the period then in progress, and the next interval begins. -/
def boundaryWith (close : State → State) (s : State) : State :=
  let marks := reconfigRuns s.settings
  let s := settleRuns (clearCounts (closeInterval s))
  let s := close (countInterval (applyStaged s))
  beginInterval (markReconfig marks s)

/-- The boundary of the interval timer. -/
def timedBoundary (s : State) : State := boundaryWith lengthClose s

/-- A forced close: a boundary that closes the period, or at age 0 the period alone (R12, R13). -/
def forcedClose (s : State) : State :=
  if s.age = 0 then closePeriod .forced s else boundaryWith (closePeriod .forced) s

/-- The boundary of the interval in progress is due (R6). -/
def boundaryDue (s : State) : Bool :=
  s.time.phase == .running && reached (s.time.intervalStart + ms 1000) s.now

end Sys2Proof.Machine
end

