-- ==== Sys2Proof/Machine/Starts.lean ====
section
/-! DEFINITION. Power failure, loss of supply, power-on and restart (sections 1.6, 10.5 and the resets of every chapter). -/

namespace Sys2Proof.Machine

/-! ## The power-fail warning (R17, R38, R118, R177) -/

/-- A pump at the warning: its line goes off and it stops where it stands (R118). -/
def haltedPump (x : Pump) : Pump := { x with line := false }

/-- The falling edge of PFW in WARMUP or RUNNING. -/
def powerFail (s : State) : State :=
  let s := markAbandoned s
  { s with
    time := { s.time with
      phase := .halt, haltInstant := s.time.stationTime
      restartPending := false, restartDue := false, riseHeld := false }
    loop := { s.loop with converter := .idle }
    pump := s.pump.map haltedPump
    table := { s.table with aux := .both false }
    link := { s.link with receiver := huntReceiver, tx := none }
    store := { s.store with list := emptyWriteList, warningResume := true } }

def setPfw (high : Bool) (s : State) : State := s.onPins fun p => { p with pfwHigh := high }

/-- A rise of PFW in HALT is held until the warning's store work has ended (R177). -/
def holdRise (s : State) : State :=
  if s.time.phase = .halt then s.onTime fun t => { t with riseHeld := true } else s

/-! ## Loss of supply (R173, row LOSS_OF_SUPPLY) -/

/-- What the store is left with: an item being written without a warning fails its check (R173); one cut short after the
warning is a free value (log entry 13). -/
def storeAfterLoss (s : State) : Store :=
  match s.store.writing with
  | none => s.store
  | some w =>
    if s.time.phase = .halt then
      match Config.cutShortAfterWarning s.freeCount with
      | .fails => s.store.spoil w.content.item
      | .keeps => s.store
      | .completes => s.store.put w.content
    else s.store.spoil w.content.item

/-- The part without supply: the store's items, the pins and the queue remain, all memory is lost (log entry 7). -/
def loseSupply (s : State) : State :=
  { State.reset with
    time := { warmupTime 0 with phase := .off }
    loop := freshLoop
    store := { storeAfterLoss s with list := emptyWriteList, writing := none, warningResume := false }
    pins := { s.pins with supply := false }
    freeCount := s.freeCount + 1
    pending := s.pending }

/-- LOSS_OF_SUPPLY: a part that still waits for PFW only loses the supply it waits with (R37). -/
def supplyLost (s : State) : State :=
  if s.time.phase = .off then s.onPins fun p => { p with supply := false } else loseSupply s

/-! ## Builds (R169) -/

def storedBuild (st : Store) : Build :=
  match st.sections.station with
  | .valid c => c.build
  | _ => factoryBuild

/-- The SECTION item of STATION is in the list or is being written. -/
def stationListed (st : Store) : Bool :=
  st.list.sections.station ||
    (match st.writing with
     | some w => w.content.item == .sectionCopy .station
     | none => false)

/-- The build a restart reads (R169). -/
def restartBuild (s : State) : Build :=
  if stationListed s.store then s.settings.active.station.build else storedBuild s.store

/-! ## Runs at a start (R53, R54) -/

/-- A run that was in service enters STARTING; a settle time of 0 leaves it at once, DEGRADED, since its channels are FAILED. -/
def startedRun (settleTime : Nat) : RunControl :=
  if settleTime = 0 then { freshRun with state := .degraded }
  else { freshRun with state := .starting, settle := settleTime }

/-- RUN notices for the runs left in a state other than OUT (R51). -/
def announceRuns (s : State) : State := raiseRuns (fun r => (s.run.get r).state != .out) s

/-! ## Power-on (R175) -/

def loaded {α : Type} (x : Stored α) (factory : α) : α :=
  match x with
  | .valid c => c
  | _ => factory

def notValid {α : Type} : Stored α → Bool
  | .valid _ => false
  | _ => true

def resumeOf (st : Store) : Option ResumeRecord :=
  match st.resume with
  | .valid r => some r
  | _ => none

/-- The settings as power-on loads them (R163, R171, R175). -/
def loadSettings (st : Store) : Settings :=
  let x := st.sections
  { active :=
      { station := loaded x.station factoryStation
        run := x.run.map fun c => loaded c factoryRun
        odorant := loaded x.odorant factoryOdorant
        compress := loaded x.compress factoryCompress
        monitors := loaded x.monitors (.all factoryMonitor) }
    staged := noneStaged
    defaulted :=
      { station := notValid x.station, run := x.run.map notValid, odorant := notValid x.odorant
        compress := notValid x.compress, monitors := notValid x.monitors }
    unstored := .all false
    protection := loaded st.flags (.all false)
    flagsUnstored := false
    heatingValue := ((resumeOf st).map (·.heatingValue)).getD factoryHeatingValue
    stagedHeatingValue := none
    build := storedBuild st }

/-- The POWER record of a resumed period (R18, R148). -/
def powerRecord (r : ResumeRecord) (rec : Recorder) : PeriodRecord :=
  buildRecord { cause := .power, intervals := r.intervalCount, duration := r.elapsed }
    r.buildRuns r.runStates r.trim r.account rec

/-- The recorder with what the store holds, the resumed period in progress when there is one (R148, R149). -/
def loadRecorder (st : Store) : Recorder :=
  let l := loadRing st.ring st.resume
  let base := { freshRecorder with ring := l.ring, lastSequence := l.last, storedThrough := l.storedThrough }
  match resumeOf st with
  | some r =>
    { base with runs := r.runs, station := r.station, lastIndex := r.lastIndex, totals := r.totals }
  | none => base

/-- The recorder once the resumed period has closed with cause POWER (R18, R148). -/
def closeResumed (st : Store) : Recorder :=
  match resumeOf st with
  | some r => placeRecord (powerRecord r (loadRecorder st)) (loadRecorder st)
  | none => loadRecorder st

/-- A run's accumulators kept for a run fitted before and after, fresh otherwise (R147, R148). -/
def keepFitted (before after : Nat) (runs : Four RunAccumulators) : Four RunAccumulators :=
  .tabulate fun r =>
    if r.val < before ∧ r.val < after then runs.get r else freshRunAccumulators

/-- The dose controller as power-on loads it (R100), in the start mode (log entry 15). -/
def loadDose (st : Store) (preferred : Side) : Dose :=
  match resumeOf st with
  | some r =>
    { freshDose with
      account := r.account, residue := r.owedResidue, trim := r.trim, duty := r.duty
      lastDrive := r.driveAge.map fun a => 0 - ms a, recentDrive := r.driveAge.isSome }
  | none => { freshDose with duty := preferred }

/-- The pumps as power-on sets them (R120). -/
def loadPump (st : Store) (pumps : Nat) (p : Side) : Pump :=
  if pumpFitted pumps p then
    match resumeOf st with
    | some r =>
      freshPump (if pumpFitted r.buildPumps p && r.pumpFailed.get p then .failed else .ready)
    | none => freshPump .ready
  else freshPump .absent

/-- A run at power-on (R54). -/
def loadRun (st : Store) (g : Settings) (r : RunId) : RunControl :=
  match resumeOf st with
  | some x =>
    if r.val < g.build.runs ∧ r.val < x.buildRuns ∧ x.runStates.get r ≠ .out ∧
        g.defaulted.run.get r = false then
      startedRun (g.active.run.get r).settleTime
    else freshRun
  | none => freshRun

/-- The gross residues at power-on (R59). -/
def loadResidues (st : Store) (g : Settings) : Four Nat :=
  .tabulate fun r =>
    match resumeOf st with
    | some x => if r.val < g.build.runs then x.residues.get r else 0
    | none => 0

/-- RING and RESUME listed by the POWER close (R139, R175). -/
def listResumed (st : Store) : WriteList :=
  if (resumeOf st).isSome then { emptyWriteList with resume := true, ring := true } else emptyWriteList

/-- The blocks loaded from the store, the resumed period closed and WARMUP entered, before the dose controller's start. -/
def loadBlocks (s : State) : State :=
  let st := s.store
  let g := loadSettings st
  let dose := loadDose st g.active.odorant.preferred
  let rec1 := closeResumed st
  let before := ((resumeOf st).map (·.buildRuns)).getD 0
  { s with
    time := warmupTime 0
    pulse := .all freshPulse
    loop := freshLoop
    run := .tabulate (loadRun st g)
    conv := { freshConversion with residue := loadResidues st g }
    dose := dose
    pump := ⟨loadPump st g.build.pumps .a, loadPump st g.build.pumps .b⟩
    sense := .both none
    table := emptyTable
    recorder := { rec1 with runs := keepFitted before g.build.runs rec1.runs }
    monitors := freshMonitors
    settings := g
    store := { st with list := listResumed st, writing := none, warningResume := false }
    link := idleLink }

/-- The new period opened on entry to WARMUP with the loaded account, in the start mode (R100, R135, log entry 15). -/
def openFirstPeriod (s : State) : State :=
  (s.onDose fun d => { d with mode := startMode s }).onRecorder
    (openPeriod (startMode s) s.dose.account)

/-- Power-on of a part without supply until now (R175). -/
def startPower (s : State) : State :=
  startScan (announceRuns (startDosing (forgoExcess (openFirstPeriod (loadBlocks s)))))

/-- The start of a part without power, once supply is present and PFW is high; until then it waits (R37, R175). -/
def startWhenReady (s : State) : State :=
  if s.time.phase = .off ∧ s.pins.supply = true ∧ s.pins.pfwHigh = true then startPower s else s

/-- Supply comes; in HALT it has been lost first (R4, log entry 22). -/
def powerUp (s : State) : State :=
  let s := if s.time.phase = .halt then loseSupply s else s
  startWhenReady (s.onPins fun p => { p with supply := true })

/-! ## Restart (R15, R16, R176) -/

/-- The pumps and the stroke in flight dealt with before the final close (R119). -/
def abandonStrokes (s : State) : State :=
  (markAbandoned s).onPump (·.map restartedPump)

/-- The final close of a restart, when it finds an interval of age 1 ms or more (R15). -/
def finalClose (s : State) : State :=
  if s.time.phase = .running ∧ s.age ≠ 0 then countInterval (closeInterval s) else s

/-- Staged copies dropped, unstored items listed again (log entry 33), the build read (steps 2 to 4 of R176). -/
def rereadBuild (s : State) : State :=
  let s := s.onSettings fun g => { g with staged := noneStaged, stagedHeatingValue := none }
  let s := s.onStore (·.relist s.settings.unstored s.settings.flagsUnstored)
  s.onSettings fun g => { g with build := restartBuild s }

/-- The pulse state of a run at a restart: everything but the hold-offs (R19, R21, R22, R25, R26). -/
def restartedPulse (p : PulseRun) : PulseRun := { freshPulse with holdOff := p.holdOff }

/-- A run at a restart (R53). -/
def restartedRun (before after settleTime : Nat) (r : RunId) (c : RunControl) : RunControl :=
  if r.val < before ∧ r.val < after ∧ c.state ≠ .out then startedRun settleTime else freshRun

/-- A pump under the build a restart has read (R119). -/
def rebuiltPump (before after : Nat) (p : Side) (x : Pump) : Pump :=
  if pumpFitted after p then
    (if pumpFitted before p then x else freshPump .ready)
  else freshPump .absent

/-- The dose controller's figures carried through a restart (R98). -/
def restartedDose (s : State) : Dose :=
  { s.dose with
    massInFlight := 0, trimHoldOff := none, lastReading := none
    lastDrive := if s.dose.recentDrive then s.dose.lastDrive.map fun d => d - s.now else none }

/-- What every block resets at a restart, and the entry to WARMUP (steps 5 and 6 of R176); `before` is the build until then. -/
def resetBlocks (before : Build) (s : State) : State :=
  let b := s.settings.build
  { s with
    time := warmupTime s.time.captureClock
    pulse := s.pulse.map restartedPulse
    loop := freshLoop
    run := .tabulate fun r =>
      restartedRun before.runs b.runs (s.runSection r).settleTime r (s.run.get r)
    conv :=
      { freshConversion with residue := .tabulate fun r =>
          if r.val < before.runs ∧ r.val < b.runs then s.conv.residue.get r else 0 }
    dose := restartedDose s
    pump := ⟨rebuiltPump before.pumps b.pumps .a s.pump.a, rebuiltPump before.pumps b.pumps .b s.pump.b⟩
    table := emptyTable
    recorder := { s.recorder with runs := keepFitted before.runs b.runs s.recorder.runs }
    monitors := { s.monitors with each := .all clearedMonitor }
    link := idleLink }

/-- The restart (R176). -/
def restartPart (s : State) : State :=
  let closed := closePeriod .restart (finalClose (abandonStrokes s))
  startScan (announceRuns (startDosing (resetBlocks s.settings.build (rereadBuild closed))))

/-- A restart begins: the RESTART reply has been sent in full, or PFW rose in HALT and the warning's store work has ended. -/
def restartReady (s : State) : Bool :=
  (s.time.phase == .running && s.time.restartDue)
    || (s.time.phase == .halt && s.time.riseHeld && s.storeWorkDone)

/-! ## Warm-up end (R5) -/

def warmupDone (s : State) : Bool := s.time.phase == .warmup && reached s.time.warmupEnd s.now

def enterRunning (s : State) : State :=
  startScan (s.onTime fun t =>
    { t with phase := .running, intervalIndex := 1, intervalStart := t.warmupEnd })

end Sys2Proof.Machine
end

