-- ==== Sys2Proof/Machine/Status.lean ====
section
/-! DEFINITION. Reply data of the reading requests, byte by byte (R183, R189). -/

namespace Sys2Proof.Machine

/-- IDENT's reply data (R183). -/
def identData (s : State) : List Byte :=
  bytesLE 2 4410 ++ [Config.designRevision] ++ bytesLE 1 s.settings.build.runs
    ++ bytesLE 1 s.settings.build.pumps ++ bytesLE 1 s.settings.build.rate.code
    ++ bytesLE 1 s.time.phase.code

/-- A channel's status byte, latest and last good value, each value in `size` bytes, 0 when none. -/
def channelData (size : Nat) (c : Channel) : List Byte :=
  bytesLE 1 c.statusByte ++ bytesLE size (c.latest.getD 0) ++ bytesLE size (c.lastGood.getD 0)

/-- A rate in m³/h in a 16-bit field (R75, R76). -/
def rateField (rate : Nat) : Held := heldAt 65535 (rate / 1000)

/-- The output lines: PUMP_A, PUMP_B, AUX1, AUX2, ALARM (R38, R189). -/
def outputLines (s : State) : Nat :=
  packBits [s.pump.a.line, s.pump.b.line, s.table.aux.a, s.table.aux.b, s.alarm]

/-- STATION_STATUS reply data, 50 bytes (R189). -/
def stationStatusData (s : State) : List Byte :=
  let figures := s.conv.station.getD ⟨0, 0⟩
  let base := heldAt top32 figures.base
  let rate := rateField figures.rate
  bytesLE 1 s.time.phase.code ++ bytesLE 4 s.now.toNat ++ bytesLE 4 s.time.intervalIndex.toNat
    ++ bytesLE 2 s.time.periodCount
    ++ bytesLE 1 (packBits [s.conv.station.isSome, base.saturated, rate.saturated,
        s.recorder.lastSequence.isSome])
    ++ bytesLE 4 base.value ++ bytesLE 2 rate.value
    ++ bytesLE 2 s.settings.heatingValue ++ bytesLE 2 (s.settings.stagedHeatingValue.getD 0)
    ++ channelData 4 s.loop.hdr ++ channelData 4 s.loop.tank
    ++ bytesLE 1 (outputLines s)
    ++ bytesLE 1 (boolCode (s.pins.custody == .closed))
    ++ bytesLE 1 s.settings.build.runs ++ bytesLE 1 s.settings.build.pumps
    ++ bytesLE 1 s.settings.build.rate.code
    ++ bytesLE 4 ((s.recorder.lastSequence.map (·.toNat)).getD 0)
    ++ bytesLE 1 s.recorder.ring.length

/-- A substitute with the value it stood for, 0 when none (log entry 19). -/
def substituteData (size : Nat) (x : Substitute) : List Byte :=
  bytesLE 1 x.kind.code ++ bytesLE size (x.value.getD 0)

/-- A run's totals, 32 bytes. -/
def totalsData (t : Totals) : List Byte :=
  bytesLE 8 t.gross ++ bytesLE 2 t.grossResidue ++ bytesLE 8 t.base ++ bytesLE 2 t.baseResidue
    ++ bytesLE 8 t.energy ++ bytesLE 4 t.energyResidue

/-- The last interval figures, 11 bytes, zeros when none (R184). -/
def lastIntervalData (x : Option LastInterval) : List Byte :=
  match x with
  | none => bytesLE 11 0
  | some f =>
    bytesLE 1 f.state.code ++ bytesLE 4 f.pUsed ++ bytesLE 2 f.tUsed
      ++ bytesLE 2 (rateField f.rate).value ++ bytesLE 2 f.flags.toNat

/-- The last results, 16 bytes, zeros when none (R75). -/
def lastResultsData (x : Option LastResults) : List Byte :=
  match x with
  | none => bytesLE 16 0
  | some f =>
    bytesLE 4 (heldAt top32 f.gross).value ++ bytesLE 4 (heldAt top32 f.base).value
      ++ bytesLE 4 (heldAt top32 f.energy).value ++ bytesLE 4 f.ratio

/-- The presence and SATURATED bits of RUN_STATUS (offset 4). -/
def runStatusBits (last : Option LastInterval) (res : Option LastResults) : Nat :=
  let r := res.getD ⟨0, 0, 0, 0, false⟩
  packBits [last.isSome, res.isSome,
    ((last.map fun f => (rateField f.rate).saturated)).getD false,
    (heldAt top32 r.gross).saturated, (heldAt top32 r.base).saturated,
    (heldAt top32 r.energy).saturated]

/-- RUN_STATUS reply data, 109 bytes (R55, R75, R189). -/
def runStatusData (r : RunId) (s : State) : List Byte :=
  let c := s.run.get r
  let p := s.pulse.get r
  bytesLE 1 r.val ++ bytesLE 1 c.state.code ++ bytesLE 2 c.settle
    ++ bytesLE 1 (runStatusBits c.last (s.conv.last.get r))
    ++ channelData 4 (s.loop.p.get r) ++ channelData 2 (s.loop.t.get r)
    ++ substituteData 4 c.pSubstitute ++ substituteData 2 c.tSubstitute
    ++ lastIntervalData c.last ++ lastResultsData (s.conv.last.get r)
    ++ bytesLE 4 (s.conv.residue.get r)
    ++ totalsData (s.recorder.totals.get r)
    ++ bytesLE 4 p.lastCount.a ++ bytesLE 4 p.lastCount.b ++ bytesLE 1 (Side.code p.lastChannel)
    ++ bytesLE 1 p.integrityByte ++ bytesLE 1 p.consecutiveClean
    ++ bytesLE 4 p.maintenance.toNat ++ bytesLE 4 s.now.toNat

/-- The ms left of the trim hold-off, 0 when ENDED or reached (R97). -/
def trimRemaining (s : State) : Nat :=
  match s.dose.trimHoldOff with
  | some d => if reached d s.now then 0 else (d - s.now).toNat
  | none => 0

/-- A pump's four bytes: state, line, miss count, stray count (R101). -/
def pumpData (x : Pump) : List Byte :=
  match x.state with
  | .absent => bytesLE 4 0
  | _ => bytesLE 1 x.state.code ++ bytesLE 1 (boolCode x.line) ++ bytesLE 1 x.misses ++ bytesLE 1 x.strays

/-- The five odorant masses of a period, 8 bytes each. -/
def massesData (a : StationAccumulators) : List Byte :=
  bytesLE 8 a.owed ++ bytesLE 8 a.autoDelivered ++ bytesLE 8 a.forgone ++ bytesLE 8 a.surplus
    ++ bytesLE 8 a.manualMass

/-- DOSE_STATUS reply data, 102 bytes (R97, R189). -/
def doseStatusData (s : State) : List Byte :=
  let d := s.dose
  bytesLE 1 (packBits [d.trimHoldOff.isSome, d.lastReading.isSome, d.lastDrive.isSome])
    ++ bytesLE 1 d.mode.code ++ bytesLE 1 d.state.code
    ++ bytesLE 8 d.account ++ bytesLE 8 s.odorant.cap ++ bytesLE 4 d.residue ++ bytesLE 2 d.trim
    ++ bytesLE 4 (trimRemaining s)
    ++ bytesLE 2 ((d.lastReading.map (·.1)).getD 0)
    ++ bytesLE 1 ((d.lastReading.map (·.2.code)).getD 0)
    ++ bytesLE 1 (Side.code d.duty)
    ++ bytesLE 4 ((d.lastDrive.map (·.toNat)).getD 0)
    ++ bytesLE 1 (boolCode d.recentDrive) ++ bytesLE 8 d.massInFlight
    ++ pumpData s.pump.a ++ pumpData s.pump.b
    ++ massesData s.recorder.station ++ bytesLE 8 s.recorder.station.accountOpen

/-- One monitor's 7 bytes of MONITOR_STATUS (R161, R183). -/
def monitorData (s : State) (m : Fin 16) : List Byte :=
  let x := s.monitors.each.get m
  bytesLE 1 (s.settings.active.monitors.get m).byte ++ bytesLE 1 x.conditionByte
    ++ bytesLE 1 (standing m s).code ++ bytesLE 4 (x.last.getD 0)

/-- MONITOR_STATUS reply data (R161). -/
def monitorStatusData (s : State) : List Byte :=
  monitorIds.flatMap (monitorData s) ++ bytesLE 1 (boolCode s.monitors.limitLock)
    ++ bytesLE 1 (boolCode s.alarm)

/-- A pump's stroke counts in a record, 4 bytes each. -/
def strokesData (c : StrokeCounts) : List Byte :=
  bytesLE 4 c.confirmed ++ bytesLE 4 c.missed ++ bytesLE 4 c.stray

/-- A run sub-record, 35 bytes (R189). -/
def subRecordData (x : RunSubRecord) : List Byte :=
  let avg := x.averages.getD (0, 0)
  bytesLE 1 x.run.val ++ bytesLE 1 x.state.code ++ bytesLE 4 x.gross.value ++ bytesLE 4 x.base.value
    ++ bytesLE 4 x.energy.value ++ bytesLE 4 avg.1 ++ bytesLE 2 avg.2 ++ bytesLE 4 x.averageRate.value
    ++ bytesLE 4 x.peak ++ bytesLE 2 x.metered ++ bytesLE 2 x.integrityEvents
    ++ bytesLE 2 x.flags.toNat
    ++ bytesLE 1 (packBits [x.gross.saturated, x.base.saturated, x.energy.saturated,
        x.averageRate.saturated, x.averages.isSome])

/-- A period record (R142, R189). -/
def recordData (x : PeriodRecord) : List Byte :=
  bytesLE 4 x.sequence.toNat ++ bytesLE 1 x.cause.code ++ bytesLE 2 x.intervals
    ++ bytesLE 4 x.duration ++ bytesLE 4 x.lastIndex.toNat ++ bytesLE 1 x.runs.length
    ++ massesData x.station ++ strokesData x.station.strokes.a ++ strokesData x.station.strokes.b
    ++ bytesLE 4 x.station.manualMisses ++ bytesLE 4 x.station.changeovers
    ++ bytesLE 1 x.station.modeByte ++ bytesLE 2 x.trim ++ bytesLE 4 x.station.accountOpen
    ++ bytesLE 4 x.accountClose ++ bytesLE 4 0 ++ x.runs.flatMap subRecordData

/-- The ms until an entry falls due, 0 when its due time has been reached (R133). -/
def remaining (now : Time) (e : Entry) : Nat := if reached e.due now then 0 else (e.due - now).toNat

/-- An entry of TABLE_READ: id, owner, kind, target, due, remaining (R133, R183). -/
def entryData (now : Time) (id : Nat) (e : Entry) : List Byte :=
  bytesLE 1 id ++ bytesLE 1 e.owner.code ++ bytesLE 1 e.kind.code ++ bytesLE 1 e.target
    ++ bytesLE 4 e.due.toNat ++ bytesLE 4 (remaining now e)

/-- The entries present, in order of id from `id` on. -/
def entriesData (now : Time) : Nat → List (Option Entry) → List Byte
  | _, [] => []
  | id, e :: rest =>
    (match e with
     | some x => entryData now id x
     | none => []) ++ entriesData now (id + 1) rest

/-- TABLE_READ reply data (R133). -/
def tableData (s : State) : List Byte :=
  bytesLE 4 s.now.toNat ++ bytesLE 1 (s.table.count fun _ => true)
    ++ entriesData s.now 0 s.table.places

/-! ## Section records read (R167) -/

/-- The section flags byte (R184). -/
def sectionFlags (i : SectionId) (g : Settings) : Nat :=
  packBits [g.defaulted.get i, g.unstored.get i, g.protection.get i, (stagedMarks g.staged).get i]

/-- The record of the active copy; of MONITORS the named half. -/
def activeRecord (i : SectionId) (upper : Bool) (a : ActiveSections) : List Byte :=
  match i with
  | .station => encodeStation a.station
  | .run r => encodeRun (a.run.get r)
  | .odorant => encodeOdorant a.odorant
  | .compress => encodeCompress a.compress
  | .monitors => encodeMonitorsHalf upper a.monitors

/-- The record of the staged copy, if there is one. -/
def stagedRecord (i : SectionId) (upper : Bool) (g : StagedSections) : Option (List Byte) :=
  match i with
  | .station => g.station.map encodeStation
  | .run r => (g.run.get r).map encodeRun
  | .odorant => g.odorant.map encodeOdorant
  | .compress => g.compress.map encodeCompress
  | .monitors => g.monitors.map (encodeMonitorsHalf upper)

end Sys2Proof.Machine
end

