-- ==== Sys2Proof/Machine/Handlers.lean ====
section
/-! DEFINITION. What each request of the station link comes to: its checks in the order the chapters give, its effect, its
reply data. The WARMING check and the discard of R181 stand in `Events.lean`. -/

namespace Sys2Proof.Machine

/-! ## Reading requests -/

/-- IDENT (R183). DESIGN CHOICE (log entry 36): a payload that is not empty is refused with BAD_LENGTH, at any time; the manual
states no check of IDENT. -/
def handleIdent (payload : List Byte) : State → Answer :=
  withLength 0 payload fun s => accept (identData s) s

/-- STATION_STATUS (R183, section 11.5). DESIGN CHOICE (log entry 36): a payload that is not empty is refused with BAD_LENGTH,
at any time; the manual states no check of STATION_STATUS. -/
def handleStationStatus (payload : List Byte) : State → Answer :=
  withLength 0 payload fun s => accept (stationStatusData s) s

/-- The checks on a request that names a run, down to the check that it is fitted (R40). Their order is R40's also
for RUN_STATUS, where the place of the length check is log entry 36. -/
def withRun (payload : List Byte) (carryOut : RunId → State → Answer) : State → Answer :=
  unlessWarming (withLength 1 payload fun s =>
    match runId? (fieldAt payload 0 1) with
    | none => refuse .badValue s
    | some r => if s.fitted r then carryOut r s else refuse .noSubject s)

/-- The checks on a request that names a pump, down to the check that it is fitted (R113, R115). -/
def withPump (payload : List Byte) (carryOut : Side → State → Answer) : State → Answer :=
  unlessWarming (withLength 1 payload fun s =>
    match side? (fieldAt payload 0 1) with
    | none => refuse .badValue s
    | some p => if s.pumpIsFitted p then carryOut p s else refuse .noSubject s)

/-- RUN_STATUS (R55): WARMING, then BAD_LENGTH, then BAD_VALUE, then NO_SUBJECT. DESIGN CHOICE (log entry 36): R55 names no
BAD_LENGTH; the model refuses a payload of another length than R183's 1 with it, after WARMING and before BAD_VALUE. -/
def handleRunStatus (payload : List Byte) : State → Answer :=
  withRun payload fun r s => accept (runStatusData r s) s

def handleDoseStatus (payload : List Byte) : State → Answer :=
  unlessWarming (withLength 0 payload fun s => accept (doseStatusData s) s)

def handleMonitorStatus (payload : List Byte) : State → Answer :=
  unlessWarming (withLength 0 payload fun s => accept (monitorStatusData s) s)

/-- PERIOD_READ (R142). -/
def handlePeriodRead (payload : List Byte) : State → Answer :=
  unlessWarming (withLength 1 payload fun s =>
    let age := fieldAt payload 0 1
    if 47 < age then refuse .badValue s
    else
      match s.recorder.ring[age]? with
      | none => refuse .notFound s
      | some x => accept (recordData x) s)

def handleTableRead (payload : List Byte) : State → Answer :=
  unlessWarming (withLength 0 payload fun s => accept (tableData s) s)

/-- The copy a SECTION_READ wants, 1 the staged one, with the half of MONITORS (R167, R183). -/
def readSelector (i : SectionId) (payload : List Byte) : Option (Bool × Bool) := do
  let staged ← yesNo? (fieldAt payload 1 1)
  match i with
  | .monitors =>
    let upper ← yesNo? (fieldAt payload 2 1)
    some (staged, upper)
  | _ => some (staged, false)

/-- The payload length of a SECTION_READ: 3 for MONITORS, 2 otherwise (R185). -/
def readLength : SectionId → Nat
  | .monitors => 3
  | _ => 2

/-- SECTION_READ (R167). -/
def handleSectionRead (payload : List Byte) : State → Answer :=
  unlessWarming fun s =>
    if payload.length = 0 then refuse .badLength s
    else
      match sectionId? (fieldAt payload 0 1) with
      | none => refuse .badValue s
      | some i =>
        if payload.length ≠ readLength i then refuse .badLength s
        else
          match readSelector i payload with
          | none => refuse .badValue s
          | some (staged, upper) =>
            let flags := bytesLE 1 (sectionFlags i s.settings)
            if staged then
              match stagedRecord i upper s.settings.staged with
              | none => refuse .notFound s
              | some bs => accept (flags ++ bs) s
            else accept (flags ++ activeRecord i upper s.settings.active) s

/-! ## Runs (R40, R41, R42, R46) -/

/-- The pulse state of a run at its opening (R41). -/
def openedPulse (p : PulseRun) : PulseRun :=
  { clearIntegrity p with ring := .both [], maintenance := 0 }

/-- The run opened (R41); a settle time of 0 leaves STARTING at once (R42). -/
def openRun (r : RunId) (s : State) : State :=
  let settle := (s.runSection r).settleTime
  let st := if settle = 0 then meteringState r s.loop else .starting
  raiseRun r ((s.onPulse (·.modify r openedPulse)).onRun
    (·.modify r fun c => { c with state := st, settle := settle }))

def handleRunOpen (payload : List Byte) : State → Answer :=
  withRun payload fun r s =>
    if (s.run.get r).state ≠ .out then refuse .wrongState s
    else if s.settings.defaulted.run.get r then refuse .wrongState s
    else
      let s := openRun r s
      accept (bytesLE 1 (s.run.get r).state.code) s

/-- The run closed (R46). -/
def closeRun (r : RunId) (s : State) : State :=
  raiseRun r (clearRunMonitors r
    ((s.onPulse (·.modify r fun p => { p with ring := .both [] })).onRun
      (·.modify r fun c =>
        { c with state := .out, settle := 0, closedInInterval := true
                 stateForInterval := some c.state })))

def handleRunClose (payload : List Byte) : State → Answer :=
  withRun payload fun r s =>
    if (s.run.get r).state = .out then refuse .wrongState s
    else
      let s := closeRun r s
      accept (bytesLE 1 (s.run.get r).state.code) s

/-! ## Period, gas quality, analyser -/

/-- PERIOD_CLOSE (R14). DESIGN CHOICE (log entry 36): R14 names no BAD_LENGTH; the model refuses a payload that is not empty
with it, after WARMING, and closes no period. -/
def handlePeriodClose (payload : List Byte) : State → Answer :=
  unlessWarming (withLength 0 payload fun s =>
    let s := forcedClose s
    accept (bytesLE 4 ((s.recorder.lastSequence.map (·.toNat)).getD 0)) s)

/-- GAS_QUALITY (R168). -/
def handleGasQuality (payload : List Byte) : State → Answer :=
  unlessWarming (withLength 2 payload fun s =>
    let cv := fieldAt payload 0 2
    if inRange 30000 50000 cv then
      accept (bytesLE 2 s.settings.heatingValue ++ bytesLE 2 cv)
        (s.onSettings fun g => { g with stagedHeatingValue := some cv })
    else refuse .badValue s)

/-- ANALYSER_READING: M15 first, then the trim (R93, R94). -/
def handleAnalyserReading (payload : List Byte) : State → Answer :=
  unlessWarming (withLength 2 payload fun s =>
    let m := fieldAt payload 0 2
    let flag := trimFlag m s
    let s := takeReading m (evaluate 15 m s)
    accept (bytesLE 1 flag.code ++ bytesLE 2 s.dose.trim) s)

/-! ## Dosing mode and manual strokes (R83, R84, R113, R114, R115) -/

/-- The duty pump as AUTO is entered (R90). -/
def autoDuty (s : State) : Side :=
  if !s.pumpReady s.duty && s.pumpReady s.duty.other then s.duty.other else s.duty

/-- AUTO entered: duty chosen, ARMED or FAULT, the mode in force (R84). -/
def enterAuto (s : State) : State :=
  let s := s.onDose fun d => { d with duty := autoDuty s }
  setDosingState (if s.pumpReady s.duty then .armed else .fault) (setMode .auto s)

/-- A change of mode (R84). -/
def changeMode (m : DosingMode) (s : State) : State :=
  match m with
  | .auto => raiseDosing (schedulingCheck (enterAuto s))
  | _ =>
    let s := if s.dose.state = .strokeWait then withdrawStroke s else s
    raiseDosing (setMode m (setDosingState .idle (forgoAccount s)))

/-- DOSE_MODE (R83). -/
def handleDoseMode (payload : List Byte) : State → Answer :=
  unlessWarming (withLength 1 payload fun s =>
    match dosingMode? (fieldAt payload 0 1) with
    | none => refuse .badValue s
    | some m =>
      if s.dose.state = .confirmWait ∨ s.dose.state = .manualWait then refuse .busy s
      else if m = .auto ∧ s.settings.defaulted.odorant = true then refuse .wrongState s
      else
        let s := if m = s.dose.mode then s else changeMode m s
        accept (bytesLE 1 s.dose.mode.code ++ bytesLE 1 s.dose.state.code) s)

/-- MANUAL_STROKE (R113, R114). -/
def handleManualStroke (payload : List Byte) : State → Answer :=
  withPump payload fun p s =>
    if s.dose.mode ≠ .manual then refuse .wrongState s
    else if s.dose.state = .manualWait ∨ s.pump.a.line = true ∨ s.pump.b.line = true then refuse .busy s
    else if s.pumpReady p = false then refuse .wrongState s
    else
      accept (bytesLE 1 (Side.code p) ++ bytesLE 4 (s.now + ms s.odorant.driveWidth).toNat
          ++ bytesLE 4 (confirmDue s).toNat)
        (manualDrive p s)

/-- A FAILED pump made READY (R115). -/
def resetPump (p : Side) (s : State) : State :=
  pumpBecameReady p (raiseDosing
    (s.onPump (·.modify p fun x => { x with state := .ready, misses := 0, strays := 0 })))

/-- PUMP_RESET (R115). -/
def handlePumpReset (payload : List Byte) : State → Answer :=
  withPump payload fun p s =>
    if (s.pump.get p).state ≠ .failed then refuse .wrongState s
    else if (s.pump.get p).line then refuse .busy s
    else
      let s := resetPump p s
      accept (bytesLE 1 (s.pump.get p).state.code ++ bytesLE 1 (Side.code s.dose.duty)) s

/-! ## Monitors (R155, R159) -/

/-- EVENT_CLEAR (R155). -/
def handleEventClear (payload : List Byte) : State → Answer :=
  unlessWarming (withLength 1 payload fun s =>
    match monitorId? (fieldAt payload 0 1) with
    | none => refuse .badValue s
    | some m =>
      let s := clearEvent m s
      accept (bytesLE 1 (s.monitors.each.get m).conditionByte) s)

/-- The limit lock set and a staged MONITORS copy dropped (R159). -/
def setLimitLock (s : State) : State :=
  (s.onMonitors fun b => { b with limitLock := true }).onSettings fun g =>
    { g with staged := dropStaged .monitors g.staged }

/-- LIMIT_LOCK (R159): one that finds the lock set changes nothing. -/
def handleLimitLock (payload : List Byte) : State → Answer :=
  unlessWarming (withLength 0 payload fun s =>
    if s.monitors.limitLock then accept (bytesLE 1 0) s
    else accept (bytesLE 1 (boolCode s.settings.staged.monitors.isSome)) (setLimitLock s))

/-! ## The action table (R124, R125) -/

/-- The target of a LINK entry is valid for its kind (R124). -/
def linkTarget (k : EntryKind) (target : Nat) : Bool :=
  match k with
  | .auxOn | .auxOff => (aux? target).isSome
  | .closePeriod => target == 0
  | .timerNotice => decide (target ≤ 255)
  | _ => false

/-- The longest delay of an entry, one day (R124). -/
def longestDelay : Nat := 86400000

/-- SCHEDULE (R124). -/
def handleSchedule (payload : List Byte) : State → Answer :=
  unlessWarming (withLength 6 payload fun s =>
    match entryKind? (fieldAt payload 0 1) with
    | none => refuse .badValue s
    | some k =>
      let target := fieldAt payload 1 1
      let delay := fieldAt payload 2 4
      if !(linkTarget k target && inRange 1 longestDelay delay) then refuse .badValue s
      else if 6 ≤ s.table.count isLink then refuse .tableFull s
      else
        let e : Entry := { owner := .link, kind := k, target := target, due := s.now + ms delay }
        accept (bytesLE 1 ((lowestFree s.table.places).getD 0) ++ bytesLE 4 e.due.toNat)
          (s.onTable (·.place e)))

/-- CANCEL (R125). -/
def handleCancel (payload : List Byte) : State → Answer :=
  unlessWarming (withLength 1 payload fun s =>
    match entryId? (fieldAt payload 0 1) with
    | none => refuse .badValue s
    | some id =>
      match s.table.at id.val with
      | none => refuse .notFound s
      | some e =>
        if isLink e then
          accept (bytesLE 1 e.kind.code ++ bytesLE 1 e.target ++ bytesLE 4 e.due.toNat)
            (s.onTable (·.free id.val))
        else refuse .noSubject s)

/-! ## Settings (R165, R170, R171) -/

/-- A record checked whole and put beside the staged copies, when every field and cross-check holds (R164, R165, R185). -/
def stageRecord (i : SectionId) (bs : List Byte) (g : Settings) : Option StagedSections :=
  match i with
  | .station => (decodeStation bs).map fun c => { g.staged with station := some c }
  | .run r => (decodeRun bs).map fun c => { g.staged with run := g.staged.run.set r (some c) }
  | .odorant => (decodeOdorant bs).map fun c => { g.staged with odorant := some c }
  | .compress => (decodeCompress bs).map fun c => { g.staged with compress := some c }
  | .monitors =>
    (decodeMonitorsHalf (g.staged.monitors.getD g.active.monitors) bs).map fun c =>
      { g.staged with monitors := some c }

/-- SECTION_WRITE (R165). -/
def handleSectionWrite (payload : List Byte) : State → Answer :=
  unlessWarming fun s =>
    if payload.length = 0 then refuse .badLength s
    else
      match sectionId? (fieldAt payload 0 1) with
      | none => refuse .badValue s
      | some i =>
        if payload.length ≠ 1 + i.recordLength then refuse .badLength s
        else if s.settings.protection.get i then refuse .isProtected s
        else if i = .monitors ∧ s.monitors.limitLock = true then refuse .locked s
        else if s.storeBusy then refuse .busy s
        else
          match stageRecord i (payload.drop 1) s.settings with
          | none => refuse .badValue s
          | some staged =>
            accept (bytesLE 1 (boolCode ((stagedMarks s.settings.staged).get i)))
              (s.onSettings fun g => { g with staged := staged })

/-- A section protected and its staged copy dropped (R170). -/
def protectSection (i : SectionId) (s : State) : State :=
  addItem .flags (s.onSettings fun g =>
    { g with protection := g.protection.set i true, flagsUnstored := true
             staged := dropStaged i g.staged })

/-- SECTION_PROTECT (R170). -/
def handleSectionProtect (payload : List Byte) : State → Answer :=
  unlessWarming (withLength 1 payload fun s =>
    match sectionId? (fieldAt payload 0 1) with
    | none => refuse .badValue s
    | some i =>
      if s.storeBusy then refuse .busy s
      else if s.settings.protection.get i then accept (bytesLE 1 0) s
      else
        accept (bytesLE 1 (boolCode ((stagedMarks s.settings.staged).get i)))
          (protectSection i s))

/-- The number of flags set. -/
def flagsSet (f : PerSection Bool) : Nat := f.toList.countP id

/-- PROTECT_CLEAR (R171). -/
def handleProtectClear (payload : List Byte) : State → Answer :=
  unlessWarming (withLength 0 payload fun s =>
    if s.pins.custody = .closed then refuse .switchClosed s
    else
      let n := flagsSet s.settings.protection
      accept (bytesLE 1 n)
        (if n = 0 then s
         else addItem .flags (s.onSettings fun g =>
           { g with protection := .all false, flagsUnstored := true })))

/-- RESTART (R176): answered OK; the restart begins once that reply has been sent in full. -/
def handleRestart (payload : List Byte) : State → Answer :=
  unlessWarming (withLength 0 payload fun s =>
    accept [] (s.onTime fun t => { t with restartPending := true }))

/-! ## Dispatch by kind (R181, R183) -/

/-- The request kinds of the request table (R183). -/
def requestKinds : List Nat :=
  [0x01, 0x02, 0x03, 0x04, 0x05, 0x06, 0x07, 0x08, 0x10, 0x11, 0x12, 0x13, 0x14, 0x15, 0x16, 0x17, 0x18,
    0x19, 0x1A, 0x1B, 0x20, 0x21, 0x22, 0x2F]

def handleUnknownKind (s : State) : Answer := refuse .unknownKind s

/-- The block that owns a kind, as the handler of its requests. -/
def handlerOf (kind : Nat) : List Byte → State → Answer :=
  match kind with
  | 0x01 => handleIdent
  | 0x02 => handleStationStatus
  | 0x03 => handleRunStatus
  | 0x04 => handleDoseStatus
  | 0x05 => handleMonitorStatus
  | 0x06 => handlePeriodRead
  | 0x07 => handleTableRead
  | 0x08 => handleSectionRead
  | 0x10 => handleRunOpen
  | 0x11 => handleRunClose
  | 0x12 => handlePeriodClose
  | 0x13 => handleGasQuality
  | 0x14 => handleAnalyserReading
  | 0x15 => handleDoseMode
  | 0x16 => handleManualStroke
  | 0x17 => handlePumpReset
  | 0x18 => handleEventClear
  | 0x19 => handleLimitLock
  | 0x1A => handleSchedule
  | 0x1B => handleCancel
  | 0x20 => handleSectionWrite
  | 0x21 => handleSectionProtect
  | 0x22 => handleProtectClear
  | 0x2F => handleRestart
  | _ => fun _ => handleUnknownKind

/-- A frame the receiver has completed, dispatched by its kind. -/
def dispatchFrame (s : State) (f : Frame) : State :=
  dispatch f.kind f.tag (handlerOf f.kind.toNat f.payload) s

/-- Bytes taken one after another from the line: each frame they complete is dispatched at once (R180, R181). -/
def receiveBytes (bytes : List LineByte) (s : State) : State :=
  let (r, frames) := takeBytes s.link.receiver bytes
  frames.foldl dispatchFrame (s.onLink fun l => { l with receiver := r })

end Sys2Proof.Machine
end

