-- ==== Sys2Proof/Machine/InputCommands.lean ====
section
/-! DEFINITION. The commands of the field inputs and of the pumps' and dose controller's own times. -/

namespace Sys2Proof.Machine

/-- PULSE_EDGE (R19, R20). -/
def execPulseEdge (after : Nat) (run : RunId) (channel : Side) (s : State) : Result :=
  event after (pulseTaken run channel) (pulseEdge run channel) s

/-- PULSE_HOLD_OFF_END (R19). -/
def execPulseHoldOffEnd (after : Nat) (run : RunId) (channel : Side) (s : State) : Result :=
  event after (pulseHoldOffDone run channel) (endPulseHoldOff run channel) s

/-- The channel whose conversion is complete, if one is (R28). -/
def conversionDone (s : State) : Option ChannelId :=
  match s.loop.converter with
  | .converting c 0 => if s.live then some c else none
  | _ => none

/-- CONVERSION_COMPLETION (R28, R31 to R34). -/
def execConversionCompletion (after : Nat) (current : Nat) (s : State) : Result :=
  event after (fun s => (conversionDone s).isSome)
    (fun s => match conversionDone s with
      | some c => completion c current s
      | none => s) s

/-- SENSE_EDGE (R35). -/
def execSenseEdge (after : Nat) (pump : Side) (s : State) : Result :=
  event after (senseTaken pump) (senseEdge pump) s

/-- SENSE_HOLD_OFF_END (R35). -/
def execSenseHoldOffEnd (after : Nat) (pump : Side) (s : State) : Result :=
  event after (senseHoldOffDone pump) (fun s => s.onSense (·.set pump none)) s

/-- DRIVE_END (R103). -/
def execDriveEnd (after : Nat) (pump : Side) (s : State) : Result :=
  event after (fun s => s.live && driveEnded pump s) (endDrive pump) s

/-- Recent drive lasts 60,000 ms from the last drive time (R86). -/
def recentDriveDone (s : State) : Bool :=
  match s.dose.lastDrive with
  | some d => s.live && s.dose.recentDrive && reached (d + ms 60000) s.now
  | none => false

/-- RECENT_DRIVE_END (R86). -/
def execRecentDriveEnd (after : Nat) (s : State) : Result :=
  event after recentDriveDone (fun s => s.onDose fun d => { d with recentDrive := false }) s

/-- The trim hold-off is RUNNING and its end has been reached (R94). -/
def trimHoldOffDone (s : State) : Bool :=
  match s.dose.trimHoldOff with
  | some d => s.live && reached d s.now
  | none => false

/-- TRIM_HOLD_OFF_END (R94). -/
def execTrimHoldOffEnd (after : Nat) (s : State) : Result :=
  event after trimHoldOffDone (fun s => s.onDose fun d => { d with trimHoldOff := none }) s

end Sys2Proof.Machine
end

