-- ==== Sys2Proof/Machine/LinkCommands.lean ====
section
/-! DEFINITION. The commands of the link's line: reception faults, the end of a sent frame, a request of an unknown kind. -/

namespace Sys2Proof.Machine

/-- The bytes taken before a reception fault, then the frame being received discarded (R180). -/
def receptionFault (bytes : List LineByte) (s : State) : State := dropFrame (receiveBytes bytes s)

/-- RECEIVE_TIMEOUT (R180): the bytes before the gap, then more than 20 ms without a byte. After 20 ms or less there is no
timeout and the frame goes on: nothing happens yet (log entries 3 and 17). -/
def execReceiveTimeout (after : Nat) (bytes : BytesThenGap) (s : State) : Result :=
  event after (fun s => s.live && gapExceeded bytes.gap) (receptionFault bytes.bytes) s

/-- FRAME_CHECK_FAIL (R180): the last of the bytes shows a length out of range or a check that does not match. -/
def execFrameCheckFail (after : Nat) (bytes : List LineByte) (s : State) : Result :=
  event after State.live (receptionFault bytes) s

/-- STOP_BIT_ERROR (R180): the bytes before the faulty one. -/
def execStopBitError (after : Nat) (bytes : List LineByte) (s : State) : Result :=
  event after State.live (receptionFault bytes) s

/-- The frame being sent has been on the line for its whole line time (R178). -/
def frameDone (s : State) : Bool :=
  match s.link.tx with
  | some x => s.live && x.left == 0
  | none => false

/-- A frame is the reply that answers a RESTART with OK (R176). -/
def isRestartReply (f : Frame) : Bool := f.kind == 0xAF#8 && f.payload == [0x00#8]

/-- The transmitter becomes IDLE; the RESTART reply sent in full makes the pending restart due (R176, R182). -/
def endFrame (s : State) : State :=
  let answered := match s.link.tx with
    | some x => s.time.restartPending && isRestartReply x.frame
    | none => false
  let s := s.onLink fun l => { l with tx := none }
  if answered then s.onTime fun t => { t with restartPending := false, restartDue := true } else s

/-- FRAME_SENT (R182). -/
def execFrameSent (after : Nat) (s : State) : Result := event after frameDone endFrame s

/-- UNKNOWN_KIND_REQUEST (R181): answered with UNKNOWN_KIND, in WARMUP as at any time. -/
def execUnknownKindRequest (after : Nat) (kind tag : Byte) (_payload : List Byte) (s : State) : Result :=
  request after kind tag handleUnknownKind s

end Sys2Proof.Machine
end

