-- ==== Sys2Proof/Machine/PowerCommands.lean ====
section
/-! DEFINITION. The commands of supply and start: power-on, the power-fail warning, restart, loss of supply, warm-up end,
the boundary. -/

namespace Sys2Proof.Machine

/-- POWER_ON (R37, R175): supply comes, and the part starts once PFW is high too. A part that is running has its supply
already. -/
def execPowerOn (after : Nat) (s : State) : Result :=
  event after (fun s => s.time.phase == .off || s.time.phase == .halt) powerUp s

/-- POWER_FAIL_WARNING (R17, R37, R177): the falling edge of PFW; no effect but the level in HALT. -/
def execPowerFailWarning (after : Nat) (s : State) : Result :=
  event after (fun _ => true) (fun s => setPfw false (if s.live then powerFail s else s)) s

/-- PFW_RISE (R37, R177): in HALT the rise is held for the restart; a part that waits for it with supply present starts; in
WARMUP and RUNNING it only sets the level. -/
def execPfwRise (after : Nat) (s : State) : Result :=
  event after (fun _ => true) (fun s => startWhenReady (holdRise (setPfw true s))) s

/-- RESTART_BEGIN (R15, R176). -/
def execRestartBegin (after : Nat) (s : State) : Result := event after restartReady restartPart s

/-- WARMUP_END (R5). -/
def execWarmupEnd (after : Nat) (s : State) : Result := event after warmupDone enterRunning s

/-- BOUNDARY (R6, R7). -/
def execBoundary (after : Nat) (s : State) : Result := event after boundaryDue timedBoundary s

/-- LOSS_OF_SUPPLY (R37, R173). -/
def execLossOfSupply (after : Nat) (s : State) : Result :=
  event after (fun s => s.time.phase != .off || s.pins.supply) supplyLost s

end Sys2Proof.Machine
end

