-- ==== Sys2Proof/Machine/RequestCommands.lean ====
section
/-! DEFINITION. The requests of the station link as commands: a whole frame of the kind, its last check byte taken now. -/

namespace Sys2Proof.Machine

/-- The custody contact shows a level (R36). -/
def showCustody (level : SwitchLevel) (s : State) : State := s.onPins fun p => { p with custody := level }

/-- IDENT (R183). -/
def execIdent (after : Nat) (tag : Byte) (payload : List Byte) (s : State) : Result :=
  request after 0x01#8 tag (handleIdent payload) s

/-- STATION_STATUS (R189), with the custody level found as the reply is built (R36). -/
def execStationStatus (after : Nat) (tag : Byte) (payload : List Byte) (custody : SwitchLevel) (s : State) : Result :=
  request after 0x02#8 tag (handleStationStatus payload) (showCustody custody s)

/-- RUN_STATUS (R55). -/
def execRunStatus (after : Nat) (tag : Byte) (payload : List Byte) (s : State) : Result :=
  request after 0x03#8 tag (handleRunStatus payload) s

/-- DOSE_STATUS (R97). -/
def execDoseStatus (after : Nat) (tag : Byte) (payload : List Byte) (s : State) : Result :=
  request after 0x04#8 tag (handleDoseStatus payload) s

/-- MONITOR_STATUS (R161). -/
def execMonitorStatus (after : Nat) (tag : Byte) (payload : List Byte) (s : State) : Result :=
  request after 0x05#8 tag (handleMonitorStatus payload) s

/-- PERIOD_READ (R142). -/
def execPeriodRead (after : Nat) (tag : Byte) (payload : List Byte) (s : State) : Result :=
  request after 0x06#8 tag (handlePeriodRead payload) s

/-- TABLE_READ (R133). -/
def execTableRead (after : Nat) (tag : Byte) (payload : List Byte) (s : State) : Result :=
  request after 0x07#8 tag (handleTableRead payload) s

/-- SECTION_READ (R167). -/
def execSectionRead (after : Nat) (tag : Byte) (payload : List Byte) (s : State) : Result :=
  request after 0x08#8 tag (handleSectionRead payload) s

/-- RUN_OPEN (R40). -/
def execRunOpen (after : Nat) (tag : Byte) (payload : List Byte) (s : State) : Result :=
  request after 0x10#8 tag (handleRunOpen payload) s

/-- RUN_CLOSE (R46). -/
def execRunClose (after : Nat) (tag : Byte) (payload : List Byte) (s : State) : Result :=
  request after 0x11#8 tag (handleRunClose payload) s

/-- PERIOD_CLOSE (R14). -/
def execPeriodClose (after : Nat) (tag : Byte) (payload : List Byte) (s : State) : Result :=
  request after 0x12#8 tag (handlePeriodClose payload) s

/-- GAS_QUALITY (R168). -/
def execGasQuality (after : Nat) (tag : Byte) (payload : List Byte) (s : State) : Result :=
  request after 0x13#8 tag (handleGasQuality payload) s

/-- ANALYSER_READING (R93). -/
def execAnalyserReading (after : Nat) (tag : Byte) (payload : List Byte) (s : State) : Result :=
  request after 0x14#8 tag (handleAnalyserReading payload) s

/-- DOSE_MODE (R83). -/
def execDoseMode (after : Nat) (tag : Byte) (payload : List Byte) (s : State) : Result :=
  request after 0x15#8 tag (handleDoseMode payload) s

/-- MANUAL_STROKE (R113). -/
def execManualStroke (after : Nat) (tag : Byte) (payload : List Byte) (s : State) : Result :=
  request after 0x16#8 tag (handleManualStroke payload) s

/-- PUMP_RESET (R115). -/
def execPumpReset (after : Nat) (tag : Byte) (payload : List Byte) (s : State) : Result :=
  request after 0x17#8 tag (handlePumpReset payload) s

/-- EVENT_CLEAR (R155). -/
def execEventClear (after : Nat) (tag : Byte) (payload : List Byte) (s : State) : Result :=
  request after 0x18#8 tag (handleEventClear payload) s

/-- LIMIT_LOCK (R159). -/
def execLimitLock (after : Nat) (tag : Byte) (payload : List Byte) (s : State) : Result :=
  request after 0x19#8 tag (handleLimitLock payload) s

/-- SCHEDULE (R124). -/
def execSchedule (after : Nat) (tag : Byte) (payload : List Byte) (s : State) : Result :=
  request after 0x1A#8 tag (handleSchedule payload) s

/-- CANCEL (R125). -/
def execCancel (after : Nat) (tag : Byte) (payload : List Byte) (s : State) : Result :=
  request after 0x1B#8 tag (handleCancel payload) s

/-- SECTION_WRITE (R165). -/
def execSectionWrite (after : Nat) (tag : Byte) (payload : List Byte) (s : State) : Result :=
  request after 0x20#8 tag (handleSectionWrite payload) s

/-- SECTION_PROTECT (R170). -/
def execSectionProtect (after : Nat) (tag : Byte) (payload : List Byte) (s : State) : Result :=
  request after 0x21#8 tag (handleSectionProtect payload) s

/-- PROTECT_CLEAR (R171), with the custody level found as it is taken (R36). -/
def execProtectClear (after : Nat) (tag : Byte) (payload : List Byte) (custody : SwitchLevel) (s : State) : Result :=
  request after 0x22#8 tag (handleProtectClear payload) (showCustody custody s)

/-- RESTART (R176). -/
def execRestart (after : Nat) (tag : Byte) (payload : List Byte) (s : State) : Result :=
  request after 0x2F#8 tag (handleRestart payload) s

end Sys2Proof.Machine
end

