-- ==== Sys2Proof/Machine/TableCommands.lean ====
section
/-! DEFINITION. The entries of the action table carried out when due (section 7.4), and the store's completions. -/

namespace Sys2Proof.Machine

/-- An entry of a kind holds an id and its due time has been reached, in WARMUP or RUNNING (R127). -/
def entryDue (kind : EntryKind) (id : Fin 8) (s : State) : Bool :=
  match s.table.at id.val with
  | some e => s.live && e.kind == kind && reached e.due s.now
  | none => false

/-- An entry carried out: removed first, then its action handed on with its target (R127). -/
def carryOut (kind : EntryKind) (action : Nat → State → State) (after : Nat) (id : Fin 8) (s : State) :
    Result :=
  event after (entryDue kind id)
    (fun s => match s.table.at id.val with
      | some e => action e.target (s.onTable (·.free id.val))
      | none => s) s

/-- STROKE_ENTRY_DUE (R87, R131): the dose controller starts a drive of the pump. -/
def execStrokeEntryDue (after : Nat) (id : Fin 8) (s : State) : Result :=
  carryOut .stroke (fun target s => match side? target with
    | some p => autoDrive p s
    | none => s) after id s

/-- CONFIRM_ENTRY_DUE (R106, R131): the pump unit takes the stroke as missed. -/
def execConfirmEntryDue (after : Nat) (id : Fin 8) (s : State) : Result :=
  carryOut .confirm (fun target s => match side? target with
    | some p => deadline p s
    | none => s) after id s

/-- An auxiliary line set to a level (R128). -/
def setAux (level : Bool) (target : Nat) (s : State) : State :=
  match aux? target with
  | some line => s.onTable fun t => { t with aux := t.aux.set line level }
  | none => s

/-- AUX_ON_ENTRY_DUE (R128). -/
def execAuxOnEntryDue (after : Nat) (id : Fin 8) (s : State) : Result :=
  carryOut .auxOn (setAux true) after id s

/-- AUX_OFF_ENTRY_DUE (R128). -/
def execAuxOffEntryDue (after : Nat) (id : Fin 8) (s : State) : Result :=
  carryOut .auxOff (setAux false) after id s

/-- CLOSE_PERIOD_ENTRY_DUE (R129): a forced close reaches the time base, which acts on it while RUNNING. -/
def execClosePeriodEntryDue (after : Nat) (id : Fin 8) (s : State) : Result :=
  carryOut .closePeriod (fun _ s => if s.time.phase = .running then forcedClose s else s) after id s

/-- TIMER_NOTICE_ENTRY_DUE (R130). -/
def execTimerNoticeEntryDue (after : Nat) (id : Fin 8) (s : State) : Result :=
  carryOut .timerNotice (fun target s => raise .timer target s) after id s

/-- The write in progress has run its 30 ms (R172). -/
def writeDone (s : State) : Bool :=
  match s.store.writing with
  | some w => s.time.phase != .off && w.left == 0
  | none => false

/-- STORE_WRITE_COMPLETE (R172, R177). -/
def execStoreWriteComplete (after : Nat) (s : State) : Result :=
  event after writeDone
    (fun s => match s.store.writing with
      | some w => completeWrite w s
      | none => s) s

end Sys2Proof.Machine
end

