-- ==== Sys2Proof/Machine/Dispatch.lean ====
section
/-! DEFINITION. Every command and its meaning: one arm per constructor. -/

namespace Sys2Proof.Machine

def exec (i : Instr) (s : State) : Host.Outcome State Fault Refusal :=
  match i with
  | .powerOn after => Sys2Proof.Machine.execPowerOn after s
  | .powerFailWarning after => Sys2Proof.Machine.execPowerFailWarning after s
  | .pfwRise after => Sys2Proof.Machine.execPfwRise after s
  | .restartBegin after => Sys2Proof.Machine.execRestartBegin after s
  | .warmupEnd after => Sys2Proof.Machine.execWarmupEnd after s
  | .boundary after => Sys2Proof.Machine.execBoundary after s
  | .pulseEdge after run channel => Sys2Proof.Machine.execPulseEdge after run channel s
  | .pulseHoldOffEnd after run channel => Sys2Proof.Machine.execPulseHoldOffEnd after run channel s
  | .conversionCompletion after current => Sys2Proof.Machine.execConversionCompletion after current s
  | .senseEdge after pump => Sys2Proof.Machine.execSenseEdge after pump s
  | .senseHoldOffEnd after pump => Sys2Proof.Machine.execSenseHoldOffEnd after pump s
  | .driveEnd after pump => Sys2Proof.Machine.execDriveEnd after pump s
  | .recentDriveEnd after => Sys2Proof.Machine.execRecentDriveEnd after s
  | .trimHoldOffEnd after => Sys2Proof.Machine.execTrimHoldOffEnd after s
  | .strokeEntryDue after id => Sys2Proof.Machine.execStrokeEntryDue after id s
  | .confirmEntryDue after id => Sys2Proof.Machine.execConfirmEntryDue after id s
  | .auxOnEntryDue after id => Sys2Proof.Machine.execAuxOnEntryDue after id s
  | .auxOffEntryDue after id => Sys2Proof.Machine.execAuxOffEntryDue after id s
  | .closePeriodEntryDue after id => Sys2Proof.Machine.execClosePeriodEntryDue after id s
  | .timerNoticeEntryDue after id => Sys2Proof.Machine.execTimerNoticeEntryDue after id s
  | .storeWriteComplete after => Sys2Proof.Machine.execStoreWriteComplete after s
  | .receiveTimeout after bytes => Sys2Proof.Machine.execReceiveTimeout after bytes s
  | .frameCheckFail after bytes => Sys2Proof.Machine.execFrameCheckFail after bytes s
  | .frameSent after => Sys2Proof.Machine.execFrameSent after s
  | .unknownKindRequest after kind tag payload => Sys2Proof.Machine.execUnknownKindRequest after kind tag payload s
  | .ident after tag payload => Sys2Proof.Machine.execIdent after tag payload s
  | .stationStatus after tag payload custody => Sys2Proof.Machine.execStationStatus after tag payload custody s
  | .runStatus after tag payload => Sys2Proof.Machine.execRunStatus after tag payload s
  | .doseStatus after tag payload => Sys2Proof.Machine.execDoseStatus after tag payload s
  | .monitorStatus after tag payload => Sys2Proof.Machine.execMonitorStatus after tag payload s
  | .periodRead after tag payload => Sys2Proof.Machine.execPeriodRead after tag payload s
  | .tableRead after tag payload => Sys2Proof.Machine.execTableRead after tag payload s
  | .sectionRead after tag payload => Sys2Proof.Machine.execSectionRead after tag payload s
  | .runOpen after tag payload => Sys2Proof.Machine.execRunOpen after tag payload s
  | .runClose after tag payload => Sys2Proof.Machine.execRunClose after tag payload s
  | .periodClose after tag payload => Sys2Proof.Machine.execPeriodClose after tag payload s
  | .gasQuality after tag payload => Sys2Proof.Machine.execGasQuality after tag payload s
  | .analyserReading after tag payload => Sys2Proof.Machine.execAnalyserReading after tag payload s
  | .doseMode after tag payload => Sys2Proof.Machine.execDoseMode after tag payload s
  | .manualStroke after tag payload => Sys2Proof.Machine.execManualStroke after tag payload s
  | .pumpReset after tag payload => Sys2Proof.Machine.execPumpReset after tag payload s
  | .eventClear after tag payload => Sys2Proof.Machine.execEventClear after tag payload s
  | .limitLock after tag payload => Sys2Proof.Machine.execLimitLock after tag payload s
  | .schedule after tag payload => Sys2Proof.Machine.execSchedule after tag payload s
  | .cancel after tag payload => Sys2Proof.Machine.execCancel after tag payload s
  | .sectionWrite after tag payload => Sys2Proof.Machine.execSectionWrite after tag payload s
  | .sectionProtect after tag payload => Sys2Proof.Machine.execSectionProtect after tag payload s
  | .protectClear after tag payload custody => Sys2Proof.Machine.execProtectClear after tag payload custody s
  | .restart after tag payload => Sys2Proof.Machine.execRestart after tag payload s
  | .stopBitError after bytes => Sys2Proof.Machine.execStopBitError after bytes s
  | .lossOfSupply after => Sys2Proof.Machine.execLossOfSupply after s

end Sys2Proof.Machine
end

