-- ==== Sys2Proof/WellFormed.lean ====
section
/-! DEFINITION. Which commands are well formed: what a frame of the link can carry, and what a reception fault can show. -/

namespace Sys2Proof

open Machine

/-- The longest payload of a frame: N is at most 250 and counts the kind and the tag (R179). -/
def longestPayload : Nat := 248

def payloadFits (payload : List Byte) : Bool := decide (payload.length ≤ longestPayload)

/-- A kind that is not in the request table (R181). -/
def kindUnknown (kind : Byte) : Bool := !requestKinds.contains kind.toNat

/-- Bytes taken from HUNT that complete no request. -/
def noRequest (bytes : List LineByte) : Bool := (takeBytes huntReceiver bytes).2.isEmpty

/-- The receiver is inside a frame after the bytes. -/
def insideFrame (bytes : List LineByte) : Bool := (takeBytes huntReceiver bytes).1.state != .hunt

/-- A receive timeout comes inside a frame, after its start byte (R180). -/
def timeoutBytes (bytes : List LineByte) : Bool := noRequest bytes && insideFrame bytes

/-- The last byte makes the frame fail: a length out of range, or a check that does not match (R180). -/
def failingBytes (bytes : List LineByte) : Bool :=
  noRequest bytes && insideFrame bytes.dropLast && !insideFrame bytes

/-- The well-formed commands. -/
def Instr.wf : Instr → Bool
  | .powerOn _ => true
  | .powerFailWarning _ => true
  | .pfwRise _ => true
  | .restartBegin _ => true
  | .warmupEnd _ => true
  | .boundary _ => true
  | .pulseEdge _ _ _ => true
  | .pulseHoldOffEnd _ _ _ => true
  | .conversionCompletion _ _ => true
  | .senseEdge _ _ => true
  | .senseHoldOffEnd _ _ => true
  | .driveEnd _ _ => true
  | .recentDriveEnd _ => true
  | .trimHoldOffEnd _ => true
  | .strokeEntryDue _ _ => true
  | .confirmEntryDue _ _ => true
  | .auxOnEntryDue _ _ => true
  | .auxOffEntryDue _ _ => true
  | .closePeriodEntryDue _ _ => true
  | .timerNoticeEntryDue _ _ => true
  | .storeWriteComplete _ => true
  | .receiveTimeout _ bytes => timeoutBytes bytes.bytes && gapExceeded bytes.gap
  | .frameCheckFail _ bytes => failingBytes bytes
  | .frameSent _ => true
  | .unknownKindRequest _ kind _ payload => kindUnknown kind && payloadFits payload
  | .ident _ _ payload => payloadFits payload
  | .stationStatus _ _ payload _ => payloadFits payload
  | .runStatus _ _ payload => payloadFits payload
  | .doseStatus _ _ payload => payloadFits payload
  | .monitorStatus _ _ payload => payloadFits payload
  | .periodRead _ _ payload => payloadFits payload
  | .tableRead _ _ payload => payloadFits payload
  | .sectionRead _ _ payload => payloadFits payload
  | .runOpen _ _ payload => payloadFits payload
  | .runClose _ _ payload => payloadFits payload
  | .periodClose _ _ payload => payloadFits payload
  | .gasQuality _ _ payload => payloadFits payload
  | .analyserReading _ _ payload => payloadFits payload
  | .doseMode _ _ payload => payloadFits payload
  | .manualStroke _ _ payload => payloadFits payload
  | .pumpReset _ _ payload => payloadFits payload
  | .eventClear _ _ payload => payloadFits payload
  | .limitLock _ _ payload => payloadFits payload
  | .schedule _ _ payload => payloadFits payload
  | .cancel _ _ payload => payloadFits payload
  | .sectionWrite _ _ payload => payloadFits payload
  | .sectionProtect _ _ payload => payloadFits payload
  | .protectClear _ _ payload _ => payloadFits payload
  | .restart _ _ payload => payloadFits payload
  | .stopBitError _ bytes => noRequest bytes
  | .lossOfSupply _ => true

/-- The frame a request command has on the line (R179, R183); none for the commands that are no request. -/
def Instr.frame? : Instr → Option Frame
  | .unknownKindRequest _ kind tag payload => some ⟨kind, tag, payload⟩
  | .ident _ tag payload => some ⟨0x01#8, tag, payload⟩
  | .stationStatus _ tag payload _ => some ⟨0x02#8, tag, payload⟩
  | .runStatus _ tag payload => some ⟨0x03#8, tag, payload⟩
  | .doseStatus _ tag payload => some ⟨0x04#8, tag, payload⟩
  | .monitorStatus _ tag payload => some ⟨0x05#8, tag, payload⟩
  | .periodRead _ tag payload => some ⟨0x06#8, tag, payload⟩
  | .tableRead _ tag payload => some ⟨0x07#8, tag, payload⟩
  | .sectionRead _ tag payload => some ⟨0x08#8, tag, payload⟩
  | .runOpen _ tag payload => some ⟨0x10#8, tag, payload⟩
  | .runClose _ tag payload => some ⟨0x11#8, tag, payload⟩
  | .periodClose _ tag payload => some ⟨0x12#8, tag, payload⟩
  | .gasQuality _ tag payload => some ⟨0x13#8, tag, payload⟩
  | .analyserReading _ tag payload => some ⟨0x14#8, tag, payload⟩
  | .doseMode _ tag payload => some ⟨0x15#8, tag, payload⟩
  | .manualStroke _ tag payload => some ⟨0x16#8, tag, payload⟩
  | .pumpReset _ tag payload => some ⟨0x17#8, tag, payload⟩
  | .eventClear _ tag payload => some ⟨0x18#8, tag, payload⟩
  | .limitLock _ tag payload => some ⟨0x19#8, tag, payload⟩
  | .schedule _ tag payload => some ⟨0x1A#8, tag, payload⟩
  | .cancel _ tag payload => some ⟨0x1B#8, tag, payload⟩
  | .sectionWrite _ tag payload => some ⟨0x20#8, tag, payload⟩
  | .sectionProtect _ tag payload => some ⟨0x21#8, tag, payload⟩
  | .protectClear _ tag payload _ => some ⟨0x22#8, tag, payload⟩
  | .restart _ tag payload => some ⟨0x2F#8, tag, payload⟩
  | .powerOn _ | .powerFailWarning _ | .pfwRise _ | .restartBegin _ | .warmupEnd _ | .boundary _
  | .pulseEdge _ _ _ | .pulseHoldOffEnd _ _ _ | .conversionCompletion _ _ | .senseEdge _ _
  | .senseHoldOffEnd _ _ | .driveEnd _ _ | .recentDriveEnd _ | .trimHoldOffEnd _
  | .strokeEntryDue _ _ | .confirmEntryDue _ _ | .auxOnEntryDue _ _ | .auxOffEntryDue _ _
  | .closePeriodEntryDue _ _ | .timerNoticeEntryDue _ _ | .storeWriteComplete _
  | .receiveTimeout _ _ | .frameCheckFail _ _ | .frameSent _ | .stopBitError _ _
  | .lossOfSupply _ => none

/-- The time that passes before a command is taken, in µs (log entry 1). -/
def Instr.after : Instr → Nat
  | .powerOn after => after
  | .powerFailWarning after => after
  | .pfwRise after => after
  | .restartBegin after => after
  | .warmupEnd after => after
  | .boundary after => after
  | .pulseEdge after _ _ => after
  | .pulseHoldOffEnd after _ _ => after
  | .conversionCompletion after _ => after
  | .senseEdge after _ => after
  | .senseHoldOffEnd after _ => after
  | .driveEnd after _ => after
  | .recentDriveEnd after => after
  | .trimHoldOffEnd after => after
  | .strokeEntryDue after _ => after
  | .confirmEntryDue after _ => after
  | .auxOnEntryDue after _ => after
  | .auxOffEntryDue after _ => after
  | .closePeriodEntryDue after _ => after
  | .timerNoticeEntryDue after _ => after
  | .storeWriteComplete after => after
  | .receiveTimeout after _ => after
  | .frameCheckFail after _ => after
  | .frameSent after => after
  | .unknownKindRequest after _ _ _ => after
  | .ident after _ _ => after
  | .stationStatus after _ _ _ => after
  | .runStatus after _ _ => after
  | .doseStatus after _ _ => after
  | .monitorStatus after _ _ => after
  | .periodRead after _ _ => after
  | .tableRead after _ _ => after
  | .sectionRead after _ _ => after
  | .runOpen after _ _ => after
  | .runClose after _ _ => after
  | .periodClose after _ _ => after
  | .gasQuality after _ _ => after
  | .analyserReading after _ _ => after
  | .doseMode after _ _ => after
  | .manualStroke after _ _ => after
  | .pumpReset after _ _ => after
  | .eventClear after _ _ => after
  | .limitLock after _ _ => after
  | .schedule after _ _ => after
  | .cancel after _ _ => after
  | .sectionWrite after _ _ => after
  | .sectionProtect after _ _ => after
  | .protectClear after _ _ _ => after
  | .restart after _ _ => after
  | .stopBitError after _ => after
  | .lossOfSupply after => after

/-- The level the custody contact is found at, for the two requests that read it (R36). -/
def Instr.custody? : Instr → Option SwitchLevel
  | .stationStatus _ _ _ custody => some custody
  | .protectClear _ _ _ custody => some custody
  | .powerOn _ | .powerFailWarning _ | .pfwRise _ | .restartBegin _ | .warmupEnd _ | .boundary _
  | .pulseEdge _ _ _ | .pulseHoldOffEnd _ _ _ | .conversionCompletion _ _ | .senseEdge _ _
  | .senseHoldOffEnd _ _ | .driveEnd _ _ | .recentDriveEnd _ | .trimHoldOffEnd _
  | .strokeEntryDue _ _ | .confirmEntryDue _ _ | .auxOnEntryDue _ _ | .auxOffEntryDue _ _
  | .closePeriodEntryDue _ _ | .timerNoticeEntryDue _ _ | .storeWriteComplete _
  | .receiveTimeout _ _ | .frameCheckFail _ _ | .frameSent _ | .unknownKindRequest _ _ _ _
  | .ident _ _ _ | .runStatus _ _ _ | .doseStatus _ _ _ | .monitorStatus _ _ _ | .periodRead _ _ _
  | .tableRead _ _ _ | .sectionRead _ _ _ | .runOpen _ _ _ | .runClose _ _ _ | .periodClose _ _ _
  | .gasQuality _ _ _ | .analyserReading _ _ _ | .doseMode _ _ _ | .manualStroke _ _ _
  | .pumpReset _ _ _ | .eventClear _ _ _ | .limitLock _ _ _ | .schedule _ _ _ | .cancel _ _ _
  | .sectionWrite _ _ _ | .sectionProtect _ _ _ | .restart _ _ _ | .stopBitError _ _
  | .lossOfSupply _ => none

end Sys2Proof
end

