-- ==== Sys2Proof/Safety.lean ====
section
/-! DEFINITION. What counts as a good state and a punctual run, and the words the statements share. -/

namespace Sys2Proof.Machine

/-! ## The store and the write in progress, item by item -/

/-- Every resume record the store holds or is being given passes a test. -/
def Store.everyResume (test : ResumeRecord → Bool) (st : Store) : Bool :=
  (match st.resume with
   | .valid r => test r
   | _ => true)
  && st.writing.all fun w =>
    match w.content with
    | .resume r => test r
    | _ => true

/-- Every record ring the store holds or is being given passes a test. -/
def Store.everyRing (test : List PeriodRecord → Bool) (st : Store) : Bool :=
  (match st.ring with
   | .valid r => test r
   | _ => true)
  && st.writing.all fun w =>
    match w.content with
    | .ring r _ => test r
    | _ => true

/-! ## The odorant balance (R95, R138) -/

/-- Account at the end − account at open = owed − auto-delivered − forgone. -/
def StationAccumulators.balances (a : StationAccumulators) (account : Nat) : Bool :=
  account + a.autoDelivered + a.forgone == a.accountOpen + a.owed

def PeriodRecord.balances (x : PeriodRecord) : Bool := x.station.balances x.accountClose

def ResumeRecord.balances (r : ResumeRecord) : Bool :=
  r.station.balances r.account && r.unstored.all PeriodRecord.balances

/-- The period in progress and every record held, in memory and in the store, satisfy the balance. -/
def State.dosesBalance (s : State) : Bool :=
  s.recorder.station.balances s.dose.account && s.recorder.ring.all PeriodRecord.balances
    && s.store.everyRing (·.all PeriodRecord.balances) && s.store.everyResume ResumeRecord.balances

/-! ## The dose account (R81) -/

/-- The account lies within the cap, and is 0 in OFF and MANUAL. -/
def State.accountBounded (s : State) : Bool :=
  decide (s.dose.account ≤ s.odorant.cap) && (s.dose.mode == .auto || s.dose.account == 0)

/-! ## Figures in their ranges (R57, R66, R80, R94, R144) -/

def trimInRange (trim : Nat) : Bool := inRange 8000 12500 trim

def heatingInRange (cv : Nat) : Bool := inRange 30000 50000 cv

def Totals.inRange (t : Totals) : Bool :=
  decide (t.gross < totalWrap) && decide (t.grossResidue < 1000)
    && decide (t.base < totalWrap) && decide (t.baseResidue < 1000)
    && decide (t.energy < totalWrap) && decide (t.energyResidue < 1000000)

def residueInRange (r : Nat) : Bool := decide (r < 1000000)

def ResumeRecord.figuresInRange (r : ResumeRecord) : Bool :=
  trimInRange r.trim && decide (r.owedResidue < nano) && r.residues.toList.all residueInRange
    && r.totals.toList.all Totals.inRange && heatingInRange r.heatingValue

/-- Trim, residues, totals and heating value lie in their ranges, in memory and in the store. -/
def State.figuresInRange (s : State) : Bool :=
  trimInRange s.dose.trim && decide (s.dose.residue < nano) && s.conv.residue.toList.all residueInRange
    && s.recorder.totals.toList.all Totals.inRange && heatingInRange s.settings.heatingValue
    && s.settings.stagedHeatingValue.all heatingInRange && s.store.everyResume ResumeRecord.figuresInRange

/-! ## The record ring (R139, R141) -/

/-- At most 48 records, their numbers consecutive, the newest bearing the last sequence. -/
def ringInOrder (ring : List PeriodRecord) (last : Option Time) : Bool :=
  decide (ring.length ≤ ringSize) && consecutive ring && (ring.isEmpty || newestSequence ring == last)

/-- A stored ring: at most 48 records with consecutive numbers. -/
def storedRingInOrder (ring : List PeriodRecord) : Bool := ringInOrder ring (newestSequence ring)

def State.recordsInOrder (s : State) : Bool :=
  ringInOrder s.recorder.ring s.recorder.lastSequence && s.store.everyRing storedRingInOrder
    && s.store.everyResume fun r => ringInOrder r.unstored r.lastSequence

/-! ## The action table and the dosing state (R79, R121, R122) -/

/-- STROKE and CONFIRM entries are owned by DOSING and name a pump; the other kinds are owned by LINK. -/
def Entry.inOrder (e : Entry) : Bool :=
  match e.kind with
  | .stroke | .confirm => e.owner == .dosing && (side? e.target).isSome
  | k => e.owner == .link && linkTarget k e.target

def isConfirm (e : Entry) : Bool := e.kind == .confirm

/-- Each dosing state belongs to its mode (R79). -/
def modeOfState (mode : DosingMode) : DosingState → Bool
  | .idle => mode != .auto
  | .manualWait => mode == .manual
  | .armed | .strokeWait | .confirmWait | .fault => mode == .auto

/-- Eight places; at most 6 LINK entries; a STROKE entry only in STROKE_WAIT and a CONFIRM entry only while an outcome is
awaited, one of each at most. -/
def State.tableInOrder (s : State) : Bool :=
  s.table.places.length == 8 && s.table.places.all (·.all Entry.inOrder)
    && decide (s.table.count isLink ≤ 6)
    && decide (s.table.count isStroke ≤ boolCode (s.dose.state == .strokeWait))
    && decide (s.table.count isConfirm ≤ boolCode (s.dose.state == .confirmWait || s.dose.state == .manualWait))
    && modeOfState s.dose.mode s.dose.state

/-! ## The link (R181, R182, R186) -/

/-- A subject of a class (R186). -/
def Notice.subjectInRange (n : Notice) : Bool :=
  match n.cls with
  | .critical | .limit => decide (n.subject < 16)
  | .run => decide (n.subject < 4)
  | .dosing | .period => n.subject == 0
  | .timer => decide (n.subject < 256)

/-- Strictly rising in the order of R187, so no pair stands twice. -/
def noticesInOrder : List Notice → Bool
  | a :: b :: rest => decide (a.rank < b.rank) && noticesInOrder (b :: rest)
  | _ => true

/-- At most 4 replies wait, the pending pairs are distinct and name subjects, and between commands the receiver is in HUNT. -/
def State.linkInOrder (s : State) : Bool :=
  decide (s.link.queue.length ≤ 4) && noticesInOrder s.link.notices
    && s.link.notices.all Notice.subjectInRange && s.link.receiver == huntReceiver

/-! ## The settings (R153, R164) -/

def monitorsValid (c : MonitorsSection) : Bool :=
  monitorIds.all fun m => (c.get m).valid (lowSense m)

/-- Every limit of a monitor fits its field of 4 bytes (R185). -/
def monitorsFit (c : MonitorsSection) : Bool :=
  monitorIds.all fun m =>
    decide ((c.get m).low < 4294967296) && decide ((c.get m).high < 4294967296)
      && decide ((c.get m).critical < 4294967296) && decide ((c.get m).hysteresis < 4294967296)

/-- A copy with its upper or lower half taken from another (R185). -/
def withHalf (upper : Bool) (half base : MonitorsSection) : MonitorsSection :=
  if upper then { base with temperature := half.temperature, station := half.station }
  else { base with rate := half.rate, pressure := half.pressure }

def ActiveSections.valid (a : ActiveSections) : Bool :=
  a.station.valid && a.run.toList.all RunSection.valid && a.odorant.valid && a.compress.valid
    && monitorsValid a.monitors

def StagedSections.valid (g : StagedSections) : Bool :=
  g.station.all StationSection.valid && g.run.toList.all (·.all RunSection.valid)
    && g.odorant.all OdorantSection.valid && g.compress.all CompressSection.valid
    && g.monitors.all monitorsValid

def Stored.all {α : Type} (test : α → Bool) : Stored α → Bool
  | .valid x => test x
  | _ => true

def StoredSections.valid (x : StoredSections) : Bool :=
  x.station.all StationSection.valid && x.run.toList.all (·.all RunSection.valid)
    && x.odorant.all OdorantSection.valid && x.compress.all CompressSection.valid
    && x.monitors.all monitorsValid

def StoreContent.valid : StoreContent → Bool
  | .station c => c.valid
  | .run _ c => c.valid
  | .odorant c => c.valid
  | .compress c => c.valid
  | .monitors c => monitorsValid c
  | .resume _ | .ring _ _ | .flags _ => true

def Build.valid (b : Build) : Bool := inRange 1 4 b.runs && inRange 1 2 b.pumps

/-- Every copy of every section, active, staged, stored or being written, passes the checks of R164. -/
def State.settingsValid (s : State) : Bool :=
  s.settings.active.valid && s.settings.staged.valid && s.settings.build.valid
    && s.store.sections.valid && s.store.writing.all (·.content.valid)

/-! ## The pulse front end (R21, R25) -/

/-- Rings of at most 8 times; fewer than 3 consecutive events and 60 consecutive clean intervals remembered. -/
def PulseRun.inOrder (p : PulseRun) : Bool :=
  decide (p.ring.a.length ≤ 8) && decide (p.ring.b.length ≤ 8)
    && decide (p.consecutiveEvents < 3) && decide (p.consecutiveClean < 60)

def State.pulsesInOrder (s : State) : Bool := s.pulse.toList.all PulseRun.inOrder

/-! ## The limit lock (R159) -/

/-- The lock is set and no MONITORS copy is staged. -/
def State.monitorsLocked (s : State) : Bool := s.monitors.limitLock && s.settings.staged.monitors.isNone

/-! ## Punctual states (log entry 2) -/

/-- A due time not yet passed by: not reached, or reached at this very instant. -/
def notPassed (now due : Time) : Bool := due == now || !reached due now

/-- Nothing timed by station time has been left behind: the warm-up end, the boundary, the drive ends, the ends of recent
drive and of the trim hold-off, and the entries of the table are each taken at the instant they fall due. -/
def State.punctual (s : State) : Bool :=
  !s.live ||
    ((s.time.phase != .warmup || notPassed s.now s.time.warmupEnd)
      && (s.time.phase != .running || notPassed s.now (s.time.intervalStart + ms 1000))
      && s.pump.a.driveEnd.all (notPassed s.now) && s.pump.b.driveEnd.all (notPassed s.now)
      && (!s.dose.recentDrive || s.dose.lastDrive.all fun d => notPassed s.now (d + ms 60000))
      && s.dose.trimHoldOff.all (notPassed s.now)
      && s.table.places.all (·.all fun e => notPassed s.now e.due))

/-! ## Replies and notices -/

/-- The reply built last: the newest in the queue, or the frame on the line when none waits. -/
def newestReply (s : State) : Option Frame :=
  match s.link.queue.getLast? with
  | some f => some f
  | none => s.link.tx.map (·.frame)

/-- A request of a kind and tag answered OK with reply data (R181). -/
def okReply (kind tag : Byte) (data : List Byte) : Frame := ⟨kind + 0x80#8, tag, 0x00#8 :: data⟩

/-- A request of a kind and tag refused (R181). -/
def refusal (kind tag : Byte) (o : OutcomeCode) : Frame := ⟨replyKind o kind, tag, [byteOf o.code]⟩

/-- The data hold a value in the field of `size` bytes at `offset`, least significant byte first (R184). -/
def carries (data : List Byte) (offset size v : Nat) : Prop := (data.drop offset).take size = bytesLE size v

/-- The pins once a command that reads the custody contact has found it at a level (R36). -/
def Pins.found (custody : Option SwitchLevel) (p : Pins) : Pins :=
  { p with custody := custody.getD p.custody }

/-- A frame is the notice of a class and subject; DOSING and PERIOD have the one subject 0 (R186, R188). -/
def noticeFrame (cls : NoticeClass) (subject : Nat) (f : Frame) : Bool :=
  f.kind == byteOf (0xE0 + cls.code) && f.tag == 0#8 &&
    (match cls with
     | .dosing | .period => subject == 0
     | _ => f.payload.head? == some (byteOf subject))

/-- From `u` to `t` a notice has been given: its pair is pending, or, where the line was free in `u`, its frame is on the line. -/
def noticeGiven (cls : NoticeClass) (subject : Nat) (u t : State) : Bool :=
  t.link.notices.contains ⟨cls, subject⟩ ||
    (u.link.tx.isNone && t.link.tx.any fun x => noticeFrame cls subject x.frame)

/-- The part can take a request: it runs and its queue has a place. -/
def State.takes (s : State) : Bool := s.time.phase == .running && decide (s.link.queue.length < 4)

/-- A figure in a field of four bytes, held at its top and marked when above (R140). -/
def heldFigure (n : Nat) : Held := ⟨min n 4294967295, decide (4294967295 < n)⟩

/-- A run's sub-record from its accumulators at the close, over a duration (R140). -/
def SubRecordOf (r : RunId) (st : RunState) (duration : Nat) (a : RunAccumulators) (y : RunSubRecord) : Prop :=
  y.run = r ∧ y.state = st
    ∧ y.gross = heldFigure ((2 * a.gross + 1000) / 2000) ∧ y.base = heldFigure ((2 * a.base + 1000) / 2000)
    ∧ y.energy = heldFigure ((2 * a.energy + 1000000) / 2000000)
    ∧ (0 < a.gross → y.averages = some ((2 * a.sumPG + a.gross) / (2 * a.gross), (2 * a.sumTG + a.gross) / (2 * a.gross)))
    ∧ (a.gross = 0 → ∀ p t, a.lastP = some p → a.lastT = some t → y.averages = some (p, t))
    ∧ (a.gross = 0 → (a.lastP = none ∨ a.lastT = none) → y.averages = none)
    ∧ (duration = 0 → y.averageRate = ⟨0, false⟩)
    ∧ (0 < duration → y.averageRate = heldFigure (a.gross * 3600 / duration))
    ∧ y.peak = a.peak ∧ y.metered = a.metered ∧ y.integrityEvents = a.integrityEvents ∧ y.flags = a.flags

/-- A record holds the sub-record of a run. -/
def HoldsRun (x : PeriodRecord) (r : RunId) (st : RunState) (a : RunAccumulators) : Prop :=
  ∃ y, x.runs[r.val]? = some y ∧ SubRecordOf r st x.duration a y

/-! ## A boundary and what its interval gave -/

/-- A command makes a boundary: the interval timer's (R6), or a forced close of an interval of an age of 1 ms or more, by
PERIOD_CLOSE or a CLOSE_PERIOD entry (R12, R129). `u` is the part as the boundary finds it, the entry out of the table. -/
def MakesBoundary (c : Instr) (s u : State) : Prop :=
  (∃ after, c = .boundary after ∧ s.elapse after = u ∧ u.time.phase = .running
      ∧ reached (u.time.intervalStart + 1000) u.now = true)
    ∨ (∃ after tag, c = .periodClose after tag [] ∧ s.elapse after = u ∧ u.takes = true ∧ u.age ≠ 0)
    ∨ (∃ (after : Nat) (id : Fin 8) (v : State) (e : Entry), c = .closePeriodEntryDue after id ∧ s.elapse after = v
        ∧ v.time.phase = .running ∧ v.age ≠ 0 ∧ v.table.at id.val = some e ∧ e.kind = .closePeriod
        ∧ reached e.due v.now = true ∧ u = { v with table := { v.table with places := v.table.places.set id.val none } })

/-- Whether the boundary a command makes closes the period: a forced close always, the interval timer's when the count reaches
the period length then active (R10, R11, R12). -/
def closesPeriod (c : Instr) (u : State) : Bool :=
  match c with
  | .boundary _ =>
    decide ((u.settings.staged.station.getD u.settings.active.station).periodLength ≤ u.time.periodCount + 1)
  | _ => true

/-- The cause of the close a boundary makes (R10, R12). -/
def boundaryCause (c : Instr) : CloseCause :=
  match c with
  | .boundary _ => .length
  | _ => .forced

/-- A run is computed at an interval close: it is fitted, and in service or closed in the interval (R48, R56). -/
abbrev Computed (u : State) (r : RunId) : Prop :=
  u.fitted r = true ∧ ((u.run.get r).state ≠ .out ∨ (u.run.get r).closedInInterval = true)

/-- The interval entry of a computed run: state, pressure and temperature used, rate of the metered channel's ring and flags
(R23, R24, R45, R48, R49, R67, R70). -/
def RunEntry (u : State) (r : RunId) (f : LastInterval) : Prop :=
  let c := u.settings.active.run.get r
  let p := u.loop.p.get r
  let q := u.loop.t.get r
  let n := (u.pulse.get r).count
  let ch := if c.bCheck = true ∧ n.a = 0 ∧ c.tolerance < n.b then Side.b else Side.a
  f.state = (if (u.run.get r).state = .out then ((u.run.get r).stateForInterval).getD .out
             else (u.run.get r).state)
    ∧ (f.flags.settling = true ↔ f.state = .starting)
    ∧ (∀ v, p.state ≠ .failed → p.latest = some v → f.pUsed = v ∧ f.flags.estimatedP = false)
    ∧ (∀ v, p.state = .failed → c.policy = .hold → p.lastGood = some v → f.pUsed = v ∧ f.flags.estimatedP = true)
    ∧ (p.state = .failed → (c.policy = .fallback ∨ p.lastGood = none) →
        f.pUsed = c.fallbackP ∧ f.flags.estimatedP = true)
    ∧ (∀ v, q.state ≠ .failed → q.latest = some v → f.tUsed = v ∧ f.flags.estimatedT = false)
    ∧ (∀ v, q.state = .failed → c.policy = .hold → q.lastGood = some v → f.tUsed = v ∧ f.flags.estimatedT = true)
    ∧ (q.state = .failed → (c.policy = .fallback ∨ q.lastGood = none) →
        f.tUsed = c.fallbackT ∧ f.flags.estimatedT = true)
    ∧ (f.flags.lowRange = true ↔ 0 < f.rate ∧ f.rate < c.qMin)
    ∧ (f.flags.overRange = true ↔ c.qMax < f.rate)
    ∧ f.rate ≤ 4294967295
    ∧ f.rate = grossRate c ((u.pulse.get r).ring.get ch) u.time.captureClock
    ∧ (f.flags.substituted = true ↔ ch = .b) ∧ f.flags.reconfig = false
    ∧ (f.flags.integrity = true ↔ c.bCheck = true ∧ c.tolerance < max n.a n.b - min n.a n.b)

/-- The results of a computed run and the residue it carries on: the metered count's gross volume (R23, R57, R58), the ratio of
the pressure and temperature used (R61, R63), base volume and energy rounded half up (R64, R66, R73). -/
def RunResults (u : State) (r : RunId) (residue : Nat) (f : LastInterval) (res : LastResults) : Prop :=
  let c := u.settings.active.run.get r
  let n := (u.pulse.get r).count
  res.gross * 1000000 + residue
      = (if c.bCheck = true ∧ n.a = 0 ∧ c.tolerance < n.b then n.b else n.a) * c.vpp * c.mf + u.conv.residue.get r
    ∧ residue < 1000000
    ∧ res.ratio = ratioF u.settings.active.compress f.pUsed f.tUsed
    ∧ (res.outOfTable = true ↔
        f.pUsed < u.settings.active.compress.pressures.c0 ∨ u.settings.active.compress.pressures.c4 < f.pUsed
          ∨ f.tUsed < u.settings.active.compress.temperatures.r0
          ∨ u.settings.active.compress.temperatures.r3 < f.tUsed)
    ∧ f.flags.outOfTable = res.outOfTable
    ∧ (let n := res.gross * f.pUsed * u.settings.active.station.tb * res.ratio
       let d := u.settings.active.station.pb * f.tUsed * 1000000
       res.base = (2 * n + d) / (2 * d))
    ∧ res.energy = (2 * (res.base * u.settings.heatingValue) + 1000) / 2000

/-- The totals of a run with an interval's results added, floor with residue carried and modulo 10¹² (R144). -/
def totalsWith (res : LastResults) (old : Totals) : Totals :=
  { gross := (old.gross + (old.grossResidue + res.gross) / 1000) % 1000000000000
    grossResidue := (old.grossResidue + res.gross) % 1000
    base := (old.base + (old.baseResidue + res.base) / 1000) % 1000000000000
    baseResidue := (old.baseResidue + res.base) % 1000
    energy := (old.energy + (old.energyResidue + res.energy) / 1000000) % 1000000000000
    energyResidue := (old.energyResidue + res.energy) % 1000000 }

/-- The accumulators of a run with an interval's entry and results added (R136). -/
def accumulatorsWith (f : LastInterval) (res : LastResults) (old : RunAccumulators) : RunAccumulators :=
  { gross := old.gross + res.gross, base := old.base + res.base, energy := old.energy + res.energy
    sumPG := old.sumPG + f.pUsed * res.gross, sumTG := old.sumTG + f.tUsed * res.gross
    metered := old.metered + 1
    integrityEvents := old.integrityEvents + (if f.flags.integrity = true then 1 else 0)
    flags := old.flags.union f.flags
    peak := max old.peak f.rate, lastP := some f.pUsed, lastT := some f.tUsed }

/-- The accumulators a period opens with: the last P and T used are kept, by a run fitted before and after (R135, R147, R148). -/
def openedAccumulators (kept : Bool) (old : RunAccumulators) : RunAccumulators :=
  if kept then { freshRunAccumulators with lastP := old.lastP, lastT := old.lastT } else freshRunAccumulators

/-- What the final close of a restart leaves of the metering and of the odorant account, the record it goes into and the figures
kept (R15, R59, R80, R81, R135, R136, R144, R147). An interval of 1 ms or more closes first; from HALT, or at age 0, the figures
are those gathered before. -/
def FinalCloseLeaves (u t : State) (x : PeriodRecord) : Prop :=
  ∃ (entries : Four LastInterval) (results : Four LastResults) (residues : Four Nat),
    (let closing : Bool := u.time.phase == .running && u.age != 0
     let adds : RunId → Bool := fun r => closing && decide (Computed u r)
     let accumulators : RunId → RunAccumulators := fun r =>
       if adds r = true then accumulatorsWith (entries.get r) (results.get r) (u.recorder.runs.get r)
       else u.recorder.runs.get r
     let base := (runIds.map fun r => if adds r = true then (results.get r).base else 0).sum
     let total := u.odorant.target * base * u.dose.trim + u.dose.residue
     let owed := total / 1000000000
     let kept :=
       if u.dose.mode = .auto then min (u.dose.account + owed) (u.odorant.debtLimit * u.odorant.strokeMass)
       else u.dose.account
     let abandoned := u.recorder.station.abandoned || u.pump.a.strokeInFlight || u.pump.b.strokeInFlight
     (∀ r, adds r = true →
        RunEntry u r (entries.get r) ∧ RunResults u r (residues.get r) (entries.get r) (results.get r))
       ∧ (∀ r, t.recorder.totals.get r =
           if adds r = true then totalsWith (results.get r) (u.recorder.totals.get r) else u.recorder.totals.get r)
       ∧ (∀ r, t.conv.residue.get r =
           if t.fitted r = true ∧ u.fitted r = true then
             (if adds r = true then residues.get r else u.conv.residue.get r)
           else 0)
       ∧ (∀ r, u.fitted r = true → HoldsRun x r (u.run.get r).state (accumulators r))
       ∧ (∀ r, t.recorder.runs.get r = openedAccumulators (t.fitted r && u.fitted r) (accumulators r))
       ∧ x.lastIndex = (if closing = true then u.time.intervalIndex else u.recorder.lastIndex)
       ∧ x.trim = u.dose.trim
       ∧ (closing = true →
           x.accountClose = kept ∧ t.dose.residue = total % 1000000000
             ∧ x.station = { u.recorder.station with
                 owed := u.recorder.station.owed + owed
                 forgone := u.recorder.station.forgone + (u.dose.account + owed - kept), abandoned := abandoned })
       ∧ (closing = false →
           x.accountClose = u.dose.account ∧ t.dose.residue = u.dose.residue
             ∧ x.station = { u.recorder.station with abandoned := abandoned }))

/-! ## The items of the store (R99, R146, R172, R173) -/

/-- A resume record holds memory as it stands, part by part (R99, R146, R173): the build, the period in progress, the last
sequence and the records newer than the stored-through sequence, the totals, the run states and gross residues, the dosing
figures with the drive age, the FAILED marks and the heating value. -/
def ResumeHolds (s : State) (r : ResumeRecord) : Prop :=
  r = { buildRuns := s.settings.build.runs, buildPumps := s.settings.build.pumps
        intervalCount := s.time.periodCount
        elapsed := (s.time.stationTime - s.time.periodOpen).toNat
        lastIndex := s.recorder.lastIndex, runs := s.recorder.runs, station := s.recorder.station
        lastSequence := s.recorder.lastSequence, unstored := r.unstored, totals := s.recorder.totals
        runStates := s.run.map fun x => x.state
        residues := s.conv.residue, account := s.dose.account, owedResidue := s.dose.residue
        trim := s.dose.trim, duty := s.dose.duty
        driveAge :=
          if s.dose.recentDrive = true then s.dose.lastDrive.map fun d => (s.time.stationTime - d).toNat
          else none
        pumpFailed := s.pump.map fun x => decide (x.state = .failed)
        heatingValue := s.settings.heatingValue }
    ∧ r.unstored = s.recorder.ring.take r.unstored.length
    ∧ (∀ x ∈ r.unstored, some x.sequence ≠ s.recorder.storedThrough)
    ∧ (∀ x, s.recorder.ring[r.unstored.length]? = some x → some x.sequence = s.recorder.storedThrough)

/-- A content is that of an item as memory stands (R146, R172): RESUME the resume record, RING the whole ring with the last
sequence, FLAGS the protection flags, a SECTION the active copy of its section. -/
def ItemHolds (i : StoreItem) (s : State) (c : StoreContent) : Prop :=
  match i, c with
  | .resume, .resume r => ResumeHolds s r
  | .ring, .ring records through => records = s.recorder.ring ∧ through = s.recorder.lastSequence
  | .flags, .flags f => f = s.settings.protection
  | .sectionCopy .station, .station x => x = s.settings.active.station
  | .sectionCopy (.run r), .run k x => k = r ∧ x = s.settings.active.run.get r
  | .sectionCopy .odorant, .odorant x => x = s.settings.active.odorant
  | .sectionCopy .compress, .compress x => x = s.settings.active.compress
  | .sectionCopy .monitors, .monitors x => x = s.settings.active.monitors
  | _, _ => False

/-- In `t` the write of an item has just started, with the content of memory as it stood at `s`, and takes 30 ms (R172). -/
def WriteStarted (i : StoreItem) (s t : State) : Prop :=
  ∃ w, t.store.writing = some w ∧ ItemHolds i s w.content ∧ w.left = 30000 ∧ w.stale = false

/-- The stored copy of the item a content belongs to is valid with that content (R172). -/
def CopyWritten (c : StoreContent) (b : Store) : Prop :=
  match c with
  | .resume r => b.resume = .valid r
  | .ring records _ => b.ring = .valid records
  | .flags f => b.flags = .valid f
  | .station x => b.sections.station = .valid x
  | .run r x => b.sections.run.get r = .valid x
  | .odorant x => b.sections.odorant = .valid x
  | .compress x => b.sections.compress = .valid x
  | .monitors x => b.sections.monitors = .valid x

/-- The stored copy of an item fails its check (R173). -/
def CopyFails (i : StoreItem) (b : Store) : Prop :=
  match i with
  | .resume => b.resume = .failing
  | .ring => b.ring = .failing
  | .flags => b.flags = .failing
  | .sectionCopy .station => b.sections.station = .failing
  | .sectionCopy (.run r) => b.sections.run.get r = .failing
  | .sectionCopy .odorant => b.sections.odorant = .failing
  | .sectionCopy .compress => b.sections.compress = .failing
  | .sectionCopy .monitors => b.sections.monitors = .failing

/-- From `a` to `b` the stored copy of every item but one stays as it was. -/
def OtherCopiesKept (i : StoreItem) (a b : Store) : Prop :=
  (i ≠ .resume → b.resume = a.resume) ∧ (i ≠ .ring → b.ring = a.ring) ∧ (i ≠ .flags → b.flags = a.flags)
    ∧ (i ≠ .sectionCopy .station → b.sections.station = a.sections.station)
    ∧ (∀ r, i ≠ .sectionCopy (.run r) → b.sections.run.get r = a.sections.run.get r)
    ∧ (i ≠ .sectionCopy .odorant → b.sections.odorant = a.sections.odorant)
    ∧ (i ≠ .sectionCopy .compress → b.sections.compress = a.sections.compress)
    ∧ (i ≠ .sectionCopy .monitors → b.sections.monitors = a.sections.monitors)

/-! ## A period close -/

/-- RESUME has been added to the store write list (R172): with no item in progress its write starts with the content of memory as
it then stands (log entry 10); else it is listed behind the item in progress. -/
def ResumeAdded (u t : State) : Prop :=
  (u.store.writing = none → t.store.list.resume = false ∧ WriteStarted .resume t t)
    ∧ (∀ w, u.store.writing = some w →
        t.store.list.resume = true ∧ t.store.writing.map (·.content) = some w.content)

/-- What a period close leaves besides the record's place in the ring (R111, R135, R139, R143): the record's account and trim as
they stand, the next period opened with nothing gathered, the mode in force and the account at open, the stray count of every
fitted pump 0 and nothing else of a pump changed, the PERIOD notice, and RING and RESUME added to the store write list. -/
def PeriodClosed (u t : State) (x : PeriodRecord) : Prop :=
  x.accountClose = t.dose.account ∧ x.trim = t.dose.trim ∧ t.dose.trim = u.dose.trim ∧ t.dose.mode = u.dose.mode
    ∧ t.recorder.station =
        { owed := 0, autoDelivered := 0, forgone := 0, surplus := 0, manualMass := 0
          strokes := .both { confirmed := 0, missed := 0, stray := 0 }, manualMisses := 0, changeovers := 0
          modes :=
            { off := decide (t.dose.mode = .off), auto := decide (t.dose.mode = .auto)
              manual := decide (t.dose.mode = .manual) }
          abandoned := false, accountOpen := t.dose.account }
    ∧ t.recorder.lastIndex = 0 ∧ t.recorder.storedThrough = u.recorder.storedThrough
    ∧ (∀ p : Side, t.pump.get p =
        { u.pump.get p with strays := if u.pumpIsFitted p = true then 0 else (t.pump.get p).strays })
    ∧ (t.settings.active.station.enables.period = true → noticeGiven .period 0 u t = true)
    ∧ t.store.list.ring = true ∧ ResumeAdded u t

/-- A forced close, as it leaves the part (R12, R13): at an age of 0 ms the period closes alone, and only the recorder, the time
base, the stray counts, the table, the store and the link change. -/
def ForcedCloseLeaves (u t : State) : Prop :=
  ∃ x : PeriodRecord,
    t.recorder.ring = (x :: u.recorder.ring).take 48 ∧ x.cause = .forced
      ∧ x.sequence = nextSequence u.recorder.lastSequence
      ∧ x.intervals = u.time.periodCount + (if u.age = 0 then 0 else 1)
      ∧ x.duration = (u.now - u.time.periodOpen).toNat
      ∧ t.recorder.lastSequence = some x.sequence
      ∧ t.time.phase = .running ∧ t.time.periodCount = 0 ∧ t.time.periodOpen = u.now
      ∧ t.time.intervalStart = (if u.age = 0 then u.time.intervalStart else u.now)
      ∧ t.time.intervalIndex = (if u.age = 0 then u.time.intervalIndex else u.time.intervalIndex + 1)
      ∧ x.runs.length = min u.settings.build.runs 4 ∧ PeriodClosed u t x
      ∧ (u.age = 0 →
          t = { u with
            time := { u.time with periodCount := 0, periodOpen := u.now }, pump := t.pump, recorder := t.recorder
            table := t.table, store := t.store, link := t.link })
      ∧ (u.age = 0 → t.recorder.totals = u.recorder.totals
          ∧ ∀ r, u.fitted r = true →
              t.recorder.runs.get r = openedAccumulators true (u.recorder.runs.get r))
      ∧ (u.age = 0 → x.station = u.recorder.station ∧ x.accountClose = u.dose.account ∧ x.trim = u.dose.trim
          ∧ x.lastIndex = u.recorder.lastIndex
          ∧ ∀ r, u.fitted r = true → HoldsRun x r (u.run.get r).state (u.recorder.runs.get r))

/-! ## The dose controller's start (R98) -/

/-- The duty pump, the dosing state and any stroke owed as the dose controller starts, given the duty pump held before. -/
def StartsDosing (held : Side) (t : State) : Prop :=
  (let want := t.odorant.preferred
   t.dose.duty =
     if (t.pump.get want).state = .ready then want
     else if (t.pump.get want.other).state = .ready then want.other
     else if t.pumpIsFitted held = true then held else .a)
    ∧ t.dose.mode ≠ .manual
    ∧ (t.dose.mode ≠ .auto → t.dose.state = .idle ∧ t.dose.massInFlight = 0)
    ∧ (t.dose.mode = .auto → (t.pump.get t.dose.duty).state ≠ .ready →
        t.dose.state = .fault ∧ t.dose.massInFlight = 0)
    ∧ (t.dose.mode = .auto → (t.pump.get t.dose.duty).state = .ready → t.dose.account < t.odorant.strokeMass →
        t.dose.state = .armed ∧ t.dose.massInFlight = 0)
    ∧ (t.dose.mode = .auto → (t.pump.get t.dose.duty).state = .ready → t.odorant.strokeMass ≤ t.dose.account →
        t.dose.state = .strokeWait ∧ t.dose.massInFlight = t.odorant.strokeMass
          ∧ t.table.at 0 = some
              { owner := .dosing, kind := .stroke, target := Side.code t.dose.duty, due := strokeDue t })
    ∧ (t.dose.mode = .auto → t.settings.active.station.enables.dosing = true → noticeGiven .dosing 0 State.reset t = true)

/-- What the end of a pump's drive leaves (R85, R90, R91, R96, R103): the line goes off; a DRIVING pump not yet confirmed goes to
AWAIT; a confirmed one becomes READY, may take the duty, ends FAULT with a DOSING notice and has the scheduling check made; any
other pump stays as it is. -/
def DriveOver (p : Side) (u w : State) : Prop :=
  let off : Pump := { u.pump.get p with line := false, driveEnd := none, confirmedInDrive := false }
  ((u.pump.get p).state ≠ .driving → w = { u with pump := u.pump.set p off })
    ∧ ((u.pump.get p).state = .driving → (u.pump.get p).confirmedInDrive = false →
        w = { u with pump := u.pump.set p { off with state := .await } })
    ∧ ((u.pump.get p).state = .driving → (u.pump.get p).confirmedInDrive = true →
        (let v : State := { u with
           pump := u.pump.set p { off with state := .ready }
           dose := { u.dose with
             duty := if u.dose.duty ≠ p ∧ (u.pump.get p.other).state ≠ .ready ∧ u.dose.state ≠ .confirmWait
               then p else u.dose.duty
             state := if u.dose.state = .fault then .armed else u.dose.state } }
         w = schedulingCheck (if u.dose.state = .fault then raise .dosing 0 v else v)))

/-! ## The standing of a monitor (R151, R161) -/

/-- The channel a monitor of a channel watches: M4..M7 P, M8..M11 T, M12 HDR, M13 TANK (R34). -/
def Watches (m : Fin 16) (c : ChannelId) : Prop :=
  match c with
  | .p r => m.val = 4 + r.val
  | .t r => m.val = 8 + r.val
  | .hdr => m.val = 12
  | .tank => m.val = 13

/-- A monitor of a run: M(k), M(4 + k) and M(8 + k) (R151). -/
def OfRun (m : Fin 16) (r : RunId) : Prop := m.val = r.val ∨ m.val = 4 + r.val ∨ m.val = 8 + r.val

/-! ## The judgement of an interval (R24, R25) -/

/-- What the judgement of a run's interval makes of its INTEGRITY alarm and consecutive counts; an interval not computed, or with
the B check off, is not judged and leaves them as they are. -/
def Judged (computed : Prop) (c : RunSection) (old new : PulseRun) : Prop :=
  let isEvent := c.tolerance < max old.count.a old.count.b - min old.count.a old.count.b
  ((¬ computed ∨ c.bCheck = false) →
      new.integrityAlarm = old.integrityAlarm ∧ new.consecutiveEvents = old.consecutiveEvents
        ∧ new.consecutiveClean = old.consecutiveClean)
    ∧ (computed → c.bCheck = true →
        (isEvent → old.integrityAlarm = false → old.consecutiveEvents + 1 < 3 →
          new.integrityAlarm = false ∧ new.consecutiveEvents = old.consecutiveEvents + 1
            ∧ new.consecutiveClean = 0)
          ∧ (isEvent → old.integrityAlarm = false → old.consecutiveEvents + 1 = 3 →
              new.integrityAlarm = true ∧ new.consecutiveEvents = 0 ∧ new.consecutiveClean = 0)
          ∧ (isEvent → old.integrityAlarm = true →
              new.integrityAlarm = true ∧ new.consecutiveEvents = 0 ∧ new.consecutiveClean = 0)
          ∧ (¬ isEvent → old.integrityAlarm = false →
              new.integrityAlarm = false ∧ new.consecutiveEvents = 0
                ∧ new.consecutiveClean = old.consecutiveClean)
          ∧ (¬ isEvent → old.integrityAlarm = true → old.consecutiveClean + 1 < 60 →
              new.integrityAlarm = true ∧ new.consecutiveClean = old.consecutiveClean + 1
                ∧ new.consecutiveEvents = old.consecutiveEvents)
          ∧ (¬ isEvent → old.integrityAlarm = true → old.consecutiveClean + 1 = 60 →
              new.integrityAlarm = false ∧ new.consecutiveClean = 0
                ∧ new.consecutiveEvents = old.consecutiveEvents))

/-! ## A monitor at a boundary (R156, R157) -/

/-- A monitor takes new settings (R157): cleared when disabled before or after, else conditions and last value kept, the latch
by the change of mode, and the event formed anew (R154). -/
def Retuned (was is : MonitorSettings) (old new : MonitorState) : Prop :=
  ((was.enabled = false ∨ is.enabled = false) → new = clearedMonitor)
    ∧ (was.enabled = true → is.enabled = true →
        new.low = old.low ∧ new.high = old.high ∧ new.critical = old.critical ∧ new.last = old.last
          ∧ ((is.mode = .latch ↔ was.mode = .latch) → new.latch = old.latch)
          ∧ (is.mode = .latch → was.mode ≠ .latch → new.latch = (old.low || old.high))
          ∧ (is.mode ≠ .latch → was.mode = .latch → new.latch = false)
          ∧ (is.mode = .follow → new.event = (new.low || new.high || new.critical))
          ∧ (is.mode = .latch → new.event = (new.latch || new.critical))
          ∧ (is.mode = .criticalOnly → new.event = new.critical))

/-- What a boundary leaves of a monitor that the close's evaluation, by the copy active during the interval, has left at `mid`: a
staged MONITORS copy then acts on it (R150, R157), and each of the two may raise notices (R156). -/
def MonitorLeft (u t : State) (m : Fin 16) (mid : MonitorState) : Prop :=
  let old := u.monitors.each.get m
  let new := t.monitors.each.get m
  (u.settings.staged.monitors = none → new = mid)
    ∧ (∀ copy, u.settings.staged.monitors = some copy →
        Retuned (u.settings.active.monitors.get m) (copy.get m) mid new
          ∧ (mid.event = false → new.event = true → new.critical = false →
              t.settings.active.station.enables.limit = true → noticeGiven .limit m.val u t = true))
    ∧ (old.critical = false → mid.critical = true → u.settings.active.station.enables.critical = true →
        noticeGiven .critical m.val u t = true)
    ∧ (old.event = false → mid.event = true → mid.critical = false →
        u.settings.active.station.enables.limit = true → noticeGiven .limit m.val u t = true)

/-! ## Rounding (R63) -/

/-- An integer is a quotient rounded half away from zero. -/
def RoundsTo (num : Int) (den : Nat) (x : Int) : Prop :=
  (0 ≤ num → 2 * den * x ≤ 2 * num + den ∧ 2 * num + den < 2 * den * (x + 1))
    ∧ (num < 0 → 2 * den * (-x) ≤ 2 * (-num) + den ∧ 2 * (-num) + den < 2 * den * (-x + 1))

/-- The payload length of a request whose kind has one fixed length (R183). -/
def fixedLength (kind : Nat) : Option Nat :=
  if kind ∈ [0x01, 0x02, 0x04, 0x05, 0x07, 0x12, 0x19, 0x22, 0x2F] then some 0
  else if kind ∈ [0x03, 0x06, 0x10, 0x11, 0x15, 0x16, 0x17, 0x18, 0x1B, 0x21] then some 1
  else if kind ∈ [0x13, 0x14] then some 2
  else if kind = 0x1A then some 6
  else none

/-! ## When an event happens (log entry 3) -/

/-- An entry of a kind holds the id and its due time has been reached (R3, R127). -/
def EntryReached (k : EntryKind) (id : Fin 8) (u : State) : Prop :=
  u.live = true ∧ ∃ e, u.table.at id.val = some e ∧ e.kind = k ∧ reached e.due u.now = true

/-- When a command's event can happen at `u`: a timed event once its instant is reached, an event of a line while its line is
taken, a request while the link works (R3, R5, R6, R19, R28, R35, R37, R86, R94, R103, R127, R172, R176, R178, R181). -/
def Happens (u : State) : Instr → Prop
  | .powerOn _ => u.time.phase = .off ∨ u.time.phase = .halt
  | .powerFailWarning _ | .pfwRise _ => True
  | .restartBegin _ =>
    u.time.phase = .running ∧ u.time.restartDue = true
      ∨ u.time.phase = .halt ∧ u.time.riseHeld = true ∧ u.store.writing = none ∧ u.store.warningResume = false
  | .warmupEnd _ => u.time.phase = .warmup ∧ reached u.time.warmupEnd u.now = true
  | .boundary _ => u.time.phase = .running ∧ reached (u.time.intervalStart + 1000) u.now = true
  | .lossOfSupply _ => u.time.phase ≠ .off ∨ u.pins.supply = true
  | .pulseEdge _ r ch =>
    u.live = true ∧ u.fitted r = true
      ∧ ∀ t0, (u.pulse.get r).holdOff.get ch = some t0 → 50 ≤ (u.time.captureClock - t0).toNat
  | .pulseHoldOffEnd _ r ch =>
    u.time.phase ≠ .off
      ∧ ∃ t0, (u.pulse.get r).holdOff.get ch = some t0 ∧ 50 ≤ (u.time.captureClock - t0).toNat
  | .conversionCompletion _ _ => u.live = true ∧ ∃ c, u.loop.converter = .converting c 0
  | .senseEdge _ p =>
    u.live = true ∧ u.pumpIsFitted p = true ∧ (u.sense.get p = none ∨ u.sense.get p = some 0)
  | .senseHoldOffEnd _ p => u.time.phase ≠ .off ∧ u.sense.get p = some 0
  | .driveEnd _ p => u.live = true ∧ ∃ d, (u.pump.get p).driveEnd = some d ∧ reached d u.now = true
  | .recentDriveEnd _ =>
    u.live = true ∧ u.dose.recentDrive = true ∧ ∃ d, u.dose.lastDrive = some d ∧ reached (d + 60000) u.now = true
  | .trimHoldOffEnd _ => u.live = true ∧ ∃ d, u.dose.trimHoldOff = some d ∧ reached d u.now = true
  | .strokeEntryDue _ id => EntryReached .stroke id u
  | .confirmEntryDue _ id => EntryReached .confirm id u
  | .auxOnEntryDue _ id => EntryReached .auxOn id u
  | .auxOffEntryDue _ id => EntryReached .auxOff id u
  | .closePeriodEntryDue _ id => EntryReached .closePeriod id u
  | .timerNoticeEntryDue _ id => EntryReached .timerNotice id u
  | .storeWriteComplete _ => u.time.phase ≠ .off ∧ ∃ w, u.store.writing = some w ∧ w.left = 0
  | .frameSent _ => u.live = true ∧ ∃ x, u.link.tx = some x ∧ x.left = 0
  | .receiveTimeout _ bytes => u.live = true ∧ 20000 < bytes.gap
  | .frameCheckFail _ _ | .stopBitError _ _ | .unknownKindRequest _ _ _ _
  | .ident _ _ _ | .stationStatus _ _ _ _ | .runStatus _ _ _ | .doseStatus _ _ _ | .monitorStatus _ _ _
  | .periodRead _ _ _ | .tableRead _ _ _ | .sectionRead _ _ _ | .runOpen _ _ _ | .runClose _ _ _
  | .periodClose _ _ _ | .gasQuality _ _ _ | .analyserReading _ _ _ | .doseMode _ _ _ | .manualStroke _ _ _
  | .pumpReset _ _ _ | .eventClear _ _ _ | .limitLock _ _ _ | .schedule _ _ _ | .cancel _ _ _
  | .sectionWrite _ _ _ | .sectionProtect _ _ _ | .protectClear _ _ _ _ | .restart _ _ _ => u.live = true

/-! ## The layouts of the section records (R184, R185, R189) -/

/-- The section flags byte (R184). -/
def flagsByte (i : SectionId) (g : Settings) : Nat :=
  packBits [g.defaulted.get i, g.unstored.get i, g.protection.get i, (stagedMarks g.staged).get i]

/-- The STATION record of 25 bytes, field by field (R185). -/
def LaysOutStation (c : StationSection) (d : List Byte) : Prop :=
  d.length = 25 ∧ carries d 0 4 c.pb ∧ carries d 4 2 c.tb ∧ carries d 6 4 c.atmospheric
    ∧ carries d 10 1 (if c.hdrType = .gauge then 1 else 0) ∧ carries d 11 4 c.hdrLrv ∧ carries d 15 4 c.hdrUrv
    ∧ carries d 19 2 c.periodLength
    ∧ carries d 21 1 (packBits [c.enables.critical, c.enables.dosing, c.enables.run, c.enables.limit,
        c.enables.period, c.enables.timer])
    ∧ carries d 22 1 c.build.runs ∧ carries d 23 1 c.build.pumps
    ∧ carries d 24 1 (match c.build.rate with
        | .r9600 => 0
        | .r19200 => 1
        | .r38400 => 2
        | .r57600 => 3
        | .r115200 => 4)

/-- The RUN record of 42 bytes, field by field (R189). -/
def LaysOutRun (c : RunSection) (d : List Byte) : Prop :=
  d.length = 42 ∧ carries d 0 4 c.vpp ∧ carries d 4 4 c.mf ∧ carries d 8 1 (if c.pType = .gauge then 1 else 0)
    ∧ carries d 9 4 c.pLrv ∧ carries d 13 4 c.pUrv ∧ carries d 17 2 c.tLrv ∧ carries d 19 2 c.tUrv
    ∧ carries d 21 4 c.fallbackP ∧ carries d 25 2 c.fallbackT
    ∧ carries d 27 1 (if c.policy = .fallback then 1 else 0) ∧ carries d 28 4 c.qMin ∧ carries d 32 4 c.qMax
    ∧ carries d 36 2 c.zeroFlowTimeout ∧ carries d 38 2 c.settleTime ∧ carries d 40 1 c.tolerance
    ∧ carries d 41 1 (if c.bCheck = true then 1 else 0)

/-- The ODORANT record of 23 bytes, field by field (R189). -/
def LaysOutOdorant (c : OdorantSection) (d : List Byte) : Prop :=
  d.length = 23 ∧ carries d 0 2 c.target ∧ carries d 2 4 c.strokeMass ∧ carries d 6 1 c.debtLimit
    ∧ carries d 7 2 c.spacing ∧ carries d 9 2 c.driveWidth ∧ carries d 11 2 c.confirmWindow
    ∧ carries d 13 1 c.missLimit ∧ carries d 14 1 c.strayLimit ∧ carries d 15 2 c.trimHoldOff
    ∧ carries d 17 1 (if c.startAuto = true then 1 else 0) ∧ carries d 18 1 (if c.preferred = .b then 1 else 0)
    ∧ carries d 19 2 c.tankLrv ∧ carries d 21 2 c.tankUrv

/-- The COMPRESS record of 108 bytes, i outer and j inner (R185). -/
def LaysOutCompress (c : CompressSection) (d : List Byte) : Prop :=
  d.length = 108 ∧ (∀ i, i < 5 → carries d (4 * i) 4 (c.pressures.nth i))
    ∧ (∀ j, j < 4 → carries d (20 + 2 * j) 2 (c.temperatures.nth j))
    ∧ (∀ i j, i < 5 → j < 4 → carries d (28 + 16 * i + 4 * j) 4 ((c.values.nth i).nth j))

/-- The MONITORS record of 137 bytes: the half byte, then the eight monitors of that half, 17 bytes each (R184, R185). -/
def LaysOutMonitors (upper : Bool) (c : MonitorsSection) (d : List Byte) : Prop :=
  d.length = 137 ∧ carries d 0 1 (if upper = true then 1 else 0)
    ∧ ∀ (k : Nat) (m : Fin 16), k < 8 → m.val = (if upper = true then 8 + k else k) →
        carries d (1 + 17 * k) 1 ((if (c.get m).enabled = true then 1 else 0)
            + 2 * (match (c.get m).mode with
                | .follow => 0
                | .latch => 1
                | .criticalOnly => 2))
          ∧ carries d (2 + 17 * k) 4 (c.get m).low ∧ carries d (6 + 17 * k) 4 (c.get m).high
          ∧ carries d (10 + 17 * k) 4 (c.get m).critical ∧ carries d (14 + 17 * k) 4 (c.get m).hysteresis

/-! ## What a request comes to -/

/-- What a request that has left the blocks at `v` leaves (R181): the receiver in HUNT, the notices it raised served, its reply
queued last, and the store and the link served. `EventEndServes` says what that does. -/
def answered (reply : Frame) (v : State) : State := finish (queueReply reply (finish (dropFrame v)))

/-- A request answered OK with reply data and with no effect but its reply (and the custody level it has found, log entry 16). -/
def ReportGiven (s u : State) (c : Instr) (kind tag : Byte) (data : List Byte) : Prop :=
  exec c s = .next (answered (okReply kind tag data) { u with pins := u.pins.found c.custody? })

/-- A request refused: the outcome byte is all it gives, and nothing changes (but the custody level it has found, log
entry 16). -/
def RequestRefused (s u : State) (c : Instr) (kind tag : Byte) (o : OutcomeCode) : Prop :=
  exec c s = .next (answered (refusal kind tag o) { u with pins := u.pins.found c.custody? })

end Sys2Proof.Machine
end

