-- ==== Sys2Proof/Certificates/Slice0/Obligations.lean ====
section
/-! DEFINITION. The statements for the provers. In every statement about a command, `u` is the part at the instant the
command is taken, `after` µs later: what the command leaves is compared with it. Fields a statement does not name are kept,
where it says so by an equation `t = { u with … }`. -/

open Sys2Proof Sys2Proof.Machine

/-! ## Steps and time -/

/-- A step carries out the front command with the rest of the queue; on an empty queue 1 µs passes (log entry 1). -/
def Obligations.StepTakesFrontCommand : Prop :=
  ∀ s : State,
    (∀ (c : Instr) (rest : List Instr), s.pending = c :: rest → step s = exec c { s with pending := rest })
      ∧ (s.pending = [] → step s = .next (s.elapse 1))

/-- What ends every event, said once (R172, R177, R181, R182, R187): no stored copy changes and nothing but the store and the
link does; with no item in progress the store starts the warning's RESUME write or the list's first item; an idle transmitter
takes the oldest reply, or else the first pending pair. A request's notices are served before its reply is queued. That these
things happen at an event's end is the model's reading (log entries 9, 10 and 14). A write's content is memory as it stands, part by
part (R99, R146, R173; `ItemHolds`). -/
def Obligations.EventEndServes : Prop :=
  (∀ s : State,
    finish s = { s with store := (finish s).store, link := (finish s).link }
      ∧ (finish s).store.sections = s.store.sections ∧ (finish s).store.flags = s.store.flags
      ∧ (finish s).store.ring = s.store.ring ∧ (finish s).store.resume = s.store.resume
      ∧ (∀ w, s.store.writing = some w → (finish s).store = s.store)
      ∧ (s.store.writing = none → s.store.warningResume = true →
          WriteStarted .resume s (finish s)
            ∧ (finish s).store = { s.store with
                list := { s.store.list with resume := false }, warningResume := false
                writing := (finish s).store.writing })
      ∧ (s.store.writing = none → s.store.warningResume = false → s.live = true →
          ∀ i, s.store.list.first? = some i →
            WriteStarted i s (finish s)
              ∧ (finish s).store = { s.store with
                  list := s.store.list.unmark i, writing := (finish s).store.writing })
      ∧ (s.store.writing = none → s.store.warningResume = false →
          (s.live = false ∨ s.store.list.first? = none) → (finish s).store = s.store)
      ∧ ((s.live = false ∨ s.time.restartDue = true ∨ s.link.tx ≠ none) → (finish s).link = s.link)
      ∧ (s.live = true → s.time.restartDue = false → s.link.tx = none →
          (∀ f rest, s.link.queue = f :: rest →
            (finish s).link = { s.link with
              queue := rest, tx := some { frame := f, left := 10 * (f.payload.length + 6) * 1000000 } })
          ∧ (∀ n rest, s.link.queue = [] → s.link.notices = n :: rest →
              (finish s).link = { s.link with notices := rest, tx := (finish s).link.tx }
                ∧ ∃ x, (finish s).link.tx = some x ∧ x.left = 10 * (x.frame.payload.length + 6) * 1000000
                    ∧ (n.subjectInRange = true → noticeFrame n.cls n.subject x.frame = true))
          ∧ (s.link.queue = [] → s.link.notices = [] → (finish s).link = s.link)))
    ∧ (∀ (f : Frame) (v : State),
        answered f v = { v with store := (answered f v).store, link := (answered f v).link }
          ∧ newestReply (answered f v) = some f ∧ (answered f v).link.receiver = huntReceiver
          ∧ (answered f v).store.sections = v.store.sections ∧ (answered f v).store.flags = v.store.flags
          ∧ (answered f v).store.ring = v.store.ring ∧ (answered f v).store.resume = v.store.resume)

/-- R1, R2, R3: the capture clock runs while there is supply, station time while the part runs, and nothing else moves but
the countdowns of the converter, the sense lines, the store and the line; letting time pass in two parts or at once is the
same; a due time is reached by the difference modulo 2³². That a command brings its time with it, the part of a millisecond
held, and the countdowns are the model's choice (log entries 1 and 18). -/
def Obligations.TimePasses : Prop :=
  (∀ (dt : Nat) (s : State),
    (s.time.phase = .off → s.elapse dt = s)
      ∧ (s.time.phase ≠ .off → s.elapse dt =
          { s with
            time :=
              if s.live = true then
                { s.time with
                  captureClock := s.time.captureClock + BitVec.ofNat 32 dt
                  stationTime := s.time.stationTime + BitVec.ofNat 32 ((s.time.subMs + dt) / 1000)
                  subMs := (s.time.subMs + dt) % 1000 }
              else { s.time with captureClock := s.time.captureClock + BitVec.ofNat 32 dt }
            loop := { s.loop with
              converter := match s.loop.converter with
                | .idle => .idle
                | .converting c left => .converting c (left - dt) }
            sense := ⟨s.sense.a.map (· - dt), s.sense.b.map (· - dt)⟩
            store := { s.store with writing := s.store.writing.map fun w => { w with left := w.left - dt } }
            link := { s.link with tx := s.link.tx.map fun x =>
              { x with left := x.left - dt * s.settings.build.rate.bitsPerSecond } } }))
    ∧ (∀ (a b : Nat) (s : State), (s.elapse a).elapse b = s.elapse (a + b))
    ∧ (∀ due now : Time,
        reached due now = true ↔ (now.toNat + 4294967296 - due.toNat) % 4294967296 < 2147483648)

/-! ## Supply and start -/

/-- POWER_ON with PFW high (R27, R37, R54, R98, R163, R169, R171, R175): each section from its stored copy, or from the factory
defaults with DEFAULTED set, the protection flags, the build, and the blocks' start. With a valid resume record the resumed
period closes with cause POWER, its record is put on the ring that R148 restores, and the figures of the record are taken up
(R18, R59, R66, R100, R120, R140, R145, R148). With an invalid one the ring is the stored one, or empty, and the figures start
afresh (R66, R149). The mode marked in the first period is log entry 15; a content that passes its check is not checked again
(log entry 25); a ring of more than 48 records keeps the newest (log entry 26). That an OUT run has the settle count 0, which
RUN_STATUS shows, is the model's choice (log entry 6); what run positions and pumps not fitted hold is log entry 24. -/
def Obligations.PowerOnLoadsStore : Prop :=
  ∀ (s : State) (after : Nat), s.time.phase = .off → s.pins.pfwHigh = true →
    ∃ t : State, exec (.powerOn after) s = .next t
      ∧ t.time.phase = .warmup ∧ t.now = 0 ∧ t.time.periodCount = 0 ∧ t.time.periodOpen = 0
      ∧ t.time.warmupEnd = 2000
      ∧ (∀ c, s.store.sections.station = .valid c →
          t.settings.active.station = c ∧ t.settings.build = c.build ∧ t.settings.defaulted.station = false)
      ∧ ((∀ c, s.store.sections.station ≠ .valid c) →
          t.settings.active.station = factoryStation ∧ t.settings.build = ⟨4, 2, .r19200⟩
            ∧ t.settings.defaulted.station = true)
      ∧ (∀ (i : RunId) (c : RunSection), s.store.sections.run.get i = .valid c →
          t.settings.active.run.get i = c ∧ t.settings.defaulted.run.get i = false)
      ∧ (∀ i : RunId, (∀ c, s.store.sections.run.get i ≠ .valid c) →
          t.settings.active.run.get i = factoryRun ∧ t.settings.defaulted.run.get i = true)
      ∧ (∀ c, s.store.sections.odorant = .valid c →
          t.settings.active.odorant = c ∧ t.settings.defaulted.odorant = false)
      ∧ ((∀ c, s.store.sections.odorant ≠ .valid c) →
          t.settings.active.odorant = factoryOdorant ∧ t.settings.defaulted.odorant = true)
      ∧ (∀ c, s.store.sections.compress = .valid c →
          t.settings.active.compress = c ∧ t.settings.defaulted.compress = false)
      ∧ ((∀ c, s.store.sections.compress ≠ .valid c) →
          t.settings.active.compress = factoryCompress ∧ t.settings.defaulted.compress = true)
      ∧ (∀ c, s.store.sections.monitors = .valid c →
          t.settings.active.monitors = c ∧ t.settings.defaulted.monitors = false)
      ∧ ((∀ c, s.store.sections.monitors ≠ .valid c) →
          t.settings.active.monitors = .all factoryMonitor ∧ t.settings.defaulted.monitors = true)
      ∧ (∀ f, s.store.flags = .valid f → t.settings.protection = f)
      ∧ ((∀ f, s.store.flags ≠ .valid f) → t.settings.protection = .all false)
      ∧ t.settings.staged = noneStaged ∧ t.settings.stagedHeatingValue = none
      ∧ t.settings.unstored = .all false ∧ t.settings.flagsUnstored = false
      ∧ t.store.sections = s.store.sections ∧ t.store.flags = s.store.flags
      ∧ t.store.ring = s.store.ring ∧ t.store.resume = s.store.resume
      ∧ t.monitors = freshMonitors ∧ t.table.aux = .both false ∧ t.link.queue = [] ∧ t.sense = .both none
      ∧ t.pulse = .all freshPulse ∧ t.conv.last = .all none ∧ t.conv.station = none
      ∧ (0 < t.settings.build.runs → t.loop = { freshLoop with converter := .converting (.p 0) 25000 })
      ∧ (∀ i : RunId, (t.run.get i).state ≠ .out → t.settings.active.station.enables.run = true →
          noticeGiven .run i.val State.reset t = true)
      ∧ (t.dose.mode = .auto ↔ t.odorant.startAuto = true ∧ t.settings.defaulted.odorant = false)
      ∧ t.dose.trimHoldOff = none ∧ t.dose.lastReading = none ∧ t.recorder.lastIndex = 0
      ∧ (∀ r : ResumeRecord, s.store.resume = .valid r →
          ∃ x : PeriodRecord,
            (let loaded := match s.store.ring with
               | .valid ring => ring
               | _ => []
             let joined :=
               ((r.unstored.filter fun y => !loaded.any fun z => z.sequence == y.sequence) ++ loaded).take 48
             if s.store.ring ≠ .absent ∧ s.store.ring ≠ .failing ∧ consecutive joined = true
                 ∧ joined.head?.map (·.sequence) = r.lastSequence then
               t.recorder.ring = (x :: joined).take 48
                 ∧ t.recorder.storedThrough = loaded.head?.map (·.sequence)
             else t.recorder.ring = (x :: r.unstored.take 48).take 48 ∧ t.recorder.storedThrough = none)
              ∧ x.cause = .power ∧ x.intervals = r.intervalCount ∧ x.duration = r.elapsed
              ∧ x.lastIndex = r.lastIndex ∧ x.station = r.station ∧ x.accountClose = r.account ∧ x.trim = r.trim
              ∧ x.sequence = nextSequence r.lastSequence ∧ x.runs.length = min r.buildRuns 4
              ∧ (∀ i : RunId, i.val < r.buildRuns → HoldsRun x i (r.runStates.get i) (r.runs.get i))
              ∧ t.recorder.lastSequence = some x.sequence
              ∧ t.recorder.totals = r.totals ∧ t.settings.heatingValue = r.heatingValue
              ∧ (∀ i : RunId, t.recorder.runs.get i =
                  openedAccumulators (t.fitted i && decide (i.val < r.buildRuns)) (r.runs.get i))
              ∧ t.recorder.station =
                  { openStation (noModes.mark t.dose.mode) r.account with
                    forgone := r.account - t.dose.account }
              ∧ (∀ i : RunId, t.conv.residue.get i = if t.fitted i = true then r.residues.get i else 0)
              ∧ (∀ i : RunId, t.run.get i =
                  if t.fitted i = true ∧ i.val < r.buildRuns ∧ r.runStates.get i ≠ .out
                      ∧ t.settings.defaulted.run.get i = false then
                    { freshRun with
                      state := if (t.runSection i).settleTime = 0 then .degraded else .starting
                      settle := (t.runSection i).settleTime }
                  else freshRun)
              ∧ (∀ p : Side, t.pump.get p = freshPump
                  (if t.pumpIsFitted p = false then .absent
                   else if pumpFitted r.buildPumps p = true ∧ r.pumpFailed.get p = true then .failed else .ready))
              ∧ t.dose.trim = r.trim ∧ t.dose.residue = r.owedResidue
              ∧ t.dose.account = (if t.dose.mode = .auto then min r.account t.odorant.cap else 0)
              ∧ StartsDosing r.duty t
              ∧ t.dose.recentDrive = r.driveAge.isSome
              ∧ t.dose.lastDrive = r.driveAge.map (fun a => 0 - BitVec.ofNat 32 a)
              ∧ WriteStarted .resume t t ∧ t.store.list.ring = true)
      ∧ ((∀ r, s.store.resume ≠ .valid r) →
          (∀ ring, s.store.ring = .valid ring →
              t.recorder.ring = ring.take 48 ∧ t.recorder.lastSequence = ring.head?.map (·.sequence)
                ∧ t.recorder.storedThrough = ring.head?.map (·.sequence))
            ∧ ((∀ ring, s.store.ring ≠ .valid ring) →
                t.recorder.ring = [] ∧ t.recorder.lastSequence = none ∧ t.recorder.storedThrough = none)
            ∧ t.recorder.totals = .all ⟨0, 0, 0, 0, 0, 0⟩ ∧ t.recorder.runs = .all freshRunAccumulators
            ∧ t.recorder.station = openStation (noModes.mark t.dose.mode) 0
            ∧ t.settings.heatingValue = 38000 ∧ t.conv.residue = .all 0 ∧ t.run = .all freshRun
            ∧ (∀ p : Side, t.pump.get p = freshPump (if t.pumpIsFitted p = true then .ready else .absent))
            ∧ t.dose.account = 0 ∧ t.dose.residue = 0 ∧ t.dose.trim = 10000
            ∧ t.dose.recentDrive = false ∧ t.dose.lastDrive = none ∧ StartsDosing t.odorant.preferred t
            ∧ t.store.list = emptyWriteList ∧ t.store.writing = none)

/-- The edges of PFW (R1, R17, R37, R38, R118, R177). A fall in WARMUP or RUNNING is the warning: station time stops, every
output line goes off, the scan, the frame on the line and the frame being received stop, a stroke in flight is marked
ABANDONED, the store write list is emptied, and the RESUME item is written at once, or after the write in progress. A fall
elsewhere, and a rise while the part runs, only change the level. A rise in HALT is held for the restart (a later fall does not
cancel it, log entry 28). With power off, POWER_ON waits for PFW to be high, and a rise starts a part that waits. -/
def Obligations.PfwEdgesTaken : Prop :=
  ∀ (s u : State) (after : Nat), s.elapse after = u →
    (u.live = true →
      ∃ t : State, exec (.powerFailWarning after) s = .next t
        ∧ t = finish { u with
            time := { u.time with
              phase := .halt, haltInstant := u.now
              restartPending := false, restartDue := false, riseHeld := false }
            loop := { u.loop with converter := .idle }
            pump := u.pump.map fun x => { x with line := false }
            table := { u.table with aux := .both false }
            recorder := { u.recorder with station := { u.recorder.station with
              abandoned := u.recorder.station.abandoned || u.pump.a.strokeInFlight || u.pump.b.strokeInFlight } }
            pins := { u.pins with pfwHigh := false }
            link := { u.link with receiver := huntReceiver, tx := none }
            store := { u.store with list := emptyWriteList, warningResume := true } }
        ∧ t.alarm = false ∧ t.store.list = emptyWriteList
        ∧ t.store.sections = u.store.sections ∧ t.store.ring = u.store.ring ∧ t.store.resume = u.store.resume
        ∧ (∀ w, u.store.writing = some w → t.store.writing = some w ∧ t.store.warningResume = true)
        ∧ (u.store.writing = none →
            t.store.warningResume = false ∧ WriteStarted .resume t t
              ∧ ∃ r : ResumeRecord, t.store.writing = some { content := .resume r, left := 30000, stale := false }
                  ∧ ResumeHolds t r ∧ r.intervalCount = u.time.periodCount
                  ∧ r.elapsed = (u.now - u.time.periodOpen).toNat
                  ∧ r.station = t.recorder.station ∧ r.account = u.dose.account ∧ r.trim = u.dose.trim))
      ∧ (u.live = false →
          exec (.powerFailWarning after) s = .next (finish { u with pins := { u.pins with pfwHigh := false } }))
      ∧ (u.time.phase = .halt →
          exec (.pfwRise after) s = .next (finish { u with
            time := { u.time with riseHeld := true }, pins := { u.pins with pfwHigh := true } }))
      ∧ (u.live = true →
          exec (.pfwRise after) s = .next (finish { u with pins := { u.pins with pfwHigh := true } }))
      ∧ (u.time.phase = .off → u.pins.pfwHigh = false →
          exec (.powerOn after) s = .next (finish { u with pins := { u.pins with supply := true } }))
      ∧ (u.time.phase = .off → u.pins.supply = true →
          exec (.pfwRise after) s = exec (.powerOn after) { s with pins := { s.pins with pfwHigh := true } })
      ∧ (u.time.phase = .off → u.pins.supply = false →
          exec (.pfwRise after) s = .next (finish { u with pins := { u.pins with pfwHigh := true } }))

/-- RESTART is answered OK, and the restart is pending until that reply has been sent in full. RESTART_BEGIN, then, or once the
warning's store work has ended after a rise of PFW: the final close and the RESTART close, and what the restart drops, keeps and
enters (R4, R15, R16, R38, R53, R59, R98, R119, R134, R135, R140, R144, R147, R162, R169, R176). That the stroke-sense hold-off
runs on is log entry 18; that an unstored item in progress is listed again, its write still good, is log entry 33; the modes marked
in the new period are log entry 15; that an OUT run has the settle count 0, which RUN_STATUS shows, is the model's choice (log entry
6); what run positions and pumps not fitted hold is log entry 24; the instant the RESUME write starts is log entry 10. -/
def Obligations.RestartAnsweredAndBegun : Prop :=
  (∀ (s u : State) (after : Nat) (tag : Byte), s.elapse after = u → u.takes = true →
    exec (.restart after tag []) s = .next
      (answered { kind := 0xAF#8, tag := tag, payload := [0x00#8] }
        { u with time := { u.time with restartPending := true } }))
    ∧ (∀ (s u : State) (after : Nat), s.elapse after = u →
      (u.time.phase = .running ∧ u.time.restartDue = true
        ∨ u.time.phase = .halt ∧ u.time.riseHeld = true ∧ u.store.writing = none ∧ u.store.warningResume = false) →
      ∃ (t : State) (x : PeriodRecord), exec (.restartBegin after) s = .next t
        ∧ t.recorder.ring = (x :: u.recorder.ring).take 48 ∧ x.cause = .restart
        ∧ x.sequence = nextSequence u.recorder.lastSequence ∧ t.recorder.lastSequence = some x.sequence
        ∧ x.duration = (u.now - u.time.periodOpen).toNat
        ∧ x.intervals = u.time.periodCount + (if u.time.phase = .running ∧ u.age ≠ 0 then 1 else 0)
        ∧ x.runs.length = min u.settings.build.runs 4 ∧ FinalCloseLeaves u t x
        ∧ t.recorder.storedThrough = u.recorder.storedThrough ∧ t.recorder.lastIndex = 0
        ∧ t.recorder.station =
            { openStation ((noModes.mark u.dose.mode).mark t.dose.mode) x.accountClose with
              forgone := x.accountClose - t.dose.account }
        ∧ t.conv.last = .all none ∧ t.conv.station = none
        ∧ (∀ r, t.pulse.get r = { freshPulse with holdOff := (u.pulse.get r).holdOff })
        ∧ (0 < t.settings.build.runs → t.loop = { freshLoop with converter := .converting (.p 0) 25000 })
        ∧ t.time.phase = .warmup ∧ t.now = 0 ∧ t.time.warmupEnd = 2000 ∧ t.time.intervalIndex = 0
        ∧ t.time.periodCount = 0 ∧ t.time.periodOpen = 0 ∧ t.time.captureClock = u.time.captureClock
        ∧ t.settings.staged = noneStaged ∧ t.settings.stagedHeatingValue = none
        ∧ t.settings.active = u.settings.active ∧ t.settings.protection = u.settings.protection
        ∧ t.settings.defaulted = u.settings.defaulted ∧ t.settings.heatingValue = u.settings.heatingValue
        ∧ t.settings.unstored = u.settings.unstored ∧ t.settings.flagsUnstored = u.settings.flagsUnstored
        ∧ (∀ i, u.settings.unstored.get i = true → t.store.list.sections.get i = true)
        ∧ (u.settings.flagsUnstored = true → t.store.list.flags = true)
        ∧ t.store.list.ring = true ∧ ResumeAdded u t
        ∧ (∀ w, u.store.writing = some w → w.content.item ≠ .ring → w.content.item ≠ .resume →
            t.store.writing = some w)
        ∧ t.settings.build =
            (if u.store.list.sections.station = true ∨ u.settings.unstored.station = true
                ∨ u.store.writing.map (·.content.item) = some (.sectionCopy .station) then
              u.settings.active.station.build
             else match u.store.sections.station with
               | .valid c => c.build
               | _ => factoryBuild)
        ∧ t.monitors.limitLock = u.monitors.limitLock ∧ t.monitors.each = .all clearedMonitor
        ∧ (∀ i : RunId, t.run.get i =
            if t.fitted i = true ∧ u.fitted i = true ∧ (u.run.get i).state ≠ .out then
              { freshRun with
                state := if (u.runSection i).settleTime = 0 then .degraded else .starting
                settle := (u.runSection i).settleTime }
            else freshRun)
        ∧ (∀ i : RunId, (t.run.get i).state ≠ .out → t.settings.active.station.enables.run = true →
            noticeGiven .run i.val State.reset t = true)
        ∧ t.dose.trim = u.dose.trim ∧ t.dose.trimHoldOff = none ∧ t.dose.lastReading = none
        ∧ t.dose.account = (if t.dose.mode = .auto then x.accountClose else 0)
        ∧ (t.dose.mode = .auto ↔ u.odorant.startAuto = true ∧ u.settings.defaulted.odorant = false)
        ∧ StartsDosing u.dose.duty t
        ∧ t.dose.recentDrive = u.dose.recentDrive
        ∧ t.dose.lastDrive = (if u.dose.recentDrive = true then u.dose.lastDrive.map (· - u.now) else none)
        ∧ (∀ p : Side, t.pump.get p = freshPump
            (if t.pumpIsFitted p = false then .absent
             else if u.pumpIsFitted p = false then .ready
             else if (u.pump.get p).state = .driving ∨ (u.pump.get p).state = .await then .ready
             else (u.pump.get p).state))
        ∧ t.table.aux = .both false
        ∧ t.table.count isLink = 0 ∧ t.table.count isConfirm = 0 ∧ t.link.queue = []
        ∧ t.pins = u.pins ∧ t.sense = u.sense ∧ t.pending = u.pending)

/-- LOSS_OF_SUPPLY (R37, R173): the stored items remain, but an item being written without a power-fail warning, be it RESUME,
RING, FLAGS or the copy of a section, fails its check, and every other stored copy stays as it was (what the item holds after a
loss in HALT is a free value, log entry 13); a part that waits for PFW only loses its supply. POWER_ON in HALT is a loss of supply
and a power-on (R4, log entry 22). -/
def Obligations.LossOfSupplyKeepsStore : Prop :=
  ∀ (s u : State) (after : Nat), s.elapse after = u →
    (u.time.phase ≠ .off →
      ∃ t : State, exec (.lossOfSupply after) s = .next t
        ∧ t.time.phase = .off ∧ t.store.writing = none ∧ t.store.list = emptyWriteList
        ∧ t.pending = u.pending ∧ t.pins = { u.pins with supply := false }
        ∧ (u.store.writing = none →
            t.store.sections = u.store.sections ∧ t.store.flags = u.store.flags
              ∧ t.store.ring = u.store.ring ∧ t.store.resume = u.store.resume)
        ∧ (∀ w, u.store.writing = some w →
            OtherCopiesKept w.content.item u.store t.store
              ∧ (u.live = true → CopyFails w.content.item t.store))
        ∧ (u.time.phase = .halt → exec (.powerOn after) s = exec (.powerOn 0) t))
      ∧ (u.time.phase = .off → u.pins.supply = true →
          exec (.lossOfSupply after) s = .next (finish { u with pins := { u.pins with supply := false } }))

/-! ## Time base -/

/-- A boundary, of the interval timer or made by a forced close (R6, R7, R8, R9, R10, R11, R12, R22, R28, R29, R42, R48, R51,
R111, R135, R139, R143): the interval is counted, the next begins with its scan, the settle count of a STARTING run decreases and
at 0 the run leaves STARTING, and the period closes, with cause FORCED at a forced close, or with cause LENGTH when the count
reaches the period length then active; the close gives the record account and trim, opens the next period, sets the stray counts
to 0, raises PERIOD and adds RING and RESUME to the store write list (`PeriodClosed`; the instant a write starts is log entry 10).
The order of the blocks' work is read from R7's table (log entry 11); that a completion of this instant not yet taken is discarded
is log entry 34. -/
def Obligations.BoundaryEndsInterval : Prop :=
  ∀ (s u : State) (c : Instr), MakesBoundary c s u → 0 < u.settings.build.runs →
    ∃ t : State, exec c s = .next t
      ∧ t.time.phase = .running ∧ t.time.intervalIndex = u.time.intervalIndex + 1
      ∧ t.time.intervalStart = u.now ∧ t.time.stationTime = u.time.stationTime
      ∧ t.time.captureClock = u.time.captureClock
      ∧ t.loop = { u.loop with converter := .converting (.p 0) 25000 }
      ∧ (∀ r, (t.pulse.get r).count = .both 0)
      ∧ (∀ r, (t.run.get r).closedInInterval = false ∧ (t.run.get r).stateForInterval = none)
      ∧ (∀ r, (u.run.get r).state ≠ .starting →
          (t.run.get r).state = (u.run.get r).state ∧ (t.run.get r).settle = (u.run.get r).settle)
      ∧ (∀ r, (u.run.get r).state = .starting → 1 < (u.run.get r).settle →
          (t.run.get r).state = .starting ∧ (t.run.get r).settle = (u.run.get r).settle - 1)
      ∧ (∀ r, (u.run.get r).state = .starting → (u.run.get r).settle ≤ 1 →
          (t.run.get r).settle = 0
            ∧ (t.run.get r).state = (if (u.loop.p.get r).usable = true ∧ (u.loop.t.get r).usable = true then .metering
                else .degraded)
            ∧ (u.settings.active.station.enables.run = true → noticeGiven .run r.val u t = true))
      ∧ (if closesPeriod c u = true then
          t.time.periodCount = 0 ∧ t.time.periodOpen = u.now
            ∧ ∃ x : PeriodRecord, t.recorder.ring = (x :: u.recorder.ring).take 48 ∧ x.cause = boundaryCause c
                ∧ x.intervals = u.time.periodCount + 1 ∧ x.duration = (u.now - u.time.periodOpen).toNat
                ∧ x.lastIndex = u.time.intervalIndex ∧ x.sequence = nextSequence u.recorder.lastSequence
                ∧ t.recorder.lastSequence = some x.sequence ∧ PeriodClosed u t x
         else
          t.time.periodCount = u.time.periodCount + 1 ∧ t.time.periodOpen = u.time.periodOpen
            ∧ t.recorder.ring = u.recorder.ring ∧ t.recorder.lastSequence = u.recorder.lastSequence
            ∧ t.recorder.lastIndex = u.time.intervalIndex ∧ t.recorder.storedThrough = u.recorder.storedThrough
            ∧ t.pump = u.pump)
      ∧ t.sense = u.sense ∧ t.pins = u.pins ∧ t.table.aux = u.table.aux ∧ t.pending = u.pending

/-- A boundary, of the interval timer or made by a forced close (R12, R25, R156, R157, R163, R166): every staged copy and the
staged heating value become active; DEFAULTED clears, unstored is set, and the section's item is listed or already being written;
a staged heating value adds RESUME to the store write list (log entry 11 for the order, log entry 10 for the instant a write
starts). A RUN copy that turns the B check off clears the run's integrity state (`IntegrityJudged` says more); a MONITORS copy acts
on each monitor, seen here on those that this close does not evaluate (`IntervalEntry` for M0 to M3, `BoundaryAccruesOdorant` and
`SchedulingAndOdorantCopy` for M14). -/
def Obligations.BoundaryAppliesStaged : Prop :=
  ∀ (s u : State) (c : Instr), MakesBoundary c s u →
    ∃ t : State, exec c s = .next t
      ∧ t.settings.active.station = u.settings.staged.station.getD u.settings.active.station
      ∧ (∀ r, t.settings.active.run.get r
            = (u.settings.staged.run.get r).getD (u.settings.active.run.get r))
      ∧ t.settings.active.odorant = u.settings.staged.odorant.getD u.settings.active.odorant
      ∧ t.settings.active.compress = u.settings.staged.compress.getD u.settings.active.compress
      ∧ t.settings.active.monitors = u.settings.staged.monitors.getD u.settings.active.monitors
      ∧ t.settings.heatingValue = u.settings.stagedHeatingValue.getD u.settings.heatingValue
      ∧ (u.settings.stagedHeatingValue ≠ none → ResumeAdded u t)
      ∧ t.settings.staged = noneStaged ∧ t.settings.stagedHeatingValue = none
      ∧ t.settings.build = u.settings.build ∧ t.settings.protection = u.settings.protection
      ∧ (∀ i, t.settings.defaulted.get i
            = (u.settings.defaulted.get i && !(stagedMarks u.settings.staged).get i)
          ∧ t.settings.unstored.get i
            = (u.settings.unstored.get i || (stagedMarks u.settings.staged).get i)
          ∧ ((stagedMarks u.settings.staged).get i = true →
              t.store.list.sections.get i = true
                ∨ t.store.writing.map (·.content.item) = some (.sectionCopy i)))
      ∧ (∀ r, (u.settings.active.run.get r).bCheck = true → (t.settings.active.run.get r).bCheck = false →
          (t.pulse.get r).integrityAlarm = false ∧ (t.pulse.get r).consecutiveEvents = 0
            ∧ (t.pulse.get r).consecutiveClean = 0
            ∧ ((u.pulse.get r).integrityAlarm = true → u.settings.active.station.enables.run = true →
                t.settings.active.station.enables.run = true → noticeGiven .run r.val u t = true))
      ∧ (∀ m : Fin 16, m ≠ 14 → (∀ r : RunId, m.val = r.val → ¬ Computed u r) →
          MonitorLeft u t m (u.monitors.each.get m))

/-- The two commands that force a close: PERIOD_CLOSE, answered with the sequence of the record, and a CLOSE_PERIOD entry
falling due, which leaves the table (R12, R13, R14, R111, R127, R129, R135, R139, R143). At an age of 1 ms or more the close is a
boundary, and the statements about a boundary say what it does besides (log entry 11 for the order of its work, log entry 10 for the
instant a write starts). -/
def Obligations.ForcedCloses : Prop :=
  ∀ (s u : State) (after : Nat), s.elapse after = u →
    (∀ tag : Byte, u.takes = true →
      ∃ t : State, exec (.periodClose after tag []) s = .next t ∧ ForcedCloseLeaves u t
        ∧ (u.age = 0 → t.table = u.table)
        ∧ (∀ n, t.recorder.lastSequence = some n →
            newestReply t = some (okReply 0x12#8 tag (bytesLE 4 n.toNat))))
      ∧ (∀ (id : Fin 8) (e : Entry), u.time.phase = .running → u.table.at id.val = some e →
          e.kind = .closePeriod → reached e.due u.now = true →
          ∃ t : State, exec (.closePeriodEntryDue after id) s = .next t ∧ ForcedCloseLeaves u t
            ∧ (u.age = 0 → t.table = { u.table with places := u.table.places.set id.val none })
            ∧ t.table.count isLink + boolCode (isLink e) = u.table.count isLink)

/-! ## The interval close -/

/-- At a boundary, of the interval timer or made by a forced close: the metered count of a computed run (R23) and its gross volume
with the residue carried (R57, R58), the ratio of the pressure and temperature used (R61, R63), base volume and energy rounded
half up from the STATION copy and the heating value active during the interval (R64, R66, R73); a run for which nothing is handed
keeps its residue and its last results (R56). -/
def Obligations.GrossVolumeCarriesResidue : Prop :=
  ∀ (s u : State) (c : Instr) (r : RunId), MakesBoundary c s u →
    ∃ t : State, exec c s = .next t
      ∧ (if Computed u r then
           ∃ (res : LastResults) (f : LastInterval), t.conv.last.get r = some res ∧ (t.run.get r).last = some f
             ∧ RunResults u r (t.conv.residue.get r) f res
         else t.conv.residue.get r = u.conv.residue.get r ∧ t.conv.last.get r = u.conv.last.get r)

/-- The interval entry of a run computed at a boundary, of the interval timer or made by a forced close: its state, the pressure
and temperature used with their substitutes, the rate of its metered channel's ring, its flags, and the evaluation of its rate
monitor by the MONITORS copy active during the interval, on which a staged copy then acts (R23, R24, R45, R48, R49, R67, R70,
R150, R151, R156, R157). -/
def Obligations.IntervalEntry : Prop :=
  ∀ (s u : State) (c : Instr) (r : RunId), MakesBoundary c s u → Computed u r →
    ∃ (t : State) (f : LastInterval), exec c s = .next t ∧ (t.run.get r).last = some f
      ∧ RunEntry u r f
      ∧ (let c := u.settings.active.run.get r
         let p := u.loop.p.get r
         let q := u.loop.t.get r
         let rc := t.run.get r
         (∀ v, p.state ≠ .failed → p.latest = some v → rc.pSubstitute = ⟨.none, none⟩)
           ∧ (∀ v, p.state = .failed → c.policy = .hold → p.lastGood = some v → rc.pSubstitute = ⟨.held, some v⟩)
           ∧ (p.state = .failed → (c.policy = .fallback ∨ p.lastGood = none) →
               rc.pSubstitute = ⟨.fallback, some c.fallbackP⟩)
           ∧ (∀ v, q.state ≠ .failed → q.latest = some v → rc.tSubstitute = ⟨.none, none⟩)
           ∧ (∀ v, q.state = .failed → c.policy = .hold → q.lastGood = some v → rc.tSubstitute = ⟨.held, some v⟩)
           ∧ (q.state = .failed → (c.policy = .fallback ∨ q.lastGood = none) →
               rc.tSubstitute = ⟨.fallback, some c.fallbackT⟩)
           ∧ (∀ m : Fin 16, m.val = r.val → MonitorLeft u t m
               (if standing m u = .evaluated then
                  evaluated false (u.settings.active.monitors.get m) f.rate (u.monitors.each.get m)
                else u.monitors.each.get m)))

/-- The pulse front end of a fitted run at a boundary, of the interval timer or made by a forced close (R21, R22, R23, R24, R25,
R51, R67): the last interval figures, the counts set to 0, and what stays. A run not computed keeps its rings and is not judged. Of a
computed run the rings are emptied by the zero-flow timeout, and the consecutive counts change and the INTEGRITY alarm is set at 3
events and ends at 60 clean intervals, with a notice, all judged by the RUN copy active during the interval; a staged RUN copy
that turns the B check off then clears them, with a notice if the alarm was set, and any other leaves them as judged. -/
def Obligations.IntegrityJudged : Prop :=
  ∀ (s u : State) (c : Instr) (r : RunId), MakesBoundary c s u → u.fitted r = true →
    ∃ t : State, exec c s = .next t
      ∧ (let c := u.settings.active.run.get r
         let old := u.pulse.get r
         let new := t.pulse.get r
         let isEvent := c.tolerance < max old.count.a old.count.b - min old.count.a old.count.b
         new.lastChannel = (if c.bCheck = true ∧ old.count.a = 0 ∧ c.tolerance < old.count.b then .b else .a)
           ∧ new.lastCount = old.count ∧ new.count = .both 0
           ∧ new.holdOff = old.holdOff ∧ new.maintenance = old.maintenance
           ∧ (¬ Computed u r → new.ring = old.ring)
           ∧ (Computed u r →
               (∀ (ch : Side) (newest : Time), (old.ring.get ch).getLast? = some newest →
                 new.ring.get ch =
                   if c.zeroFlowTimeout * 1000000 < (u.time.captureClock - newest).toNat then []
                   else old.ring.get ch)
                 ∧ (∀ ch : Side, old.ring.get ch = [] → new.ring.get ch = []))
           ∧ (let off := c.bCheck = true ∧ (t.settings.active.run.get r).bCheck = false
              let copies := u.settings.staged.run.get r
              (t.settings.active.run.get r).bCheck = (copies.map (·.bCheck)).getD c.bCheck
                ∧ (¬ off → Judged (Computed u r) c old new
                    ∧ (new.integrityAlarm ≠ old.integrityAlarm →
                        u.settings.active.station.enables.run = true → noticeGiven .run r.val u t = true))
                ∧ (off →
                    new.integrityAlarm = false ∧ new.consecutiveEvents = 0 ∧ new.consecutiveClean = 0
                      ∧ (let ends := Computed u r ∧ ¬ isEvent ∧ old.consecutiveClean + 1 = 60
                         (old.integrityAlarm = true → ends →
                           u.settings.active.station.enables.run = true → noticeGiven .run r.val u t = true)
                           ∧ (old.integrityAlarm = true → ¬ ends →
                               t.settings.active.station.enables.run = true → noticeGiven .run r.val u t = true)
                           ∧ (old.integrityAlarm = false → Computed u r → isEvent → old.consecutiveEvents + 1 = 3 →
                               (u.settings.active.station.enables.run = true
                                 ∨ t.settings.active.station.enables.run = true) →
                               noticeGiven .run r.val u t = true)))))

/-- The totals take a run computed at a boundary, of the interval timer or made by a forced close, floor with residue carried and
modulo 10¹²; the totals of a run not computed are left as they stand (R144). -/
def Obligations.TotalsTakeInterval : Prop :=
  ∀ (s u : State) (c : Instr) (r : RunId), MakesBoundary c s u →
    ∃ t : State, exec c s = .next t
      ∧ (if Computed u r then
           ∃ res : LastResults, t.conv.last.get r = some res
             ∧ t.recorder.totals.get r = totalsWith res (u.recorder.totals.get r)
         else t.recorder.totals.get r = u.recorder.totals.get r)

/-- The accumulators of a fitted run take a run computed at a boundary, RECONFIG is marked in the period that holds the first
interval of a copy that became active, and a close made there, LENGTH or FORCED, puts the run's sub-record in the record and opens
the next period with the last P and T kept (R12, R135, R136, R137, R140). That the record shows the run state after the boundary's
settling rests on the order of its work (log entry 11). -/
def Obligations.RunAccumulatorsTakeInterval : Prop :=
  ∀ (s u : State) (c : Instr) (r : RunId), MakesBoundary c s u → u.fitted r = true →
    ∃ t : State, exec c s = .next t
      ∧ (let old := u.recorder.runs.get r
         let marked := (u.settings.staged.run.get r).isSome || u.settings.staged.station.isSome
           || u.settings.staged.compress.isSome || u.settings.stagedHeatingValue.isSome
         let acc : RunAccumulators :=
           if Computed u r then
             match (t.run.get r).last, t.conv.last.get r with
             | some f, some res => accumulatorsWith f res old
             | _, _ => old
           else old
         if closesPeriod c u = true then
           t.recorder.runs.get r =
               { openedAccumulators true acc with flags := { noFlags with reconfig := marked } }
             ∧ ∃ x, t.recorder.ring.head? = some x ∧ x.runs.length = min u.settings.build.runs 4
                 ∧ HoldsRun x r (t.run.get r).state acc
         else
           t.recorder.runs.get r = { acc with flags := { acc.flags with reconfig := acc.flags.reconfig || marked } })

/-- R62, on a valid grid: the lowest cell whose upper line is not passed; grid lines lie at the top of the lower cell. -/
def Obligations.GridCellIsLowest : Prop :=
  ∀ (g : CompressSection) (p t : Nat), g.valid = true →
    (p ≤ g.pressures.c4 →
      pressureIndex g p < 4 ∧ p ≤ g.pressures.nth (pressureIndex g p + 1)
        ∧ ∀ k, k < pressureIndex g p → g.pressures.nth (k + 1) < p)
      ∧ (t ≤ g.temperatures.r3 →
          temperatureIndex g t < 3 ∧ t ≤ g.temperatures.nth (temperatureIndex g t + 1)
            ∧ ∀ k, k < temperatureIndex g t → g.temperatures.nth (k + 1) < t)
      ∧ (∀ k, k < 4 → pressureIndex g (g.pressures.nth (k + 1)) = k)
      ∧ (∀ k, k < 3 → temperatureIndex g (g.temperatures.nth (k + 1)) = k)
      ∧ pressureIndex g g.pressures.c0 = 0 ∧ temperatureIndex g g.temperatures.r0 = 0

/-- R60, R61, R63: on a valid grid the ratio is interpolated in the cell of R62 along pressure and then along temperature, each
quotient rounded half away from zero; it lies within 800,000..1,400,000 for every pressure and temperature, is the grid
value at every grid point, and outside the grid is that of the clamped pressure and temperature. -/
def Obligations.RatioWithinGrid : Prop :=
  ∀ g : CompressSection, g.valid = true →
    (∀ p t, 800000 ≤ ratioF g p t ∧ ratioF g p t ≤ 1400000
      ∧ ratioF g p t = ratioF g (max g.pressures.c0 (min g.pressures.c4 p))
          (max g.temperatures.r0 (min g.temperatures.r3 t)))
      ∧ (∀ i j, i < 5 → j < 4 →
          ratioF g (g.pressures.nth i) (g.temperatures.nth j) = (g.values.nth i).nth j)
      ∧ (∀ p t i j : Nat, i < 4 → j < 3 →
          (g.pressures.nth i < p ∨ i = 0 ∧ p = g.pressures.nth 0) → p ≤ g.pressures.nth (i + 1) →
          (g.temperatures.nth j < t ∨ j = 0 ∧ t = g.temperatures.nth 0) → t ≤ g.temperatures.nth (j + 1) →
          ∃ qa qb q : Int,
            (let value := fun a b : Nat => (((g.values.nth a).nth b : Nat) : Int)
             let alongP := ((p - g.pressures.nth i : Nat) : Int)
             let stepP := g.pressures.nth (i + 1) - g.pressures.nth i
             let fa := value i j + qa
             let fb := value i (j + 1) + qb
             RoundsTo ((value (i + 1) j - value i j) * alongP) stepP qa
               ∧ RoundsTo ((value (i + 1) (j + 1) - value i (j + 1)) * alongP) stepP qb
               ∧ RoundsTo ((fb - fa) * ((t - g.temperatures.nth j : Nat) : Int))
                   (g.temperatures.nth (j + 1) - g.temperatures.nth j) q
               ∧ (ratioF g p t : Int) = fa + q))

/-- R69, with R67, R68 and R70: the gross rate from a ring and the capture clock at the close: 0 past the zero-flow timeout or
with fewer than two times, else the ring rate, and with an age above 0 the lower of it and the staleness rate, held at
4,294,967,295. -/
def Obligations.GrossRateFromRing : Prop :=
  ∀ (c : RunSection) (ring : List Time) (capture : Time),
    grossRate c ring capture ≤ 4294967295
      ∧ (ring.length < 2 → grossRate c ring capture = 0)
      ∧ (∀ oldest newest : Time, ring.head? = some oldest → ring.getLast? = some newest →
          let age := (capture - newest).toNat
          let ringRate := (ring.length - 1) * c.vpp * 3600000 / (newest - oldest).toNat
          (c.zeroFlowTimeout * 1000000 < age → grossRate c ring capture = 0)
            ∧ (age ≤ c.zeroFlowTimeout * 1000000 → 2 ≤ ring.length → age = 0 →
                grossRate c ring capture = min ringRate 4294967295)
            ∧ (age ≤ c.zeroFlowTimeout * 1000000 → 2 ≤ ring.length → 0 < age →
                grossRate c ring capture = min (min ringRate (c.vpp * 3600000 / age)) 4294967295))

/-- The station figures at a boundary, of the interval timer or made by a forced close: the sums of the base volumes and of the
gross rates of the runs computed (R72, R76). The dose controller there, where no ODORANT copy is applied (R12, R80, R81, R95, R96):
owed with its residue carried; the account held at the cap in AUTO with the excess forgone, and left in OFF and MANUAL with all of
owed forgone; the debt monitor M14, on which a staged MONITORS copy then acts (R150, R156, R157); and the scheduling check when the
account has increased. -/
def Obligations.BoundaryAccruesOdorant : Prop :=
  ∀ (s u : State) (c : Instr), MakesBoundary c s u →
    ∃ (t : State) (figures : StationFigures), exec c s = .next t
      ∧ t.conv.station = some figures
      ∧ figures.base = (runIds.map fun r =>
          if Computed u r then
            ((t.conv.last.get r).map (·.base)).getD 0
          else 0).sum
      ∧ figures.rate = (runIds.map fun r =>
          if Computed u r then
            ((t.run.get r).last.map (·.rate)).getD 0
          else 0).sum
      ∧ (u.settings.staged.odorant = none →
          (let total := u.odorant.target * figures.base * u.dose.trim + u.dose.residue
           let owed := total / 1000000000
           let cap := u.odorant.debtLimit * u.odorant.strokeMass
           let kept := if u.dose.mode = .auto then min (u.dose.account + owed) cap else u.dose.account
           let v : State := { u with dose := { u.dose with account := kept, residue := total % 1000000000 } }
           (if u.dose.account < kept then
              t.dose = (schedulingCheck v).dose ∧ t.table = (schedulingCheck v).table
            else t.dose = v.dose ∧ t.table = u.table)
             ∧ (if closesPeriod c u = true then
                  t.recorder.ring.head?.map (·.station)
                else some t.recorder.station) =
                 some { u.recorder.station with
                   owed := u.recorder.station.owed + owed
                   forgone := u.recorder.station.forgone + (u.dose.account + owed - kept) }
             ∧ MonitorLeft u t 14
                 (if (u.settings.active.monitors.get 14).enabled = true then
                    evaluated false (u.settings.active.monitors.get 14) (kept * 1000 / cap) (u.monitors.each.get 14)
                  else u.monitors.each.get 14)))

/-- The scheduling check (R85, R86): when a whole stroke is owed and can be served, a STROKE entry of the duty pump takes the
lowest free id, due at once or when the spacing since the last drive has passed, and the state is STROKE_WAIT; else nothing
changes. An ODORANT copy that becomes active at a boundary, of the interval timer or made by a forced close, after the accrual by
the old copy, moves what lies above its cap to forgone and makes the check with its stroke mass and spacing (R82; log entry 11
for the order); M14 has been evaluated on the debt under the old cap, and the lower account does not evaluate it again (R96, R150),
though a staged MONITORS copy acts on it (R156, R157). -/
def Obligations.SchedulingAndOdorantCopy : Prop :=
  (∀ v : State,
    if v.dose.mode = .auto ∧ v.dose.state = .armed ∧ (v.pump.get v.dose.duty).state = .ready
        ∧ v.odorant.strokeMass ≤ v.dose.account then
      schedulingCheck v = { v with
          dose := { v.dose with state := .strokeWait, massInFlight := v.odorant.strokeMass }
          table := (schedulingCheck v).table }
        ∧ (schedulingCheck v).table.aux = v.table.aux
        ∧ (∀ id, id < v.table.places.length → v.table.at id = none → (∀ j, j < id → v.table.at j ≠ none) →
            (schedulingCheck v).table.places = v.table.places.set id (some
              { owner := .dosing, kind := .stroke, target := Side.code v.dose.duty
                due :=
                  match v.dose.recentDrive, v.dose.lastDrive with
                  | true, some d =>
                    if reached (d + BitVec.ofNat 32 v.odorant.spacing) v.now = true then v.now
                    else d + BitVec.ofNat 32 v.odorant.spacing
                  | _, _ => v.now }))
    else schedulingCheck v = v)
    ∧ (∀ (s u : State) (c : Instr) (copy : OdorantSection), MakesBoundary c s u →
      u.settings.staged.odorant = some copy →
      ∃ (t : State) (figures : StationFigures), exec c s = .next t
        ∧ t.conv.station = some figures ∧ t.odorant = copy
        ∧ (let total := u.odorant.target * figures.base * u.dose.trim + u.dose.residue
           let owed := total / 1000000000
           let cap := copy.debtLimit * copy.strokeMass
           let kept := if u.dose.mode = .auto then
               min (u.dose.account + owed) (u.odorant.debtLimit * u.odorant.strokeMass)
             else u.dose.account
           let v : State := { u with dose := { u.dose with account := kept, residue := total % 1000000000 } }
           let w : State := if u.dose.account < kept then schedulingCheck v else v
           let x : State := { w with
             settings := t.settings, dose := { w.dose with account := min kept cap } }
           t.dose = (schedulingCheck x).dose ∧ t.table = (schedulingCheck x).table
             ∧ (if closesPeriod c u = true then
                  t.recorder.ring.head?.map (·.station)
                else some t.recorder.station) =
                 some { u.recorder.station with
                   owed := u.recorder.station.owed + owed
                   forgone := u.recorder.station.forgone + (u.dose.account + owed - kept) + (kept - cap) }
             ∧ MonitorLeft u t 14
                 (if (u.settings.active.monitors.get 14).enabled = true then
                    evaluated false (u.settings.active.monitors.get 14)
                      (kept * 1000 / (u.odorant.debtLimit * u.odorant.strokeMass)) (u.monitors.each.get 14)
                  else u.monitors.each.get 14)))

/-! ## Field inputs -/

/-- PULSE_EDGE (R19, R20, R21, R26): an accepted edge is counted and ringed, or counted as maintenance, or discarded; a
rejected one leaves all as it was (log entry 3). -/
def Obligations.PulseEdgeRouted : Prop :=
  ∀ (s u : State) (after : Nat) (r : RunId) (ch : Side), s.elapse after = u → u.live = true →
    u.fitted r = true →
    (let p := u.pulse.get r
     let now := u.time.captureClock
     ((∀ t0, p.holdOff.get ch = some t0 → 50 ≤ (now - t0).toNat) →
       exec (.pulseEdge after r ch) s = .next (finish { u with
             pulse := u.pulse.set r
               (if (u.run.get r).state ≠ .out then
                 { p with
                   holdOff := p.holdOff.set ch (some now)
                   count := p.count.set ch (p.count.get ch + 1)
                   ring := p.ring.set ch
                     ((p.ring.get ch ++ [now]).drop ((p.ring.get ch).length + 1 - 8)) }
                else if ch = .a then
                 { p with holdOff := p.holdOff.set ch (some now), maintenance := p.maintenance + 1 }
                else { p with holdOff := p.holdOff.set ch (some now) }) }))
       ∧ (∀ t0, p.holdOff.get ch = some t0 → (now - t0).toNat < 50 →
           exec (.pulseEdge after r ch) s = .next u))

/-- The ends of times the part keeps: WARMUP_END begins the first interval at the warm-up end, with its scan (R5, R8, R28);
PULSE_HOLD_OFF_END (R19), SENSE_HOLD_OFF_END (R35), RECENT_DRIVE_END (R86) and TRIM_HOLD_OFF_END (R94) each clear their own mark
alone. A command whose event has not come to its instant, or cannot happen in the state it finds, changes nothing: only time passes
(R3, R5, R6, R19, R28, R35, R37, R86, R94, R103, R127, R172, R176, R178, R181; log entry 3), and the custody level that STATION_STATUS
and PROTECT_CLEAR carry is held (log entry 16). -/
def Obligations.TimedEndsTaken : Prop :=
  (∀ (s : State) (c : Instr), ¬ Happens (s.elapse c.after) c →
    exec c s = .next { s.elapse c.after with pins := (s.elapse c.after).pins.found c.custody? })
  ∧ ∀ (s u : State) (after : Nat), s.elapse after = u →
    (u.time.phase = .warmup → reached u.time.warmupEnd u.now = true → 0 < u.settings.build.runs →
      exec (.warmupEnd after) s = .next (finish { u with
        time := { u.time with phase := .running, intervalIndex := 1, intervalStart := u.time.warmupEnd }
        loop := { u.loop with converter := .converting (.p 0) 25000 } }))
      ∧ (∀ (r : RunId) (ch : Side) (t0 : Time), u.time.phase ≠ .off → (u.pulse.get r).holdOff.get ch = some t0 →
        50 ≤ (u.time.captureClock - t0).toNat →
        exec (.pulseHoldOffEnd after r ch) s = .next (finish { u with
          pulse := u.pulse.set r { u.pulse.get r with holdOff := ((u.pulse.get r).holdOff.set ch none) } }))
      ∧ (∀ p : Side, u.time.phase ≠ .off → u.sense.get p = some 0 →
          exec (.senseHoldOffEnd after p) s = .next (finish { u with sense := u.sense.set p none }))
      ∧ (∀ d : Time, u.live = true → u.dose.recentDrive = true → u.dose.lastDrive = some d →
          reached (d + 60000) u.now = true →
          exec (.recentDriveEnd after) s = .next (finish { u with dose := { u.dose with recentDrive := false } }))
      ∧ (∀ e : Time, u.live = true → u.dose.trimHoldOff = some e → reached e u.now = true →
          exec (.trimHoldOffEnd after) s = .next (finish { u with dose := { u.dose with trimHoldOff := none } }))

/-- R31, R33: the zones of a loop current; in the span the value rounded half up, a gauge pressure made absolute. -/
def Obligations.ReadingByZone : Prop :=
  ∀ (a : ActiveSections) (c : ChannelId) (current : Nat), (rangeOf a c).1 ≤ (rangeOf a c).2 →
    (let lrv := (rangeOf a c).1
     let urv := (rangeOf a c).2
     let offset := match c with
       | .p r => if (a.run.get r).pType = .gauge then a.station.atmospheric else 0
       | .hdr => if a.station.hdrType = .gauge then a.station.atmospheric else 0
       | .t _ | .tank => 0
     (4000 ≤ current → current ≤ 20000 →
       ∃ v, reading a c current = some (.valid, v + offset) ∧ lrv ≤ v ∧ v ≤ urv
         ∧ 32000 * (v - lrv) ≤ 2 * ((current - 4000) * (urv - lrv)) + 16000
         ∧ 2 * ((current - 4000) * (urv - lrv)) + 16000 < 32000 * (v - lrv + 1))
       ∧ (3800 ≤ current → current ≤ 3999 → reading a c current = some (.clampedLow, lrv + offset))
       ∧ (20001 ≤ current → current ≤ 20500 → reading a c current = some (.clampedHigh, urv + offset))
       ∧ (current < 3800 ∨ 20500 < current → reading a c current = none))

/-- CONVERSION_COMPLETION (R28, R30, R31, R32, R34, R150, R151): the channel by zone, failure and recovery; no other channel;
its monitor evaluated on the stored value, unless the channel is FAILED; the RUN notice of a run it moves; the next
conversion. -/
def Obligations.ConversionCompletes : Prop :=
  ∀ (s u : State) (after current : Nat) (c : ChannelId), s.elapse after = u → u.live = true →
    u.loop.converter = .converting c 0 →
    ∃ t : State, exec (.conversionCompletion after current) s = .next t
      ∧ (∀ m : Fin 16,
          m.val = (match c with
            | .p r => 4 + r.val
            | .t r => 8 + r.val
            | .hdr => 12
            | .tank => 13) →
          t = finish (evaluate m ((channelOf t.loop c).latest.getD 0)
            (raiseRuns (fun r => (t.run.get r).state != (u.run.get r).state)
              { u with loop := t.loop, run := t.run })))
      ∧ (let old := channelOf u.loop c
         channelOf t.loop c =
           match reading u.settings.active c current with
           | none => { old with state := .failed, recovery := 0 }
           | some (zone, v) =>
             if old.state = .failed ∧ old.recovery < 2 then
               { old with latest := some v, recovery := old.recovery + 1 }
             else { state := zone, latest := some v, lastGood := some v, recovery := 0 })
      ∧ (∀ d, d ≠ c → channelOf t.loop d = channelOf u.loop d)
      ∧ (∀ r, c = .p r → u.fitted r = true → t.loop.converter = .converting (.t r) 25000)
      ∧ (∀ r k : RunId, c = .t r → u.fitted r = true → k.val = r.val + 1 → u.fitted k = true →
          t.loop.converter = .converting (.p k) 25000)
      ∧ (∀ r : RunId, c = .t r → u.fitted r = true → (u.settings.build.runs ≤ r.val + 1 ∨ r.val = 3) →
          t.loop.converter = .converting .hdr 25000)
      ∧ (c = .hdr → t.loop.converter = .converting .tank 25000)
      ∧ (c = .tank → u.time.phase = .running → t.loop.converter = .idle)
      ∧ (c = .tank → u.time.phase = .warmup → 0 < u.settings.build.runs →
          t.loop.converter = .converting (.p 0) 25000)

/-- A completion moves a METERING or DEGRADED run by its two channels, with a RUN notice; it moves no OUT or STARTING run,
and no other run (R39, R44, R51). -/
def Obligations.RunFollowsChannels : Prop :=
  ∀ (s u : State) (after current : Nat) (c : ChannelId) (r : RunId), s.elapse after = u → u.live = true →
    u.loop.converter = .converting c 0 → (c = .p r ∨ c = .t r) →
    ∃ t : State, exec (.conversionCompletion after current) s = .next t
      ∧ (let old := (u.run.get r).state
         let both := (t.loop.p.get r).usable = true ∧ (t.loop.t.get r).usable = true
         ((old = .metering ∨ old = .degraded) → both → (t.run.get r).state = .metering)
           ∧ ((old = .metering ∨ old = .degraded) → ¬ both → (t.run.get r).state = .degraded)
           ∧ ((old = .out ∨ old = .starting) → (t.run.get r).state = old)
           ∧ ((t.run.get r).state ≠ old → u.settings.active.station.enables.run = true →
               noticeGiven .run r.val u t = true))
      ∧ (∀ i, i ≠ r → t.run.get i = u.run.get i)

/-! ## Monitors -/

/-- R152: how an evaluation updates the three conditions of its monitor, in the critical sense of the monitor, and no other
monitor. -/
def Obligations.MonitorConditions : Prop :=
  ∀ (s : State) (m : Fin 16) (v : Nat), standing m s = .evaluated →
    (let t := evaluate m v s
     let c := s.settings.active.monitors.get m
     let old := s.monitors.each.get m
     let new := t.monitors.each.get m
     let lowCritical := m = 13 ∨ m = 15
     t = { s with monitors := t.monitors, link := t.link } ∧ t.monitors.limitLock = s.monitors.limitLock
       ∧ (∀ i, i ≠ m → t.monitors.each.get i = s.monitors.each.get i)
       ∧ new.last = some v
       ∧ (v < c.low → new.low = true)
       ∧ (c.low + c.hysteresis ≤ v → new.low = false)
       ∧ (c.low ≤ v → v < c.low + c.hysteresis → new.low = old.low)
       ∧ (c.high < v → new.high = true)
       ∧ (v + c.hysteresis ≤ c.high → new.high = false)
       ∧ (v ≤ c.high → c.high < v + c.hysteresis → new.high = old.high)
       ∧ (¬ lowCritical → c.critical < v → new.critical = true)
       ∧ (¬ lowCritical → v + c.hysteresis ≤ c.critical → new.critical = false)
       ∧ (¬ lowCritical → v ≤ c.critical → c.critical < v + c.hysteresis → new.critical = old.critical)
       ∧ (lowCritical → v < c.critical → new.critical = true)
       ∧ (lowCritical → c.critical + c.hysteresis ≤ v → new.critical = false)
       ∧ (lowCritical → c.critical ≤ v → v < c.critical + c.hysteresis → new.critical = old.critical))

/-- R34, R150, R151, R153, R154, R156, R161: the standing of a monitor is the first case of R151 that holds, and only an EVALUATED
one is evaluated; the latch and the event an evaluation leaves, its notices, and what passing the checks of R153
gives: a value that sets CRITICAL sets at once the condition beyond which it lies. -/
def Obligations.MonitorEvents : Prop :=
  (∀ (s : State) (m : Fin 16),
    ((s.settings.active.monitors.get m).enabled = false → standing m s = .disabled)
      ∧ ((s.settings.active.monitors.get m).enabled = true →
          (∀ r : RunId, OfRun m r →
            (s.fitted r = false → standing m s = .notFitted)
              ∧ (s.fitted r = true → (s.run.get r).state = .out → standing m s = .runOut))
          ∧ ((∀ r : RunId, OfRun m r → s.fitted r = true ∧ (s.run.get r).state ≠ .out) →
              (∀ c : ChannelId, Watches m c →
                ((channelOf s.loop c).state = .failed → standing m s = .inputFailed)
                  ∧ ((channelOf s.loop c).state ≠ .failed → standing m s = .evaluated))
                ∧ ((∀ c : ChannelId, ¬ Watches m c) → standing m s = .evaluated)))
      ∧ (standing m s ≠ .evaluated → ∀ v, evaluate m v s = s))
  ∧ ∀ (s : State) (m : Fin 16) (v : Nat), standing m s = .evaluated →
    (let t := evaluate m v s
     let c := s.settings.active.monitors.get m
     let old := s.monitors.each.get m
     let new := t.monitors.each.get m
     (c.mode = .follow → new.latch = false ∧ new.event = (new.low || new.high || new.critical))
       ∧ (c.mode = .latch → new.latch = (old.latch || new.low || new.high)
           ∧ new.event = (new.latch || new.critical))
       ∧ (c.mode = .criticalOnly → new.latch = false ∧ new.event = new.critical)
       ∧ (old.critical = false → new.critical = true →
           s.settings.active.station.enables.critical = true → noticeGiven .critical m.val s t = true)
       ∧ (old.event = false → new.event = true → new.critical = false →
           s.settings.active.station.enables.limit = true → noticeGiven .limit m.val s t = true)
       ∧ ((old.critical = true ∨ new.critical = false) →
           (old.event = true ∨ new.event = false ∨ new.critical = true) → t.link = s.link)
       ∧ (c.valid (lowSense m) = true → m ≠ 13 → m ≠ 15 → c.critical < v →
           new.critical = true ∧ new.high = true)
       ∧ (c.valid (lowSense m) = true → (m = 13 ∨ m = 15) → v < c.critical →
           new.critical = true ∧ new.low = true))

/-! ## Pumps and strokes -/

/-- SENSE_EDGE that confirms a stroke (R35, R85, R88, R92, R96, R105, R117): the CONFIRM entry is removed, the stroke counted,
the pump READY or its drive marked confirmed, and a DOSING notice raised; an automatic stroke draws down the account, with what
it did not hold as surplus, and the scheduling check is made; a manual stroke adds its mass to the manual mass; either outcome
hands the debt to M14. -/
def Obligations.SenseEdgeConfirms : Prop :=
  ∀ (s u : State) (after : Nat) (p : Side), s.elapse after = u → u.live = true →
    u.pumpIsFitted p = true → (u.sense.get p = none ∨ u.sense.get p = some 0) →
    ((u.pump.get p).state = .driving ∨ (u.pump.get p).state = .await) →
    u.table.any (isConfirmOf p) = true →
    ∃ t : State, exec (.senseEdge after p) s = .next t
      ∧ (let drawn := min u.dose.account u.dose.massInFlight
         let a := u.recorder.station
         let strokes := a.strokes.set p { a.strokes.get p with confirmed := (a.strokes.get p).confirmed + 1 }
         let proved : State := raise .dosing 0 { u with
           sense := u.sense.set p (some 5000)
           pump := u.pump.set p
             (if (u.pump.get p).state = .driving then
               { u.pump.get p with misses := 0, confirmedInDrive := true }
              else { u.pump.get p with misses := 0, state := .ready })
           table := u.table.drop (isConfirmOf p)
           recorder := { u.recorder with station := { a with strokes := strokes } } }
         (u.dose.state = .confirmWait →
             t = finish (schedulingCheck (evaluate 14
               ((u.dose.account - drawn) * 1000 / (u.odorant.debtLimit * u.odorant.strokeMass))
               { proved with
                 dose := { u.dose with account := u.dose.account - drawn, massInFlight := 0, state := .armed }
                 recorder := { u.recorder with station := { a with
                   strokes := strokes, autoDelivered := a.autoDelivered + drawn
                   surplus := a.surplus + (u.dose.massInFlight - drawn) } } })))
           ∧ (u.dose.state = .manualWait →
               t = finish (evaluate 14 (u.dose.account * 1000 / (u.odorant.debtLimit * u.odorant.strokeMass))
                 { proved with
                   dose := { u.dose with massInFlight := 0, state := .idle }
                   recorder := { u.recorder with station := { a with
                     strokes := strokes, manualMass := a.manualMass + u.dose.massInFlight } } }))
           ∧ (u.dose.state ≠ .confirmWait → u.dose.state ≠ .manualWait → t = finish proved))
      ∧ t.table.any (isConfirmOf p) = false
      ∧ (t.recorder.station.strokes.get p).confirmed = (u.recorder.station.strokes.get p).confirmed + 1
      ∧ (u.dose.state = .confirmWait →
          t.dose.account = u.dose.account - min u.dose.account u.dose.massInFlight
            ∧ t.recorder.station.autoDelivered
                = u.recorder.station.autoDelivered + min u.dose.account u.dose.massInFlight
            ∧ t.recorder.station.surplus
                = u.recorder.station.surplus
                    + (u.dose.massInFlight - min u.dose.account u.dose.massInFlight)
            ∧ (t.dose.state = .armed ∧ t.dose.massInFlight = 0
                ∨ t.dose.state = .strokeWait ∧ t.dose.massInFlight = u.odorant.strokeMass))
      ∧ (u.dose.state = .manualWait →
          t.dose = { u.dose with massInFlight := 0, state := .idle }
            ∧ t.recorder.station.manualMass = u.recorder.station.manualMass + u.dose.massInFlight)
      ∧ (u.settings.active.station.enables.dosing = true → noticeGiven .dosing 0 u t = true)

/-- SENSE_EDGE that is stray (R85, R91, R108, R110, R111, R112, R117): counted with a DOSING notice, and at the stray limit the
pump fails; duty passes to the other pump when it is READY, a waiting stroke is withdrawn and the scheduling check is made, or
else FAULT is entered. -/
def Obligations.SenseEdgeStray : Prop :=
  ∀ (s u : State) (after : Nat) (p : Side), s.elapse after = u → u.live = true →
    u.pumpIsFitted p = true → (u.sense.get p = none ∨ u.sense.get p = some 0) →
    ((u.pump.get p).state = .ready ∨ (u.pump.get p).state = .failed
      ∨ (u.pump.get p).state = .driving ∧ u.table.any (isConfirmOf p) = false) →
    ∃ t : State, exec (.senseEdge after p) s = .next t
      ∧ t = finish (raise .dosing 0 { u with
          sense := u.sense.set p (some 5000), pump := t.pump, table := t.table, dose := t.dose
          recorder := { u.recorder with station := { u.recorder.station with
            strokes := u.recorder.station.strokes.set p
              { u.recorder.station.strokes.get p with stray := (u.recorder.station.strokes.get p).stray + 1 }
            changeovers := t.recorder.station.changeovers } } })
      ∧ t.dose.account = u.dose.account ∧ t.pump.get p.other = u.pump.get p.other
      ∧ (t.recorder.station.strokes.get p).stray = (u.recorder.station.strokes.get p).stray + 1
      ∧ ((u.pump.get p).state = .failed → t.pump = u.pump ∧ t.dose = u.dose ∧ t.table = u.table
          ∧ t.recorder.station.changeovers = u.recorder.station.changeovers)
      ∧ ((u.pump.get p).state ≠ .failed → (u.pump.get p).strays + 1 < u.odorant.strayLimit →
          t.pump.get p = { u.pump.get p with strays := (u.pump.get p).strays + 1 }
            ∧ t.dose = u.dose ∧ t.table = u.table
            ∧ t.recorder.station.changeovers = u.recorder.station.changeovers)
      ∧ ((u.pump.get p).state ≠ .failed → u.odorant.strayLimit ≤ (u.pump.get p).strays + 1 →
          t.pump.get p = { u.pump.get p with strays := (u.pump.get p).strays + 1, state := .failed }
            ∧ (u.dose.duty = p → (u.pump.get p.other).state = .ready →
                t.dose.duty = p.other
                  ∧ t.recorder.station.changeovers = u.recorder.station.changeovers + 1
                  ∧ (u.dose.mode = .auto → u.dose.state ≠ .confirmWait →
                      (let w : State := { u with
                         pump := t.pump
                         table := if u.dose.state = .strokeWait then u.table.drop isStroke else u.table
                         dose := { u.dose with
                           duty := p.other, state := .armed
                           massInFlight := if u.dose.state = .strokeWait then 0 else u.dose.massInFlight } }
                       t.dose = (schedulingCheck w).dose ∧ t.table = (schedulingCheck w).table))
                  ∧ ((u.dose.mode ≠ .auto ∨ u.dose.state = .confirmWait) →
                      t.dose = { u.dose with duty := p.other } ∧ t.table = u.table))
            ∧ (u.dose.duty = p → (u.pump.get p.other).state ≠ .ready →
                t.dose.duty = p
                  ∧ t.recorder.station.changeovers = u.recorder.station.changeovers
                  ∧ (u.dose.mode = .auto → u.dose.state ≠ .confirmWait → t.dose.state = .fault
                      ∧ t.table = (if u.dose.state = .strokeWait then u.table.drop isStroke else u.table)
                      ∧ t.dose.massInFlight = (if u.dose.state = .strokeWait then 0 else u.dose.massInFlight))
                  ∧ ((u.dose.mode ≠ .auto ∨ u.dose.state = .confirmWait) → t.dose = u.dose ∧ t.table = u.table))
            ∧ (u.dose.duty ≠ p → t.dose = u.dose ∧ t.table = u.table
                ∧ t.recorder.station.changeovers = u.recorder.station.changeovers))
      ∧ (u.settings.active.station.enables.dosing = true → noticeGiven .dosing 0 u t = true)

/-- DRIVE_END (R85, R90, R91, R96, R103): the line goes off; a DRIVING pump not yet confirmed goes to AWAIT, a confirmed one becomes
READY, may take the duty, ends FAULT with a DOSING notice and has the scheduling check made, and any other, such as a FAILED one,
stays as it is. -/
def Obligations.DriveEnds : Prop :=
  ∀ (s u : State) (after : Nat) (p : Side) (d : Time), s.elapse after = u → u.live = true →
    (u.pump.get p).driveEnd = some d → reached d u.now = true →
    ∃ w : State, exec (.driveEnd after p) s = .next (finish w) ∧ DriveOver p u w
      ∧ ((u.pump.get p).state = .driving → (u.pump.get p).confirmedInDrive = true →
          (w.pump.get p).state = .ready ∧ w.dose.state ≠ .fault ∧ w.dose.account = u.dose.account
            ∧ (u.dose.duty ≠ p → (u.pump.get p.other).state ≠ .ready → u.dose.state ≠ .confirmWait →
                w.dose.duty = p))

/-- STROKE_ENTRY_DUE with its pump READY (R86, R87, R102, R104, R127, R131): the entry leaves the table; a drive of the other pump
whose end has been reached is ended first; the drive starts now with its line on and its end at the drive width, the CONFIRM entry
is placed at the confirm window, and the dosing state is CONFIRM_WAIT. With its pump not READY the entry only leaves the table (log
entry 23). -/
def Obligations.StrokeEntryStartsDrive : Prop :=
  ∀ (s u : State) (after : Nat) (id : Fin 8) (e : Entry) (p : Side), s.elapse after = u → u.live = true →
    u.table.at id.val = some e → e.owner = .dosing → e.kind = .stroke → reached e.due u.now = true →
    side? e.target = some p →
    (let freed : State := { u with table := { u.table with places := u.table.places.set id.val none } }
     let ended : Prop := ∃ d, (u.pump.get p.other).driveEnd = some d ∧ reached d u.now = true
     ((u.pump.get p).state = .ready →
       ∃ t w : State, exec (.strokeEntryDue after id) s = .next t
         ∧ (¬ ended → w = freed) ∧ (ended → DriveOver p.other freed w)
         ∧ t = finish { w with
             pump := w.pump.set p
               { u.pump.get p with
                 state := .driving, line := true, confirmedInDrive := false
                 driveEnd := some (u.now + BitVec.ofNat 32 u.odorant.driveWidth) }
             dose := { w.dose with state := .confirmWait, lastDrive := some u.now, recentDrive := true }
             table := t.table }
         ∧ t.table.aux = u.table.aux
         ∧ (∀ i, w.table.at i = none → i < w.table.places.length → (∀ j, j < i → w.table.at j ≠ none) →
             t.table.places = w.table.places.set i (some
               { owner := .dosing, kind := .confirm, target := e.target
                 due := u.now + BitVec.ofNat 32 u.odorant.confirmWindow }))
         ∧ (ended → (t.pump.get p.other).line = false ∧ (t.pump.get p.other).driveEnd = none)
         ∧ (¬ ended ∨ u.dose.state = .strokeWait →
             w.table = freed.table ∧ t.table.count isStroke + 1 = u.table.count isStroke
               ∧ t.table.count isLink = u.table.count isLink
               ∧ ∃ i, t.table.at i = some
                   { owner := .dosing, kind := .confirm, target := e.target
                     due := u.now + BitVec.ofNat 32 u.odorant.confirmWindow }))
       ∧ ((u.pump.get p).state ≠ .ready → ¬ ended →
           exec (.strokeEntryDue after id) s = .next (finish freed)))

/-- CONFIRM_ENTRY_DUE with its pump in AWAIT, or DRIVING with its drive's end reached, which is then ended first (log entry 20;
R85, R89, R92, R96, R103, R106, R108, R109, R112, R117): the entry leaves the table, the stroke is missed and counted with a
DOSING notice, and nothing is drawn from the account; at the miss limit the pump fails, and duty passes to the other pump when it
is READY, or else FAULT is entered; the debt goes to M14, and the scheduling check is made unless FAULT is entered (log entry 21
for M14 there). That an entry whose pump awaits no proof misses nothing and only leaves the table, the drive ended first where its end
has been reached, is the model's choice (log entry 35): R106 and R131 exclude the case. -/
def Obligations.ConfirmEntryMissesStroke : Prop :=
  ∀ (s u : State) (after : Nat) (id : Fin 8) (e : Entry) (p : Side), s.elapse after = u → u.live = true →
    u.table.at id.val = some e → e.kind = .confirm → reached e.due u.now = true → side? e.target = some p →
    (let ended := driveEnded p u
     ((u.pump.get p).state = .await ∨ (u.pump.get p).state = .driving ∧ (u.pump.get p).confirmedInDrive = false
        ∧ ended = true →
      ∃ t : State, exec (.confirmEntryDue after id) s = .next t
        ∧ (let freed : ActionTable := { u.table with places := u.table.places.set id.val none }
           let missed : State := raise .dosing 0 { u with
             pump := t.pump, table := t.table, dose := t.dose, recorder := t.recorder }
           let w : State := { u with
             pump := t.pump, table := freed
             dose := { u.dose with duty := t.dose.duty, massInFlight := 0, state := .armed } }
           let debt := u.dose.account * 1000 / (u.odorant.debtLimit * u.odorant.strokeMass)
           (if u.dose.state = .confirmWait ∨ u.dose.state = .manualWait then t = finish (evaluate 14 debt missed)
            else t = finish missed)
             ∧ (u.dose.state = .confirmWait →
                 if t.dose.duty = p ∧ (t.pump.get p).state = .failed then
                   t.dose = { w.dose with state := .fault } ∧ t.table = freed
                 else t.dose = (schedulingCheck w).dose ∧ t.table = (schedulingCheck w).table)
             ∧ (u.dose.state = .manualWait →
                 t.dose = { u.dose with duty := t.dose.duty, massInFlight := 0, state := .idle } ∧ t.table = freed)
             ∧ (u.dose.state ≠ .confirmWait → u.dose.state ≠ .manualWait →
                 t.dose = { u.dose with duty := t.dose.duty } ∧ t.table = freed))
        ∧ t.dose.account = u.dose.account ∧ t.pump.get p.other = u.pump.get p.other
        ∧ t.table.count isConfirm + 1 = u.table.count isConfirm
        ∧ (t.recorder.station.strokes.get p).missed = (u.recorder.station.strokes.get p).missed + 1
        ∧ t.recorder.station.autoDelivered = u.recorder.station.autoDelivered
        ∧ t.pump.get p = { u.pump.get p with
              line := (u.pump.get p).line && !ended
              driveEnd := if ended = true then none else (u.pump.get p).driveEnd
              confirmedInDrive := (u.pump.get p).confirmedInDrive && !ended
              misses := (u.pump.get p).misses + 1
              state := if u.odorant.missLimit ≤ (u.pump.get p).misses + 1 then .failed else .ready }
        ∧ ((u.pump.get p).misses + 1 < u.odorant.missLimit →
            (t.pump.get p).state = .ready ∧ t.dose.duty = u.dose.duty
              ∧ (u.dose.state = .confirmWait → t.dose.state = .armed ∨ t.dose.state = .strokeWait))
        ∧ (u.odorant.missLimit ≤ (u.pump.get p).misses + 1 →
            (t.pump.get p).state = .failed
              ∧ (u.dose.duty = p → (u.pump.get p.other).state = .ready →
                  t.dose.duty = p.other
                    ∧ t.recorder.station.changeovers = u.recorder.station.changeovers + 1
                    ∧ (u.dose.state = .confirmWait → t.dose.state = .armed ∨ t.dose.state = .strokeWait))
              ∧ (u.dose.duty = p → (u.pump.get p.other).state ≠ .ready →
                  t.dose.duty = p ∧ (u.dose.state = .confirmWait → t.dose.state = .fault)))
        ∧ (u.dose.state = .manualWait →
            t.dose.state = .idle ∧ t.dose.massInFlight = 0
              ∧ t.recorder.station.manualMisses = u.recorder.station.manualMisses + 1)
        ∧ (u.settings.active.station.enables.dosing = true → noticeGiven .dosing 0 u t = true))
      ∧ ((u.pump.get p).state ≠ .await → ended = false →
          exec (.confirmEntryDue after id) s = .next (finish { u with
            table := { u.table with places := u.table.places.set id.val none } }))
      ∧ ((u.pump.get p).state ≠ .await → ended = true →
          ((u.pump.get p).state = .driving → (u.pump.get p).confirmedInDrive = true) →
          ∃ w : State, exec (.confirmEntryDue after id) s = .next (finish w)
            ∧ DriveOver p { u with table := { u.table with places := u.table.places.set id.val none } } w))

/-! ## The action table -/

/-- AUX_ON_ENTRY_DUE, AUX_OFF_ENTRY_DUE and TIMER_NOTICE_ENTRY_DUE (R127, R128, R130): the entry leaves the table and acts. -/
def Obligations.AuxAndTimerEntries : Prop :=
  ∀ (s u : State) (after : Nat) (id : Fin 8) (e : Entry), s.elapse after = u → u.live = true →
    u.table.at id.val = some e → reached e.due u.now = true →
    (∀ line : Side, e.kind = .auxOn → aux? e.target = some line →
      exec (.auxOnEntryDue after id) s = .next (finish { u with
        table := { places := u.table.places.set id.val none, aux := u.table.aux.set line true } }))
      ∧ (∀ line : Side, e.kind = .auxOff → aux? e.target = some line →
          exec (.auxOffEntryDue after id) s = .next (finish { u with
            table := { places := u.table.places.set id.val none, aux := u.table.aux.set line false } }))
      ∧ (e.kind = .timerNotice →
          ∃ t : State, exec (.timerNoticeEntryDue after id) s = .next t
            ∧ t = finish (raise .timer e.target { u with
                table := { u.table with places := u.table.places.set id.val none } })
            ∧ (u.settings.active.station.enables.timer = true → noticeGiven .timer e.target u t = true))

/-- SCHEDULE and CANCEL by the station host (R122, R124, R125, R184): a valid entry takes the lowest id free, with its due time
now plus the delay; a LINK entry named by CANCEL leaves the table, its action not carried out, and is returned in the reply.
SCHEDULE of another kind, target or delay is refused with BAD_VALUE and at six LINK entries with TABLE_FULL; CANCEL of an id that
no entry has with NOT_FOUND, of a DOSING entry with NO_SUBJECT, and of an id above 7 with BAD_VALUE. -/
def Obligations.ScheduleAndCancel : Prop :=
  ∀ (s u : State) (after : Nat) (tag : Byte), s.elapse after = u → u.takes = true →
    (∀ (k : EntryKind) (target delay : Nat), linkTarget k target = true → 1 ≤ delay → delay ≤ 86400000 →
      u.table.count isLink < 6 → u.table.places.length = 8 → u.table.count (fun _ => true) < 8 →
      ∃ id : Nat, id < 8 ∧ u.table.at id = none ∧ (∀ j, j < id → u.table.at j ≠ none)
        ∧ exec (.schedule after tag (bytesLE 1 k.code ++ bytesLE 1 target ++ bytesLE 4 delay)) s = .next
            (answered (okReply 0x1A#8 tag (bytesLE 1 id ++ bytesLE 4 (u.now + BitVec.ofNat 32 delay).toNat))
              { u with table := { u.table with places := u.table.places.set id (some
                  { owner := .link, kind := k, target := target, due := u.now + BitVec.ofNat 32 delay }) } }))
      ∧ (∀ k target delay : Nat, k ≤ 255 → target ≤ 255 → delay ≤ 4294967295 →
          (let valid := ((k = 2 ∨ k = 3) ∧ (target = 1 ∨ target = 2) ∨ k = 4 ∧ target = 0 ∨ k = 5)
             ∧ 1 ≤ delay ∧ delay ≤ 86400000
           let c := Instr.schedule after tag (bytesLE 1 k ++ bytesLE 1 target ++ bytesLE 4 delay)
           (¬ valid → RequestRefused s u c 0x1A#8 tag .badValue)
             ∧ (valid → 6 ≤ u.table.count isLink → RequestRefused s u c 0x1A#8 tag .tableFull)))
      ∧ (∀ (id : Fin 8) (e : Entry), u.table.at id.val = some e → e.owner = .link →
          exec (.cancel after tag [byteOf id.val]) s = .next
            (answered (okReply 0x1B#8 tag
                (bytesLE 1 e.kind.code ++ bytesLE 1 e.target ++ bytesLE 4 e.due.toNat))
              { u with table := { u.table with places := u.table.places.set id.val none } }))
      ∧ (∀ id : Fin 8, u.table.at id.val = none →
          RequestRefused s u (.cancel after tag [byteOf id.val]) 0x1B#8 tag .notFound)
      ∧ (∀ (id : Fin 8) (e : Entry), u.table.at id.val = some e → e.owner = .dosing →
          RequestRefused s u (.cancel after tag [byteOf id.val]) 0x1B#8 tag .noSubject)
      ∧ (∀ id : Nat, 8 ≤ id → id ≤ 255 →
          RequestRefused s u (.cancel after tag [byteOf id]) 0x1B#8 tag .badValue)

/-! ## The store -/

/-- STORE_WRITE_COMPLETE (R146, R163, R172): the stored copy of the item, of a section too, is valid with the content written and
every other stored copy stays as it was; its marks are cleared unless the item was added again meanwhile, and the next write
starts at once (log entry 10) with the content of memory as it stands. -/
def Obligations.StoreWriteCompletes : Prop :=
  ∀ (s u : State) (after : Nat) (w : StoreWrite), s.elapse after = u → u.time.phase ≠ .off →
    u.store.writing = some w → w.left = 0 →
    ∃ t : State, exec (.storeWriteComplete after) s = .next t
      ∧ t = finish { u with
          recorder := t.recorder, settings := t.settings
          store := { u.store with
            sections := t.store.sections, flags := t.store.flags, ring := t.store.ring, resume := t.store.resume
            writing := none } }
      ∧ CopyWritten w.content t.store ∧ OtherCopiesKept w.content.item u.store t.store
      ∧ (∀ r, w.content = .resume r → t.store.resume = .valid r ∧ t.recorder = u.recorder
          ∧ t.settings = u.settings)
      ∧ (∀ ring q, w.content = .ring ring q → t.store.ring = .valid ring ∧ t.settings = u.settings
          ∧ t.recorder = { u.recorder with storedThrough := q })
      ∧ (∀ f, w.content = .flags f → t.store.flags = .valid f ∧ t.recorder = u.recorder
          ∧ t.settings = (if w.stale then u.settings else { u.settings with flagsUnstored := false }))
      ∧ (∀ i, w.content.item = .sectionCopy i → t.recorder = u.recorder
          ∧ t.settings = (if w.stale then u.settings
              else { u.settings with unstored := u.settings.unstored.set i false }))
      ∧ (u.live = true → u.store.warningResume = false → ∀ i, u.store.list.first? = some i →
          WriteStarted i t t ∧ t.store.list = u.store.list.unmark i)
      ∧ (u.store.warningResume = false → u.store.list.first? = none → t.store.writing = none)
      ∧ (u.store.warningResume = true → WriteStarted .resume t t ∧ t.store.warningResume = false)

/-! ## The link's line -/

/-- RECEIVE_TIMEOUT, FRAME_CHECK_FAIL and STOP_BIT_ERROR (R180): bytes that complete no request leave no reply and change
nothing; the receiver is in HUNT. A timeout needs a gap of more than 20 ms: after 20 ms or less nothing happens. A byte that ends a
gap of more than 20 ms is taken in HUNT, and one that ends a shorter gap, 20 ms included, in the state the receiver has. The bytes
a fault brings, each with the gap before it, are the model's form of it (log entry 17). -/
def Obligations.ReceptionFaultsDropFrame : Prop :=
  (∀ (s u : State) (after gap : Nat) (bytes : List LineByte), s.elapse after = u → u.live = true →
    u.link.receiver = huntReceiver → noRequest bytes = true →
    (20000 < gap → exec (.receiveTimeout after ⟨bytes, gap⟩) s = .next (finish u))
      ∧ (gap ≤ 20000 → exec (.receiveTimeout after ⟨bytes, gap⟩) s = .next u)
      ∧ exec (.frameCheckFail after bytes) s = .next (finish u)
      ∧ exec (.stopBitError after bytes) s = .next (finish u)
      ∧ finish u = { u with store := (finish u).store, link := (finish u).link }
      ∧ (finish u).link.receiver = huntReceiver)
    ∧ (∀ (r : Receiver) (before : List LineByte) (x : LineByte) (rest : List LineByte),
      (20000 < x.gap → takeBytes r (before ++ x :: rest) =
          ((takeBytes huntReceiver (x :: rest)).1,
            (takeBytes r before).2 ++ (takeBytes huntReceiver (x :: rest)).2))
        ∧ (x.gap ≤ 20000 →
            takeBytes r (x :: rest) =
              ((takeBytes (takeByte r x.byte).1 rest).1,
                (takeByte r x.byte).2.toList ++ (takeBytes (takeByte r x.byte).1 rest).2)))

/-- FRAME_SENT (R176, R182, R187, R188): the transmitter takes the oldest reply, or else the first pending pair, whose notice is
built from its subject as it stands, field by field; once the reply to RESTART has been sent in full the restart is due (log
entry 14). -/
def Obligations.FrameSentServesNext : Prop :=
  ∀ (s u : State) (after : Nat) (x : Sending), s.elapse after = u → u.live = true →
    u.link.tx = some x → x.left = 0 →
    ∃ t : State, exec (.frameSent after) s = .next t
      ∧ (let answered := u.time.restartPending = true ∧ x.frame.kind = 0xAF#8 ∧ x.frame.payload = [0x00#8]
         (¬ answered → u.time.restartDue = false →
           t = finish { u with link := { u.link with tx := none } }
             ∧ (∀ f rest, u.link.queue = f :: rest →
                 t.link = { u.link with queue := rest, tx := some (sending f) })
             ∧ (∀ n rest, u.link.queue = [] → u.link.notices = n :: rest →
                 t.link = { u.link with notices := rest, tx := t.link.tx }
                   ∧ ∃ y, t.link.tx = some y ∧ y.frame.kind = byteOf (0xE0 + n.cls.code) ∧ y.frame.tag = 0
                       ∧ (let payload := y.frame.payload
                          let time := bytesLE 4 u.now.toNat
                          (∀ m : Fin 16, (n.cls = .critical ∨ n.cls = .limit) → n.subject = m.val →
                              payload = bytesLE 1 m.val ++ bytesLE 1 (u.monitors.each.get m).conditionByte
                                ++ bytesLE 4 ((u.monitors.each.get m).last.getD 0) ++ time)
                            ∧ (n.cls = .dosing →
                                payload = bytesLE 1 u.dose.mode.code ++ bytesLE 1 u.dose.state.code
                                  ++ bytesLE 4 u.dose.account ++ bytesLE 2 u.dose.trim
                                  ++ bytesLE 1 (Side.code u.dose.duty) ++ bytesLE 1 u.pump.a.state.code
                                  ++ bytesLE 1 u.pump.b.state.code ++ time)
                            ∧ (∀ r : RunId, n.cls = .run → n.subject = r.val →
                                payload = bytesLE 1 r.val ++ bytesLE 1 (u.run.get r).state.code
                                  ++ bytesLE 2 (u.run.get r).settle ++ bytesLE 1 (u.pulse.get r).integrityByte
                                  ++ time)
                            ∧ (∀ x older, n.cls = .period → u.recorder.ring = x :: older →
                                payload = bytesLE 4 x.sequence.toNat ++ bytesLE 1 x.cause.code
                                  ++ bytesLE 2 x.intervals ++ bytesLE 4 x.duration
                                  ++ bytesLE 1 u.recorder.ring.length ++ time)
                            ∧ (n.cls = .timer → payload = bytesLE 1 n.subject ++ time)))
             ∧ (u.link.queue = [] → u.link.notices = [] → t.link = { u.link with tx := none }))
           ∧ (answered →
               t = finish { u with
                   time := { u.time with restartPending := false, restartDue := true }
                   link := { u.link with tx := none } }
                 ∧ t.link = { u.link with tx := none }))

/-! ## Requests of the station link -/

/-- R174: in WARMUP a known request other than IDENT and STATION_STATUS is refused with WARMING, whatever its payload, and
changes nothing; those two are answered in WARMUP as at any time. PROTECT_CLEAR and STATION_STATUS carry the custody level they
find, which the model holds (log entry 16). -/
def Obligations.WarmingRefused : Prop :=
  (∀ (s u : State) (c : Instr) (kind tag : Byte) (payload : List Byte), c.wf = true →
    c.frame? = some ⟨kind, tag, payload⟩ → kind.toNat ∈ requestKinds → kind ≠ 0x01#8 → kind ≠ 0x02#8 →
    s.elapse c.after = u → u.time.phase = .warmup → u.link.queue.length < 4 →
    RequestRefused s u c kind tag .warming)
    ∧ (∀ (s u : State) (after : Nat) (tag : Byte) (level : SwitchLevel), s.elapse after = u →
        u.live = true → u.link.queue.length < 4 →
        (∃ d, ReportGiven s u (.ident after tag []) 0x01#8 tag d)
          ∧ (∃ d, ReportGiven s u (.stationStatus after tag [] level) 0x02#8 tag d))

/-- R181: a request of an unknown kind is answered UNKNOWN_KIND with kind 0xFF at any time, and changes nothing; a request that
finds 4 replies waiting is discarded without reply, and nothing of it is carried out; in HALT and with power off no request is
taken (R17). The custody level that STATION_STATUS and PROTECT_CLEAR carry stands in the pins even then (log entry 16). -/
def Obligations.UnknownAndDiscarded : Prop :=
  (∀ (s u : State) (after : Nat) (kind tag : Byte) (payload : List Byte), kind.toNat ∉ requestKinds →
    s.elapse after = u → u.live = true → u.link.queue.length < 4 →
    exec (.unknownKindRequest after kind tag payload) s = .next
      (answered { kind := 0xFF#8, tag := tag, payload := [0x01#8] } u))
    ∧ (∀ (s u : State) (c : Instr) (f : Frame), c.frame? = some f → s.elapse c.after = u →
      (u.live = true → 4 ≤ u.link.queue.length →
        exec c s = .next { u with pins := u.pins.found c.custody?
                                  link := { u.link with receiver := huntReceiver } })
        ∧ (u.live = false → exec c s = .next { u with pins := u.pins.found c.custody? }))

/-- The refusals by form (R40, R83, R113, R115, R155, R165, R167, R170, R174, R183): a payload of another length than the kind's
is refused with BAD_LENGTH, a code that names nothing with BAD_VALUE, and a run that is not fitted with NO_SUBJECT, each
changing nothing. BAD_LENGTH for IDENT, STATION_STATUS, RUN_STATUS and
PERIOD_CLOSE, which no chapter's order of checks gives (R14, R55), is the model's choice: log entry 36. The custody level
PROTECT_CLEAR and STATION_STATUS carry is log entry 16. -/
def Obligations.FormRefused : Prop :=
  (∀ (s u : State) (c : Instr) (kind tag : Byte) (payload : List Byte) (n : Nat), c.wf = true →
    c.frame? = some ⟨kind, tag, payload⟩ → fixedLength kind.toNat = some n → payload.length ≠ n →
    s.elapse c.after = u → u.link.queue.length < 4 →
    (u.time.phase = .running ∨ u.time.phase = .warmup ∧ (kind = 0x01#8 ∨ kind = 0x02#8)) →
    RequestRefused s u c kind tag .badLength)
    ∧ (∀ (s u : State) (after : Nat) (tag : Byte) (code : Nat), s.elapse after = u → u.takes = true → code ≤ 255 →
      (4 ≤ code →
        RequestRefused s u (.runStatus after tag [byteOf code]) 0x03#8 tag .badValue
          ∧ RequestRefused s u (.runOpen after tag [byteOf code]) 0x10#8 tag .badValue
          ∧ RequestRefused s u (.runClose after tag [byteOf code]) 0x11#8 tag .badValue)
        ∧ (3 ≤ code → RequestRefused s u (.doseMode after tag [byteOf code]) 0x15#8 tag .badValue)
        ∧ (2 ≤ code →
          RequestRefused s u (.manualStroke after tag [byteOf code]) 0x16#8 tag .badValue
            ∧ RequestRefused s u (.pumpReset after tag [byteOf code]) 0x17#8 tag .badValue)
        ∧ (16 ≤ code → RequestRefused s u (.eventClear after tag [byteOf code]) 0x18#8 tag .badValue)
        ∧ (8 ≤ code → RequestRefused s u (.sectionProtect after tag [byteOf code]) 0x21#8 tag .badValue)
        ∧ (8 ≤ code → ∀ rest : List Byte,
          RequestRefused s u (.sectionRead after tag (byteOf code :: rest)) 0x08#8 tag .badValue
            ∧ RequestRefused s u (.sectionWrite after tag (byteOf code :: rest)) 0x20#8 tag .badValue)
        ∧ RequestRefused s u (.sectionRead after tag []) 0x08#8 tag .badLength
        ∧ RequestRefused s u (.sectionWrite after tag []) 0x20#8 tag .badLength
        ∧ (∀ r : RunId, u.fitted r = false →
          RequestRefused s u (.runStatus after tag [byteOf r.val]) 0x03#8 tag .noSubject))

/-- IDENT, STATION_STATUS, MONITOR_STATUS and TABLE_READ (R36, R38, R133, R158, R161, R183, R189): the reply data, field by
field, with the level of the ALARM line, which is on in WARMUP and RUNNING while a monitor's event is asserted, the dosing
state is FAULT or a pump is FAILED, and nothing changed but the custody level found (log entry 16). -/
def Obligations.StationReports : Prop :=
  (∀ u : State, u.alarm = true ↔
    u.live = true ∧ ((∃ m : Fin 16, (u.monitors.each.get m).event = true) ∨ u.dose.state = .fault
      ∨ ∃ p : Side, (u.pump.get p).state = .failed))
  ∧ ∀ (s u : State) (after : Nat) (tag : Byte), s.elapse after = u → u.link.queue.length < 4 →
    (u.live = true → ∃ d, ReportGiven s u (.ident after tag []) 0x01#8 tag d ∧ d.length = 7
      ∧ carries d 0 2 4410 ∧ d[2]? = some Config.designRevision ∧ carries d 3 1 u.settings.build.runs
      ∧ carries d 4 1 u.settings.build.pumps ∧ carries d 5 1 u.settings.build.rate.code
      ∧ carries d 6 1 u.time.phase.code)
    ∧ (∀ level : SwitchLevel, u.live = true →
      ∃ d, ReportGiven s u (.stationStatus after tag [] level) 0x02#8 tag d ∧ d.length = 50
        ∧ carries d 0 1 u.time.phase.code ∧ carries d 1 4 u.now.toNat
        ∧ carries d 5 4 u.time.intervalIndex.toNat ∧ carries d 9 2 u.time.periodCount
        ∧ (∀ f, u.conv.station = some f →
            carries d 11 1 (packBits [true, decide (4294967295 < f.base), decide (65535 < f.rate / 1000),
                u.recorder.lastSequence.isSome])
              ∧ carries d 12 4 (min f.base 4294967295) ∧ carries d 16 2 (min (f.rate / 1000) 65535))
        ∧ (u.conv.station = none →
            carries d 11 1 (packBits [false, false, false, u.recorder.lastSequence.isSome]) ∧ carries d 12 6 0)
        ∧ carries d 18 2 u.settings.heatingValue
        ∧ carries d 20 2 (u.settings.stagedHeatingValue.getD 0)
        ∧ carries d 22 1 u.loop.hdr.statusByte ∧ carries d 23 4 (u.loop.hdr.latest.getD 0)
        ∧ carries d 27 4 (u.loop.hdr.lastGood.getD 0)
        ∧ carries d 31 1 u.loop.tank.statusByte ∧ carries d 32 4 (u.loop.tank.latest.getD 0)
        ∧ carries d 36 4 (u.loop.tank.lastGood.getD 0)
        ∧ carries d 40 1 (packBits [u.pump.a.line, u.pump.b.line, u.table.aux.a, u.table.aux.b, u.alarm])
        ∧ carries d 41 1 (if level = .closed then 1 else 0)
        ∧ carries d 42 1 u.settings.build.runs ∧ carries d 43 1 u.settings.build.pumps
        ∧ carries d 44 1 u.settings.build.rate.code
        ∧ carries d 45 4 ((u.recorder.lastSequence.map (·.toNat)).getD 0)
        ∧ carries d 49 1 u.recorder.ring.length)
    ∧ (u.time.phase = .running → ∃ d, ReportGiven s u (.monitorStatus after tag []) 0x05#8 tag d ∧ d.length = 114
        ∧ (∀ m : Fin 16,
            carries d (7 * m.val) 1 (u.settings.active.monitors.get m).byte
              ∧ carries d (7 * m.val + 1) 1 (u.monitors.each.get m).conditionByte
              ∧ carries d (7 * m.val + 2) 1 (standing m u).code
              ∧ carries d (7 * m.val + 3) 4 ((u.monitors.each.get m).last.getD 0))
        ∧ carries d 112 1 (boolCode u.monitors.limitLock) ∧ carries d 113 1 (boolCode u.alarm))
    ∧ (u.time.phase = .running → ∃ d, ReportGiven s u (.tableRead after tag []) 0x07#8 tag d
        ∧ d.length = 5 + 12 * u.table.count (fun _ => true)
        ∧ carries d 0 4 u.now.toNat ∧ carries d 4 1 (u.table.count fun _ => true)
        ∧ (∀ id e, u.table.at id = some e →
            (d.drop (5 + 12 * (u.table.places.take id).countP Option.isSome)).take 12
              = bytesLE 1 id ++ bytesLE 1 e.owner.code ++ bytesLE 1 e.kind.code ++ bytesLE 1 e.target
                  ++ bytesLE 4 e.due.toNat
                  ++ bytesLE 4 (if reached e.due u.now = true then 0 else (e.due - u.now).toNat)))

/-- RUN_STATUS and DOSE_STATUS (R55, R75, R97, R189): the reply data, field by field, and nothing changed. That a
substitute NONE shows the value 0 is log entry 19. -/
def Obligations.RunAndDoseReports : Prop :=
  ∀ (s u : State) (after : Nat) (tag : Byte), s.elapse after = u → u.takes = true →
    (∀ r : RunId, u.fitted r = true →
      ∃ d, ReportGiven s u (.runStatus after tag [byteOf r.val]) 0x03#8 tag d ∧ d.length = 109
        ∧ carries d 0 1 r.val ∧ carries d 1 1 (u.run.get r).state.code ∧ carries d 2 2 (u.run.get r).settle
        ∧ carries d 5 1 (u.loop.p.get r).statusByte ∧ carries d 6 4 ((u.loop.p.get r).latest.getD 0)
        ∧ carries d 10 4 ((u.loop.p.get r).lastGood.getD 0)
        ∧ carries d 14 1 (u.loop.t.get r).statusByte ∧ carries d 15 2 ((u.loop.t.get r).latest.getD 0)
        ∧ carries d 17 2 ((u.loop.t.get r).lastGood.getD 0)
        ∧ carries d 19 1 (u.run.get r).pSubstitute.kind.code
        ∧ carries d 20 4 ((u.run.get r).pSubstitute.value.getD 0)
        ∧ carries d 24 1 (u.run.get r).tSubstitute.kind.code
        ∧ carries d 25 2 ((u.run.get r).tSubstitute.value.getD 0)
        ∧ (∀ f, (u.run.get r).last = some f →
            carries d 27 1 f.state.code ∧ carries d 28 4 f.pUsed ∧ carries d 32 2 f.tUsed
              ∧ carries d 34 2 (min (f.rate / 1000) 65535) ∧ carries d 36 2 f.flags.toNat)
        ∧ ((u.run.get r).last = none → carries d 27 11 0)
        ∧ (∀ x, u.conv.last.get r = some x →
            carries d 38 4 (min x.gross 4294967295) ∧ carries d 42 4 (min x.base 4294967295)
              ∧ carries d 46 4 (min x.energy 4294967295) ∧ carries d 50 4 x.ratio)
        ∧ (u.conv.last.get r = none → carries d 38 16 0)
        ∧ (∀ f x, (u.run.get r).last = some f → u.conv.last.get r = some x →
            carries d 4 1 (packBits [true, true, decide (65535 < f.rate / 1000),
              decide (4294967295 < x.gross), decide (4294967295 < x.base), decide (4294967295 < x.energy)]))
        ∧ (∀ f, (u.run.get r).last = some f → u.conv.last.get r = none →
            carries d 4 1 (packBits [true, false, decide (65535 < f.rate / 1000)]))
        ∧ (∀ x, (u.run.get r).last = none → u.conv.last.get r = some x →
            carries d 4 1 (packBits [false, true, false, decide (4294967295 < x.gross),
              decide (4294967295 < x.base), decide (4294967295 < x.energy)]))
        ∧ ((u.run.get r).last = none → u.conv.last.get r = none → carries d 4 1 0)
        ∧ carries d 54 4 (u.conv.residue.get r)
        ∧ carries d 58 8 (u.recorder.totals.get r).gross
        ∧ carries d 66 2 (u.recorder.totals.get r).grossResidue
        ∧ carries d 68 8 (u.recorder.totals.get r).base
        ∧ carries d 76 2 (u.recorder.totals.get r).baseResidue
        ∧ carries d 78 8 (u.recorder.totals.get r).energy
        ∧ carries d 86 4 (u.recorder.totals.get r).energyResidue
        ∧ carries d 90 4 (u.pulse.get r).lastCount.a ∧ carries d 94 4 (u.pulse.get r).lastCount.b
        ∧ carries d 98 1 (Side.code (u.pulse.get r).lastChannel)
        ∧ carries d 99 1 (u.pulse.get r).integrityByte ∧ carries d 100 1 (u.pulse.get r).consecutiveClean
        ∧ carries d 101 4 (u.pulse.get r).maintenance.toNat ∧ carries d 105 4 u.now.toNat)
      ∧ (∃ d, ReportGiven s u (.doseStatus after tag []) 0x04#8 tag d ∧ d.length = 102
        ∧ carries d 0 1 (packBits [u.dose.trimHoldOff.isSome, u.dose.lastReading.isSome,
            u.dose.lastDrive.isSome])
        ∧ carries d 1 1 u.dose.mode.code ∧ carries d 2 1 u.dose.state.code ∧ carries d 3 8 u.dose.account
        ∧ carries d 11 8 (u.odorant.debtLimit * u.odorant.strokeMass) ∧ carries d 19 4 u.dose.residue
        ∧ carries d 23 2 u.dose.trim
        ∧ (∀ e, u.dose.trimHoldOff = some e →
            carries d 25 4 (if reached e u.now = true then 0 else (e - u.now).toNat))
        ∧ (u.dose.trimHoldOff = none → carries d 25 4 0)
        ∧ (∀ m flag, u.dose.lastReading = some (m, flag) → carries d 29 2 m ∧ carries d 31 1 flag.code)
        ∧ (u.dose.lastReading = none → carries d 29 3 0)
        ∧ carries d 32 1 (Side.code u.dose.duty)
        ∧ carries d 33 4 ((u.dose.lastDrive.map (·.toNat)).getD 0)
        ∧ carries d 37 1 (boolCode u.dose.recentDrive) ∧ carries d 38 8 u.dose.massInFlight
        ∧ (∀ p : Side, (u.pump.get p).state ≠ .absent →
            carries d (46 + 4 * Side.code p) 1 (u.pump.get p).state.code
              ∧ carries d (47 + 4 * Side.code p) 1 (boolCode (u.pump.get p).line)
              ∧ carries d (48 + 4 * Side.code p) 1 (u.pump.get p).misses
              ∧ carries d (49 + 4 * Side.code p) 1 (u.pump.get p).strays)
        ∧ (∀ p : Side, (u.pump.get p).state = .absent → carries d (46 + 4 * Side.code p) 4 0)
        ∧ carries d 54 8 u.recorder.station.owed ∧ carries d 62 8 u.recorder.station.autoDelivered
        ∧ carries d 70 8 u.recorder.station.forgone ∧ carries d 78 8 u.recorder.station.surplus
        ∧ carries d 86 8 u.recorder.station.manualMass ∧ carries d 94 8 u.recorder.station.accountOpen)

/-- PERIOD_READ and SECTION_READ (R142, R167, R184, R185, R189): the record of an age, the record of a section's copy after its
flags byte, whose layouts are `FramesAndRecordsReadBack`'s, the refusals, and nothing changed. -/
def Obligations.RecordAndSectionReads : Prop :=
  ∀ (s u : State) (after : Nat) (tag : Byte), s.elapse after = u → u.takes = true →
    (∀ (age : Nat) (x : PeriodRecord), age ≤ 47 → u.recorder.ring[age]? = some x →
      ∃ d, ReportGiven s u (.periodRead after tag [byteOf age]) 0x06#8 tag d
        ∧ d.length = 103 + 35 * x.runs.length
        ∧ carries d 0 4 x.sequence.toNat ∧ carries d 4 1 x.cause.code ∧ carries d 5 2 x.intervals
        ∧ carries d 7 4 x.duration ∧ carries d 11 4 x.lastIndex.toNat ∧ carries d 15 1 x.runs.length
        ∧ carries d 16 8 x.station.owed ∧ carries d 24 8 x.station.autoDelivered
        ∧ carries d 32 8 x.station.forgone ∧ carries d 40 8 x.station.surplus
        ∧ carries d 48 8 x.station.manualMass
        ∧ carries d 56 4 x.station.strokes.a.confirmed ∧ carries d 60 4 x.station.strokes.a.missed
        ∧ carries d 64 4 x.station.strokes.a.stray ∧ carries d 68 4 x.station.strokes.b.confirmed
        ∧ carries d 72 4 x.station.strokes.b.missed ∧ carries d 76 4 x.station.strokes.b.stray
        ∧ carries d 80 4 x.station.manualMisses ∧ carries d 84 4 x.station.changeovers
        ∧ carries d 88 1 (packBits [x.station.modes.off, x.station.modes.auto, x.station.modes.manual,
            x.station.abandoned])
        ∧ carries d 89 2 x.trim ∧ carries d 91 4 x.station.accountOpen ∧ carries d 95 4 x.accountClose
        ∧ carries d 99 4 0
        ∧ (∀ i y, x.runs[i]? = some y →
            carries d (103 + 35 * i) 1 y.run.val ∧ carries d (104 + 35 * i) 1 y.state.code
              ∧ carries d (105 + 35 * i) 4 y.gross.value ∧ carries d (109 + 35 * i) 4 y.base.value
              ∧ carries d (113 + 35 * i) 4 y.energy.value
              ∧ (∀ p t, y.averages = some (p, t) →
                  carries d (117 + 35 * i) 4 p ∧ carries d (121 + 35 * i) 2 t)
              ∧ (y.averages = none → carries d (117 + 35 * i) 6 0)
              ∧ carries d (123 + 35 * i) 4 y.averageRate.value ∧ carries d (127 + 35 * i) 4 y.peak
              ∧ carries d (131 + 35 * i) 2 y.metered ∧ carries d (133 + 35 * i) 2 y.integrityEvents
              ∧ carries d (135 + 35 * i) 2 y.flags.toNat
              ∧ carries d (137 + 35 * i) 1 (packBits [y.gross.saturated, y.base.saturated,
                  y.energy.saturated, y.averageRate.saturated, y.averages.isSome])))
      ∧ (∀ age : Nat, age ≤ 47 → u.recorder.ring.length ≤ age →
          RequestRefused s u (.periodRead after tag [byteOf age]) 0x06#8 tag .notFound)
      ∧ (∀ age : Nat, 47 < age → age ≤ 255 →
          RequestRefused s u (.periodRead after tag [byteOf age]) 0x06#8 tag .badValue)
      ∧ (∀ (code : Nat) (i : SectionId), code < 7 → sectionId? code = some i →
          ReportGiven s u (.sectionRead after tag [byteOf code, 0]) 0x08#8 tag
              (bytesLE 1 (flagsByte i u.settings) ++ activeRecord i false u.settings.active)
            ∧ (∀ bs, stagedRecord i false u.settings.staged = some bs →
                ReportGiven s u (.sectionRead after tag [byteOf code, 1]) 0x08#8 tag
                  (bytesLE 1 (flagsByte i u.settings) ++ bs))
            ∧ (stagedRecord i false u.settings.staged = none →
                RequestRefused s u (.sectionRead after tag [byteOf code, 1]) 0x08#8 tag .notFound))
      ∧ (∀ upper : Bool,
          ReportGiven s u (.sectionRead after tag [7, 0, boolByte upper]) 0x08#8 tag
              (bytesLE 1 (flagsByte .monitors u.settings)
                ++ encodeMonitorsHalf upper u.settings.active.monitors)
            ∧ (∀ c, u.settings.staged.monitors = some c →
                ReportGiven s u (.sectionRead after tag [7, 1, boolByte upper]) 0x08#8 tag
                  (bytesLE 1 (flagsByte .monitors u.settings) ++ encodeMonitorsHalf upper c))
            ∧ (u.settings.staged.monitors = none →
                RequestRefused s u (.sectionRead after tag [7, 1, boolByte upper]) 0x08#8 tag .notFound))
      ∧ (∀ (code : Nat) (bs : List Byte), code < 8 → bs.length ≠ (if code = 7 then 2 else 1) →
          RequestRefused s u (.sectionRead after tag (byteOf code :: bs)) 0x08#8 tag .badLength)
      ∧ (∀ code copy : Nat, code < 7 → 2 ≤ copy → copy ≤ 255 →
          RequestRefused s u (.sectionRead after tag [byteOf code, byteOf copy]) 0x08#8 tag .badValue)
      ∧ (∀ copy half : Nat, (2 ≤ copy ∨ 2 ≤ half) → copy ≤ 255 → half ≤ 255 →
          RequestRefused s u (.sectionRead after tag [7, byteOf copy, byteOf half]) 0x08#8 tag .badValue)

/-- RUN_OPEN and RUN_CLOSE (R40, R41, R42, R46, R51): the run put in service or taken out, its notice, its monitors, and
the refusals of a run that is not in the state asked for or not fitted. -/
def Obligations.RunOpensAndCloses : Prop :=
  ∀ (s u : State) (after : Nat) (tag : Byte) (r : RunId), s.elapse after = u → u.takes = true →
    (u.fitted r = true → (u.run.get r).state = .out → u.settings.defaulted.run.get r = false →
      ∃ t : State, exec (.runOpen after tag [byteOf r.val]) s = .next t
        ∧ t = answered (okReply 0x10#8 tag (bytesLE 1 (t.run.get r).state.code)) (raise .run r.val { u with
            pulse := u.pulse.set r
              { u.pulse.get r with
                ring := .both [], maintenance := 0, consecutiveEvents := 0, consecutiveClean := 0
                integrityAlarm := false }
            run := u.run.set r
              { u.run.get r with
                state :=
                  if 0 < (u.runSection r).settleTime then .starting
                  else if (u.loop.p.get r).usable = true ∧ (u.loop.t.get r).usable = true then .metering
                  else .degraded
                settle := (u.runSection r).settleTime } })
        ∧ (u.settings.active.station.enables.run = true → noticeGiven .run r.val u t = true))
      ∧ (u.fitted r = true → (u.run.get r).state ≠ .out →
        ∃ t : State, exec (.runClose after tag [byteOf r.val]) s = .next t
          ∧ t = answered (okReply 0x11#8 tag [0]) (raise .run r.val { u with
              pulse := u.pulse.set r { u.pulse.get r with ring := .both [] }
              run := u.run.set r
                { u.run.get r with
                  state := .out, settle := 0, closedInInterval := true
                  stateForInterval := some (u.run.get r).state }
              monitors := t.monitors })
          ∧ t.monitors.limitLock = u.monitors.limitLock
          ∧ (∀ m, t.monitors.each.get m
                = if monitorRun m = some r then clearedMonitor else u.monitors.each.get m)
          ∧ (u.settings.active.station.enables.run = true → noticeGiven .run r.val u t = true))
      ∧ (u.fitted r = true → ((u.run.get r).state ≠ .out ∨ u.settings.defaulted.run.get r = true) →
        RequestRefused s u (.runOpen after tag [byteOf r.val]) 0x10#8 tag .wrongState)
      ∧ (u.fitted r = true → (u.run.get r).state = .out →
        RequestRefused s u (.runClose after tag [byteOf r.val]) 0x11#8 tag .wrongState)
      ∧ (u.fitted r = false →
        RequestRefused s u (.runOpen after tag [byteOf r.val]) 0x10#8 tag .noSubject
          ∧ RequestRefused s u (.runClose after tag [byteOf r.val]) 0x11#8 tag .noSubject)

/-- The readings the station host brings. GAS_QUALITY (R168): a heating value of 30,000 to 50,000 is staged; another is
refused. ANALYSER_READING (R93, R94, R96): the trim flag by the first test that holds; an applied reading trims, within 8,000 to
12,500, starts the trim hold-off and raises a DOSING notice; M15 alone is evaluated. -/
def Obligations.ReadingsTaken : Prop :=
  (∀ (s u : State) (after cv : Nat) (tag : Byte), s.elapse after = u → u.takes = true →
    (30000 ≤ cv → cv ≤ 50000 →
      exec (.gasQuality after tag (bytesLE 2 cv)) s = .next
        (answered (okReply 0x13#8 tag (bytesLE 2 u.settings.heatingValue ++ bytesLE 2 cv))
          { u with settings := { u.settings with stagedHeatingValue := some cv } }))
      ∧ (cv ≤ 65535 → (cv < 30000 ∨ 50000 < cv) →
        RequestRefused s u (.gasQuality after tag (bytesLE 2 cv)) 0x13#8 tag .badValue))
  ∧ ∀ (s u : State) (after m : Nat) (tag : Byte), s.elapse after = u → u.takes = true → m ≤ 65535 →
    ∃ (t : State) (flag : TrimFlag), exec (.analyserReading after tag (bytesLE 2 m)) s = .next t
      ∧ (let read : State := evaluate 15 m { u with dose := t.dose }
         t = answered (okReply 0x14#8 tag (bytesLE 1 flag.code ++ bytesLE 2 t.dose.trim))
           (if flag = .applied then raise .dosing 0 read else read))
      ∧ (∀ i, i ≠ 15 → t.monitors.each.get i = u.monitors.each.get i)
      ∧ t.monitors.limitLock = u.monitors.limitLock
      ∧ ((u.settings.active.monitors.get 15).enabled = true →
          t.monitors.each.get 15
            = evaluated true (u.settings.active.monitors.get 15) m (u.monitors.each.get 15))
      ∧ ((u.settings.active.monitors.get 15).enabled = false → t.monitors = u.monitors)
      ∧ (if u.dose.mode ≠ .auto then
          flag = .notAuto ∧ t.dose = { u.dose with lastReading := some (m, .notAuto) }
         else if m = 0 ∨ 3 * u.odorant.target < m then
          flag = .implausible ∧ t.dose = { u.dose with lastReading := some (m, .implausible) }
         else if u.dose.trimHoldOff ≠ none then
          flag = .held ∧ t.dose = { u.dose with lastReading := some (m, .held) }
         else
          flag = .applied
            ∧ t.dose = { u.dose with
                lastReading := some (m, .applied)
                trimHoldOff := some (u.now + BitVec.ofNat 32 (u.odorant.trimHoldOff * 1000))
                trim := max 8000 (min 12500
                  (if m ≤ u.odorant.target then
                    u.dose.trim + u.dose.trim * (u.odorant.target - m) / (8 * u.odorant.target)
                   else
                    u.dose.trim - u.dose.trim * (m - u.odorant.target) / (8 * u.odorant.target))) }
            ∧ (u.settings.active.station.enables.dosing = true → noticeGiven .dosing 0 u t = true))

/-- DOSE_MODE (R83, R84, R85, R95): AUTO entered, with the duty, the state and any stroke it owes; OFF or MANUAL entered from
another mode, the account forgone and a waiting stroke withdrawn; the same mode asked for again, which changes nothing; BUSY
while an outcome is awaited, and WRONG_STATE for AUTO with ODORANT DEFAULTED. -/
def Obligations.DoseModeChanges : Prop :=
  ∀ (s u : State) (after : Nat) (tag : Byte), s.elapse after = u → u.takes = true →
    (u.dose.mode ≠ .auto → u.dose.state ≠ .confirmWait → u.dose.state ≠ .manualWait →
      u.settings.defaulted.odorant = false →
      ∃ t : State, exec (.doseMode after tag [1]) s = .next t
        ∧ (let duty := if (u.pump.get u.dose.duty).state ≠ .ready ∧ (u.pump.get u.dose.duty.other).state = .ready
             then u.dose.duty.other else u.dose.duty
           t = answered (okReply 0x15#8 tag (bytesLE 1 1 ++ bytesLE 1 t.dose.state.code))
             (raise .dosing 0 (schedulingCheck { u with
               dose := { u.dose with
                 mode := .auto, duty := duty
                 state := if (u.pump.get duty).state = .ready then .armed else .fault }
               recorder := { u.recorder with station :=
                 { u.recorder.station with modes := { u.recorder.station.modes with auto := true } } } })))
        ∧ t.dose.mode = .auto ∧ t.dose.account = u.dose.account ∧ t.dose.trim = u.dose.trim
        ∧ ((u.pump.get u.dose.duty).state = .ready → t.dose.duty = u.dose.duty)
        ∧ ((u.pump.get u.dose.duty).state ≠ .ready → (u.pump.get u.dose.duty.other).state = .ready →
            t.dose.duty = u.dose.duty.other)
        ∧ ((u.pump.get t.dose.duty).state ≠ .ready → t.dose.state = .fault ∧ t.table = u.table)
        ∧ ((u.pump.get t.dose.duty).state = .ready → u.dose.account < u.odorant.strokeMass →
            t.dose.state = .armed ∧ t.table = u.table)
        ∧ ((u.pump.get t.dose.duty).state = .ready → u.odorant.strokeMass ≤ u.dose.account →
            t.dose.state = .strokeWait ∧ t.dose.massInFlight = u.odorant.strokeMass)
        ∧ (u.settings.active.station.enables.dosing = true → noticeGiven .dosing 0 u t = true))
      ∧ (∀ m : DosingMode, m ≠ .auto → m ≠ u.dose.mode → u.dose.state ≠ .confirmWait →
        u.dose.state ≠ .manualWait →
        ∃ t : State, exec (.doseMode after tag [byteOf m.code]) s = .next t
          ∧ t = answered (okReply 0x15#8 tag (bytesLE 1 m.code ++ bytesLE 1 0)) (raise .dosing 0 { u with
              dose := { u.dose with
                mode := m, state := .idle, account := 0
                massInFlight := if u.dose.state = .strokeWait then 0 else u.dose.massInFlight }
              table := if u.dose.state = .strokeWait then u.table.drop isStroke else u.table
              recorder := { u.recorder with station :=
                { u.recorder.station with
                  forgone := u.recorder.station.forgone + u.dose.account
                  modes := u.recorder.station.modes.mark m } } })
          ∧ (u.dose.state ≠ .strokeWait → t.table = u.table)
          ∧ (u.dose.state = .strokeWait → t.table.any isStroke = false ∧ t.table.aux = u.table.aux
              ∧ t.table.count isLink
                = u.table.count fun e => isLink e && !isStroke e)
          ∧ (u.settings.active.station.enables.dosing = true → noticeGiven .dosing 0 u t = true))
      ∧ (u.dose.state ≠ .confirmWait → u.dose.state ≠ .manualWait →
        (u.dose.mode = .auto → u.settings.defaulted.odorant = false) →
        ReportGiven s u (.doseMode after tag [byteOf u.dose.mode.code]) 0x15#8 tag
          (bytesLE 1 u.dose.mode.code ++ bytesLE 1 u.dose.state.code))
      ∧ (∀ m : DosingMode, (u.dose.state = .confirmWait ∨ u.dose.state = .manualWait) →
        RequestRefused s u (.doseMode after tag [byteOf m.code]) 0x15#8 tag .busy)
      ∧ (u.dose.state ≠ .confirmWait → u.dose.state ≠ .manualWait → u.settings.defaulted.odorant = true →
        RequestRefused s u (.doseMode after tag [1]) 0x15#8 tag .wrongState)

/-- The requests of a pump. MANUAL_STROKE (R86, R92, R102, R113, R114): the drive starts with the request; outside MANUAL, during
a stroke or a drive, and on a pump that is not READY it is refused. PUMP_RESET (R85, R90, R91, R96, R115): a FAILED pump whose line
is off becomes READY with its counts cleared, takes the duty from a pump that is not READY, and ends FAULT; a DOSING notice is
raised and the scheduling check made; the refusals. Either is refused with NO_SUBJECT for a pump that is not fitted. -/
def Obligations.PumpRequests : Prop :=
  (∀ (s u : State) (after : Nat) (tag : Byte) (p : Side), s.elapse after = u → u.takes = true →
    u.pumpIsFitted p = false →
    RequestRefused s u (.manualStroke after tag [byteOf (Side.code p)]) 0x16#8 tag .noSubject
      ∧ RequestRefused s u (.pumpReset after tag [byteOf (Side.code p)]) 0x17#8 tag .noSubject)
    ∧ (∀ (s u : State) (after : Nat) (tag : Byte) (p : Side), s.elapse after = u → u.takes = true →
      u.pumpIsFitted p = true →
      (u.dose.mode = .manual → u.dose.state ≠ .manualWait → u.pump.a.line = false → u.pump.b.line = false →
        (u.pump.get p).state = .ready → u.table.count (fun _ => true) < u.table.places.length →
        ∃ id : Nat, id < u.table.places.length ∧ u.table.at id = none ∧ (∀ j, j < id → u.table.at j ≠ none)
          ∧ exec (.manualStroke after tag [byteOf (Side.code p)]) s = .next (answered (okReply 0x16#8 tag
              (bytesLE 1 (Side.code p) ++ bytesLE 4 (u.now + BitVec.ofNat 32 u.odorant.driveWidth).toNat
                ++ bytesLE 4 (u.now + BitVec.ofNat 32 u.odorant.confirmWindow).toNat)) { u with
              pump := u.pump.set p
                { u.pump.get p with
                  state := .driving, line := true, confirmedInDrive := false
                  driveEnd := some (u.now + BitVec.ofNat 32 u.odorant.driveWidth) }
              dose := { u.dose with
                state := .manualWait, massInFlight := u.odorant.strokeMass, lastDrive := some u.now
                recentDrive := true }
              table := { u.table with places := u.table.places.set id (some
                { owner := .dosing, kind := .confirm, target := Side.code p
                  due := u.now + BitVec.ofNat 32 u.odorant.confirmWindow }) } }))
        ∧ (u.dose.mode ≠ .manual →
          RequestRefused s u (.manualStroke after tag [byteOf (Side.code p)]) 0x16#8 tag .wrongState)
        ∧ (u.dose.mode = .manual →
          (u.dose.state = .manualWait ∨ u.pump.a.line = true ∨ u.pump.b.line = true) →
          RequestRefused s u (.manualStroke after tag [byteOf (Side.code p)]) 0x16#8 tag .busy)
        ∧ (u.dose.mode = .manual → u.dose.state ≠ .manualWait → u.pump.a.line = false →
          u.pump.b.line = false → (u.pump.get p).state ≠ .ready →
          RequestRefused s u (.manualStroke after tag [byteOf (Side.code p)]) 0x16#8 tag .wrongState))
    ∧ (∀ (s u : State) (after : Nat) (tag : Byte) (p : Side), s.elapse after = u → u.takes = true →
      u.pumpIsFitted p = true →
      ((u.pump.get p).state = .failed → (u.pump.get p).line = false →
        ∃ t : State, exec (.pumpReset after tag [byteOf (Side.code p)]) s = .next t
          ∧ t = answered (okReply 0x17#8 tag (bytesLE 1 1 ++ bytesLE 1 (Side.code t.dose.duty)))
              (raise .dosing 0 (schedulingCheck { u with
                pump := u.pump.set p { u.pump.get p with state := .ready, misses := 0, strays := 0 }
                dose := { u.dose with
                  duty := if (u.pump.get u.dose.duty).state = .ready ∨ u.dose.state = .confirmWait then u.dose.duty
                    else p
                  state := if u.dose.state = .fault then .armed else u.dose.state } }))
          ∧ t.dose.account = u.dose.account ∧ t.dose.mode = u.dose.mode
          ∧ t.dose.duty
              = (if (u.pump.get u.dose.duty).state = .ready ∨ u.dose.state = .confirmWait then u.dose.duty
                 else p)
          ∧ (u.dose.state = .fault → t.dose.state = .armed ∨ t.dose.state = .strokeWait)
          ∧ (u.dose.state ≠ .fault → u.dose.state ≠ .armed →
              t.dose.state = u.dose.state ∧ t.table = u.table)
          ∧ (u.settings.active.station.enables.dosing = true → noticeGiven .dosing 0 u t = true))
        ∧ ((u.pump.get p).state ≠ .failed →
          RequestRefused s u (.pumpReset after tag [byteOf (Side.code p)]) 0x17#8 tag .wrongState)
        ∧ ((u.pump.get p).state = .failed → (u.pump.get p).line = true →
          RequestRefused s u (.pumpReset after tag [byteOf (Side.code p)]) 0x17#8 tag .busy))

/-- EVENT_CLEAR (R155) clears the latch of a monitor in LATCH, set again while LOW or HIGH stands; LIMIT_LOCK (R159) sets
the lock and drops a staged MONITORS copy, and changes nothing when it finds the lock set. -/
def Obligations.MonitorRequests : Prop :=
  ∀ (s u : State) (after : Nat) (tag : Byte), s.elapse after = u → u.takes = true →
    (∀ m : Fin 16,
      (let old := u.monitors.each.get m
       let new : MonitorState :=
         if (u.settings.active.monitors.get m).enabled = true
             ∧ (∀ r, monitorRun m = some r → u.fitted r = true ∧ (u.run.get r).state ≠ .out)
             ∧ (u.settings.active.monitors.get m).mode = .latch then
           { old with latch := old.low || old.high, event := old.low || old.high || old.critical }
         else old
       exec (.eventClear after tag [byteOf m.val]) s = .next (answered
         (okReply 0x18#8 tag (bytesLE 1 (packBits [new.low, new.high, new.critical, new.latch, new.event,
           new.last.isSome])))
         { u with monitors := { u.monitors with each := u.monitors.each.set m new } })))
      ∧ exec (.limitLock after tag []) s = .next (answered
        (okReply 0x19#8 tag
          (bytesLE 1 (if u.monitors.limitLock = false ∧ u.settings.staged.monitors ≠ none then 1 else 0)))
        { u with
            monitors := { u.monitors with limitLock := true }
            settings := { u.settings with staged := { u.settings.staged with
              monitors := if u.monitors.limitLock = true then u.settings.staged.monitors else none } } })

/-- SECTION_WRITE (R164, R165, R185): a record that passes the checks of R164 is staged and no active copy changes; one that
does not is refused with BAD_VALUE (`FramesAndRecordsReadBack` says that what is read from a record passes them); the refusals
before the record is looked at. -/
def Obligations.SectionWriteStages : Prop :=
  ∀ (s u : State) (after : Nat) (tag : Byte), s.elapse after = u → u.takes = true →
    (u.storeBusy = false →
      (∀ c : StationSection, c.valid = true → u.settings.protection.station = false →
        exec (.sectionWrite after tag (0x00#8 :: encodeStation c)) s = .next (answered
          (okReply 0x20#8 tag (bytesLE 1 (boolCode u.settings.staged.station.isSome)))
          { u with
              settings := { u.settings with staged := { u.settings.staged with station := some c } } }))
      ∧ (∀ (r : RunId) (c : RunSection), c.valid = true → u.settings.protection.run.get r = false →
        exec (.sectionWrite after tag (byteOf (1 + r.val) :: encodeRun c)) s = .next (answered
          (okReply 0x20#8 tag (bytesLE 1 (boolCode (u.settings.staged.run.get r).isSome)))
          { u with
              settings := { u.settings with staged :=
                { u.settings.staged with run := u.settings.staged.run.set r (some c) } } }))
      ∧ (∀ c : OdorantSection, c.valid = true → u.settings.protection.odorant = false →
        exec (.sectionWrite after tag (0x05#8 :: encodeOdorant c)) s = .next (answered
          (okReply 0x20#8 tag (bytesLE 1 (boolCode u.settings.staged.odorant.isSome)))
          { u with
              settings := { u.settings with staged := { u.settings.staged with odorant := some c } } }))
      ∧ (∀ c : CompressSection, c.valid = true → u.settings.protection.compress = false →
        exec (.sectionWrite after tag (0x06#8 :: encodeCompress c)) s = .next (answered
          (okReply 0x20#8 tag (bytesLE 1 (boolCode u.settings.staged.compress.isSome)))
          { u with
              settings := { u.settings with staged := { u.settings.staged with compress := some c } } }))
      ∧ (∀ (upper : Bool) (c : MonitorsSection), monitorsValid c = true → monitorsFit c = true →
        u.settings.protection.monitors = false → u.monitors.limitLock = false →
        exec (.sectionWrite after tag (0x07#8 :: encodeMonitorsHalf upper c)) s = .next (answered
          (okReply 0x20#8 tag (bytesLE 1 (boolCode u.settings.staged.monitors.isSome)))
          { u with
              settings := { u.settings with staged := { u.settings.staged with
                monitors := some (withHalf upper c
                  (u.settings.staged.monitors.getD u.settings.active.monitors)) } } })))
      ∧ (∀ (code : Nat) (i : SectionId) (bs : List Byte), code < 8 → sectionId? code = some i →
        (bs.length ≠ i.recordLength →
          RequestRefused s u (.sectionWrite after tag (byteOf code :: bs)) 0x20#8 tag .badLength)
          ∧ (bs.length = i.recordLength → u.settings.protection.get i = true →
            RequestRefused s u (.sectionWrite after tag (byteOf code :: bs)) 0x20#8 tag .isProtected)
          ∧ (bs.length = i.recordLength → u.settings.protection.get i = false → i = .monitors →
            u.monitors.limitLock = true →
            RequestRefused s u (.sectionWrite after tag (byteOf code :: bs)) 0x20#8 tag .locked)
          ∧ (bs.length = i.recordLength → u.settings.protection.get i = false →
            (i = .monitors → u.monitors.limitLock = false) → u.storeBusy = true →
            RequestRefused s u (.sectionWrite after tag (byteOf code :: bs)) 0x20#8 tag .busy)
          ∧ (bs.length = i.recordLength → u.settings.protection.get i = false →
            (i = .monitors → u.monitors.limitLock = false) → u.storeBusy = false →
            stageRecord i bs u.settings = none →
            RequestRefused s u (.sectionWrite after tag (byteOf code :: bs)) 0x20#8 tag .badValue))

/-- SECTION_PROTECT and PROTECT_CLEAR (R36, R170, R171): a flag set with its staged copy dropped, every flag cleared while
the contact is open, FLAGS listed for the store; BUSY and SWITCH_CLOSED change nothing. That PROTECT_CLEAR carries the custody
level it finds, and that the pins hold it, is log entry 16. -/
def Obligations.ProtectionSetAndCleared : Prop :=
  ∀ (s u : State) (after : Nat) (tag : Byte), s.elapse after = u → u.takes = true →
    (∀ (code : Nat) (i : SectionId), code < 8 → sectionId? code = some i →
      (u.storeBusy = false → u.settings.protection.get i = false →
        ∃ t : State, exec (.sectionProtect after tag [byteOf code]) s = .next t
          ∧ t = answered (okReply 0x21#8 tag (bytesLE 1 (boolCode ((stagedMarks u.settings.staged).get i))))
              (addItem .flags { u with
                settings := { u.settings with
                  protection := u.settings.protection.set i true, flagsUnstored := true
                  staged := dropStaged i u.settings.staged } })
          ∧ (∀ j, (stagedMarks t.settings.staged).get j
                = if j = i then false else (stagedMarks u.settings.staged).get j)
          ∧ (t.store.list.flags = true ∨ t.store.writing.map (·.content.item) = some .flags))
        ∧ (u.storeBusy = false → u.settings.protection.get i = true →
          ReportGiven s u (.sectionProtect after tag [byteOf code]) 0x21#8 tag [0])
        ∧ (u.storeBusy = true →
          RequestRefused s u (.sectionProtect after tag [byteOf code]) 0x21#8 tag .busy))
      ∧ (∃ t : State, exec (.protectClear after tag [] .opened) s = .next t
        ∧ (let cleared : State := { u with
             settings := { u.settings with
               protection := .all false
               flagsUnstored := u.settings.flagsUnstored || u.settings.protection.toList.any id }
             pins := { u.pins with custody := .opened } }
           t = answered (okReply 0x22#8 tag (bytesLE 1 (u.settings.protection.toList.countP id)))
             (if u.settings.protection.toList.any id = true then addItem .flags cleared else cleared))
        ∧ (u.settings.protection.toList.any id = true →
            t.store.list.flags = true ∨ t.store.writing.map (·.content.item) = some .flags))
      ∧ RequestRefused s u (.protectClear after tag [] .closed) 0x22#8 tag .switchClosed

/-! ## The link's frames and the records they carry -/

/-- From HUNT the bytes of a frame, no gap between two of them above 20 ms, are received as that frame, whatever its kind, tag and
payload of at most 248 bytes, and the receiver is in HUNT again (R179, R180). The record of every section that passes the checks of
R164 has the length of its kind, each field at its offset, and is read back as that section, every field at every value the checks
admit; and what is read from any record of that length passes the checks and is that record's section (R184, R185, R189). -/
def Obligations.FramesAndRecordsReadBack : Prop :=
  (∀ (f : Frame) (bytes : List LineByte), payloadFits f.payload = true → bytes.map (·.byte) = frameBytes f →
    ((∀ x ∈ bytes.drop 1, x.gap ≤ 20000) → takeBytes huntReceiver bytes = (huntReceiver, [f]))
      ∧ (frameBytes f).length = f.payload.length + 6)
    ∧ (∀ c : StationSection, LaysOutStation c (encodeStation c))
    ∧ (∀ c : RunSection, LaysOutRun c (encodeRun c))
    ∧ (∀ c : OdorantSection, LaysOutOdorant c (encodeOdorant c))
    ∧ (∀ c : CompressSection, LaysOutCompress c (encodeCompress c))
    ∧ (∀ (upper : Bool) (c : MonitorsSection), LaysOutMonitors upper c (encodeMonitorsHalf upper c))
    ∧ (∀ (bs : List Byte) (c : StationSection), bs.length = 25 → decodeStation bs = some c →
        c.valid = true ∧ encodeStation c = bs)
    ∧ (∀ (bs : List Byte) (c : RunSection), bs.length = 42 → decodeRun bs = some c →
        c.valid = true ∧ encodeRun c = bs)
    ∧ (∀ (bs : List Byte) (c : OdorantSection), bs.length = 23 → decodeOdorant bs = some c →
        c.valid = true ∧ encodeOdorant c = bs)
    ∧ (∀ (bs : List Byte) (c : CompressSection), bs.length = 108 → decodeCompress bs = some c →
        c.valid = true ∧ encodeCompress c = bs)
    ∧ (∀ (bs : List Byte) (base c : MonitorsSection), bs.length = 137 → monitorsValid base = true →
        decodeMonitorsHalf base bs = some c →
        monitorsValid c = true ∧ ∃ upper : Bool, encodeMonitorsHalf upper c = bs ∧ c = withHalf upper c base)
    ∧ (∀ c : StationSection, c.valid = true →
    (encodeStation c).length = 25 ∧ decodeStation (encodeStation c) = some c)
    ∧ (∀ c : RunSection, c.valid = true → (encodeRun c).length = 42 ∧ decodeRun (encodeRun c) = some c)
    ∧ (∀ c : OdorantSection, c.valid = true →
        (encodeOdorant c).length = 23 ∧ decodeOdorant (encodeOdorant c) = some c)
    ∧ (∀ c : CompressSection, c.valid = true →
        (encodeCompress c).length = 108 ∧ decodeCompress (encodeCompress c) = some c)
    ∧ (∀ (upper : Bool) (base c : MonitorsSection), monitorsValid c = true → monitorsFit c = true →
        (encodeMonitorsHalf upper c).length = 137
          ∧ decodeMonitorsHalf base (encodeMonitorsHalf upper c) = some (withHalf upper c base))

/-! ## What every step keeps -/

/-- R95, R138: in the period in progress and in every record, account at the end − account at open = owed −
auto-delivered − forgone; every step keeps it. -/
def Obligations.DoseBalanceKept : Prop :=
  ∀ s t : State, s.dosesBalance = true → step s = .next t → t.dosesBalance = true

/-- The account within its cap and 0 outside AUTO, the trim, the residues, the totals and the heating value in their ranges
(R57, R66, R80, R81, R94, R144), and the edge rings and the consecutive counts of the pulse front end within their bounds (R21,
R25); every step keeps each of these. -/
def Obligations.FiguresKept : Prop :=
  ∀ s t : State, step s = .next t →
    (s.accountBounded = true → s.figuresInRange = true → t.accountBounded = true ∧ t.figuresInRange = true)
      ∧ (s.pulsesInOrder = true → t.pulsesInOrder = true)

/-- R139, R141, R146, R148, R149: the ring holds at most 48 records with consecutive sequence numbers, the newest bearing
the last sequence, in memory and in the store; every step keeps it. -/
def Obligations.RecordRingKept : Prop :=
  ∀ s t : State, s.recordsInOrder = true → step s = .next t → t.recordsInOrder = true

/-- R79, R85, R102, R121, R122, R126: the action table, its owners and its limits, and the dosing state that goes with its
entries and with the mode; every step keeps it. -/
def Obligations.TableInOrderKept : Prop :=
  ∀ s t : State, s.tableInOrder = true → step s = .next t → t.tableInOrder = true

/-- R181, R182, R186, R187: at most 4 replies wait, the pending pairs stand in their order, none twice, each naming a subject
of its class, and between commands the receiver is in HUNT; every step keeps it, given an action table in order (whose
TIMER_NOTICE entries name tags). -/
def Obligations.LinkInOrderKept : Prop :=
  ∀ s t : State, s.tableInOrder = true → s.linkInOrder = true → step s = .next t → t.linkInOrder = true

/-- R153, R163, R164, R166, R169: every copy of every section, active, staged, stored or being written, and the active build pass
the checks of R164; every step keeps it. -/
def Obligations.SettingsValidKept : Prop :=
  ∀ s t : State, s.settingsValid = true → step s = .next t → t.settingsValid = true

/-- R172, R173, R181: no step but one that takes STORE_WRITE_COMPLETE, LOSS_OF_SUPPLY or POWER_ON in HALT changes a stored copy; no
step but one that takes a request or the bytes of a reception fault adds a reply, and a request adds one at most, at the end. -/
def Obligations.StoredCopiesAndRepliesKept : Prop :=
  ∀ (s t : State) (c : Instr) (rest : List Instr), s.pending = c :: rest → step s = .next t →
    ((∀ after, c ≠ .storeWriteComplete after ∧ c ≠ .lossOfSupply after
        ∧ (c = .powerOn after → s.time.phase ≠ .halt)) →
      t.store.sections = s.store.sections ∧ t.store.flags = s.store.flags
        ∧ t.store.ring = s.store.ring ∧ t.store.resume = s.store.resume)
      ∧ (c.frame? = none →
          (∀ after bytes, (∀ gap, c ≠ .receiveTimeout after ⟨bytes, gap⟩) ∧ c ≠ .frameCheckFail after bytes
            ∧ c ≠ .stopBitError after bytes) →
          ∃ k, t.link.queue = s.link.queue.drop k)
      ∧ (c.frame? ≠ none → ∃ (k : Nat) (f : Frame), t.link.queue = (s.link.queue ++ [f]).drop k
          ∨ t.link.queue = s.link.queue)

/-- R159: once the limit lock is set, with no MONITORS copy staged, no step but one that takes LOSS_OF_SUPPLY or starts the part
(POWER_ON, or a rise of PFW with power off) clears it or changes the monitors' settings. -/
def Obligations.LimitLockFixesMonitors : Prop :=
  ∀ s t : State, s.monitorsLocked = true → step s = .next t →
    (∀ (c : Instr) (rest : List Instr), s.pending = c :: rest →
      ∀ after, c ≠ .powerOn after ∧ c ≠ .lossOfSupply after
        ∧ (c = .pfwRise after → s.time.phase ≠ .off)) →
    t.monitorsLocked = true ∧ t.settings.active.monitors = s.settings.active.monitors

/-- The reset state has every property the statements above say is kept, and POWER_ON of a factory-fresh part with PFW high
leaves it (R4, R27, R30, R54, R100, R120, R134, R149, R162, R175); the model's own choices in that state are log entries 4, 5, 6
and 29. -/
def Obligations.ResetState : Prop :=
  State.reset.dosesBalance = true ∧ State.reset.accountBounded = true
    ∧ State.reset.figuresInRange = true ∧ State.reset.recordsInOrder = true
    ∧ State.reset.tableInOrder = true ∧ State.reset.linkInOrder = true ∧ State.reset.settingsValid = true
    ∧ State.reset.pulsesInOrder = true ∧ State.reset.pending = []
    ∧ ∀ (s : State) (after : Nat), s.time.phase = .off → s.pins.pfwHigh = true → s.store = factoryStore →
      exec (.powerOn after) s = .next
        { State.reset with
          pins := { supply := true, pfwHigh := true, custody := s.pins.custody }, freeCount := s.freeCount
          pending := s.pending }
end

