-- ==== Sys2Proof/Laws/State.lean ====
section
/-! SUPPORT. What each block update and the passing of time leave of every field of the state: one lemma per field per update. -/

namespace Sys2Proof.Machine

@[simp] theorem State.onTime_time (f : TimeBase → TimeBase) (s : State) : (s.onTime f).time = f s.time := rfl
@[simp] theorem State.onTime_pulse (f : TimeBase → TimeBase) (s : State) : (s.onTime f).pulse = s.pulse := rfl
@[simp] theorem State.onTime_loop (f : TimeBase → TimeBase) (s : State) : (s.onTime f).loop = s.loop := rfl
@[simp] theorem State.onTime_run (f : TimeBase → TimeBase) (s : State) : (s.onTime f).run = s.run := rfl
@[simp] theorem State.onTime_conv (f : TimeBase → TimeBase) (s : State) : (s.onTime f).conv = s.conv := rfl
@[simp] theorem State.onTime_dose (f : TimeBase → TimeBase) (s : State) : (s.onTime f).dose = s.dose := rfl
@[simp] theorem State.onTime_pump (f : TimeBase → TimeBase) (s : State) : (s.onTime f).pump = s.pump := rfl
@[simp] theorem State.onTime_sense (f : TimeBase → TimeBase) (s : State) : (s.onTime f).sense = s.sense := rfl
@[simp] theorem State.onTime_table (f : TimeBase → TimeBase) (s : State) : (s.onTime f).table = s.table := rfl
@[simp] theorem State.onTime_recorder (f : TimeBase → TimeBase) (s : State) : (s.onTime f).recorder = s.recorder := rfl
@[simp] theorem State.onTime_monitors (f : TimeBase → TimeBase) (s : State) : (s.onTime f).monitors = s.monitors := rfl
@[simp] theorem State.onTime_settings (f : TimeBase → TimeBase) (s : State) : (s.onTime f).settings = s.settings := rfl
@[simp] theorem State.onTime_store (f : TimeBase → TimeBase) (s : State) : (s.onTime f).store = s.store := rfl
@[simp] theorem State.onTime_link (f : TimeBase → TimeBase) (s : State) : (s.onTime f).link = s.link := rfl
@[simp] theorem State.onTime_pins (f : TimeBase → TimeBase) (s : State) : (s.onTime f).pins = s.pins := rfl
@[simp] theorem State.onTime_freeCount (f : TimeBase → TimeBase) (s : State) : (s.onTime f).freeCount = s.freeCount := rfl
@[simp] theorem State.onTime_pending (f : TimeBase → TimeBase) (s : State) : (s.onTime f).pending = s.pending := rfl

@[simp] theorem State.onPulse_time (f : Four PulseRun → Four PulseRun) (s : State) : (s.onPulse f).time = s.time := rfl
@[simp] theorem State.onPulse_pulse (f : Four PulseRun → Four PulseRun) (s : State) : (s.onPulse f).pulse = f s.pulse := rfl
@[simp] theorem State.onPulse_loop (f : Four PulseRun → Four PulseRun) (s : State) : (s.onPulse f).loop = s.loop := rfl
@[simp] theorem State.onPulse_run (f : Four PulseRun → Four PulseRun) (s : State) : (s.onPulse f).run = s.run := rfl
@[simp] theorem State.onPulse_conv (f : Four PulseRun → Four PulseRun) (s : State) : (s.onPulse f).conv = s.conv := rfl
@[simp] theorem State.onPulse_dose (f : Four PulseRun → Four PulseRun) (s : State) : (s.onPulse f).dose = s.dose := rfl
@[simp] theorem State.onPulse_pump (f : Four PulseRun → Four PulseRun) (s : State) : (s.onPulse f).pump = s.pump := rfl
@[simp] theorem State.onPulse_sense (f : Four PulseRun → Four PulseRun) (s : State) : (s.onPulse f).sense = s.sense := rfl
@[simp] theorem State.onPulse_table (f : Four PulseRun → Four PulseRun) (s : State) : (s.onPulse f).table = s.table := rfl
@[simp] theorem State.onPulse_recorder (f : Four PulseRun → Four PulseRun) (s : State) : (s.onPulse f).recorder = s.recorder := rfl
@[simp] theorem State.onPulse_monitors (f : Four PulseRun → Four PulseRun) (s : State) : (s.onPulse f).monitors = s.monitors := rfl
@[simp] theorem State.onPulse_settings (f : Four PulseRun → Four PulseRun) (s : State) : (s.onPulse f).settings = s.settings := rfl
@[simp] theorem State.onPulse_store (f : Four PulseRun → Four PulseRun) (s : State) : (s.onPulse f).store = s.store := rfl
@[simp] theorem State.onPulse_link (f : Four PulseRun → Four PulseRun) (s : State) : (s.onPulse f).link = s.link := rfl
@[simp] theorem State.onPulse_pins (f : Four PulseRun → Four PulseRun) (s : State) : (s.onPulse f).pins = s.pins := rfl
@[simp] theorem State.onPulse_freeCount (f : Four PulseRun → Four PulseRun) (s : State) : (s.onPulse f).freeCount = s.freeCount := rfl
@[simp] theorem State.onPulse_pending (f : Four PulseRun → Four PulseRun) (s : State) : (s.onPulse f).pending = s.pending := rfl

@[simp] theorem State.onLoop_time (f : LoopFront → LoopFront) (s : State) : (s.onLoop f).time = s.time := rfl
@[simp] theorem State.onLoop_pulse (f : LoopFront → LoopFront) (s : State) : (s.onLoop f).pulse = s.pulse := rfl
@[simp] theorem State.onLoop_loop (f : LoopFront → LoopFront) (s : State) : (s.onLoop f).loop = f s.loop := rfl
@[simp] theorem State.onLoop_run (f : LoopFront → LoopFront) (s : State) : (s.onLoop f).run = s.run := rfl
@[simp] theorem State.onLoop_conv (f : LoopFront → LoopFront) (s : State) : (s.onLoop f).conv = s.conv := rfl
@[simp] theorem State.onLoop_dose (f : LoopFront → LoopFront) (s : State) : (s.onLoop f).dose = s.dose := rfl
@[simp] theorem State.onLoop_pump (f : LoopFront → LoopFront) (s : State) : (s.onLoop f).pump = s.pump := rfl
@[simp] theorem State.onLoop_sense (f : LoopFront → LoopFront) (s : State) : (s.onLoop f).sense = s.sense := rfl
@[simp] theorem State.onLoop_table (f : LoopFront → LoopFront) (s : State) : (s.onLoop f).table = s.table := rfl
@[simp] theorem State.onLoop_recorder (f : LoopFront → LoopFront) (s : State) : (s.onLoop f).recorder = s.recorder := rfl
@[simp] theorem State.onLoop_monitors (f : LoopFront → LoopFront) (s : State) : (s.onLoop f).monitors = s.monitors := rfl
@[simp] theorem State.onLoop_settings (f : LoopFront → LoopFront) (s : State) : (s.onLoop f).settings = s.settings := rfl
@[simp] theorem State.onLoop_store (f : LoopFront → LoopFront) (s : State) : (s.onLoop f).store = s.store := rfl
@[simp] theorem State.onLoop_link (f : LoopFront → LoopFront) (s : State) : (s.onLoop f).link = s.link := rfl
@[simp] theorem State.onLoop_pins (f : LoopFront → LoopFront) (s : State) : (s.onLoop f).pins = s.pins := rfl
@[simp] theorem State.onLoop_freeCount (f : LoopFront → LoopFront) (s : State) : (s.onLoop f).freeCount = s.freeCount := rfl
@[simp] theorem State.onLoop_pending (f : LoopFront → LoopFront) (s : State) : (s.onLoop f).pending = s.pending := rfl

@[simp] theorem State.onRun_time (f : Four RunControl → Four RunControl) (s : State) : (s.onRun f).time = s.time := rfl
@[simp] theorem State.onRun_pulse (f : Four RunControl → Four RunControl) (s : State) : (s.onRun f).pulse = s.pulse := rfl
@[simp] theorem State.onRun_loop (f : Four RunControl → Four RunControl) (s : State) : (s.onRun f).loop = s.loop := rfl
@[simp] theorem State.onRun_run (f : Four RunControl → Four RunControl) (s : State) : (s.onRun f).run = f s.run := rfl
@[simp] theorem State.onRun_conv (f : Four RunControl → Four RunControl) (s : State) : (s.onRun f).conv = s.conv := rfl
@[simp] theorem State.onRun_dose (f : Four RunControl → Four RunControl) (s : State) : (s.onRun f).dose = s.dose := rfl
@[simp] theorem State.onRun_pump (f : Four RunControl → Four RunControl) (s : State) : (s.onRun f).pump = s.pump := rfl
@[simp] theorem State.onRun_sense (f : Four RunControl → Four RunControl) (s : State) : (s.onRun f).sense = s.sense := rfl
@[simp] theorem State.onRun_table (f : Four RunControl → Four RunControl) (s : State) : (s.onRun f).table = s.table := rfl
@[simp] theorem State.onRun_recorder (f : Four RunControl → Four RunControl) (s : State) : (s.onRun f).recorder = s.recorder := rfl
@[simp] theorem State.onRun_monitors (f : Four RunControl → Four RunControl) (s : State) : (s.onRun f).monitors = s.monitors := rfl
@[simp] theorem State.onRun_settings (f : Four RunControl → Four RunControl) (s : State) : (s.onRun f).settings = s.settings := rfl
@[simp] theorem State.onRun_store (f : Four RunControl → Four RunControl) (s : State) : (s.onRun f).store = s.store := rfl
@[simp] theorem State.onRun_link (f : Four RunControl → Four RunControl) (s : State) : (s.onRun f).link = s.link := rfl
@[simp] theorem State.onRun_pins (f : Four RunControl → Four RunControl) (s : State) : (s.onRun f).pins = s.pins := rfl
@[simp] theorem State.onRun_freeCount (f : Four RunControl → Four RunControl) (s : State) : (s.onRun f).freeCount = s.freeCount := rfl
@[simp] theorem State.onRun_pending (f : Four RunControl → Four RunControl) (s : State) : (s.onRun f).pending = s.pending := rfl

@[simp] theorem State.onConv_time (f : Conversion → Conversion) (s : State) : (s.onConv f).time = s.time := rfl
@[simp] theorem State.onConv_pulse (f : Conversion → Conversion) (s : State) : (s.onConv f).pulse = s.pulse := rfl
@[simp] theorem State.onConv_loop (f : Conversion → Conversion) (s : State) : (s.onConv f).loop = s.loop := rfl
@[simp] theorem State.onConv_run (f : Conversion → Conversion) (s : State) : (s.onConv f).run = s.run := rfl
@[simp] theorem State.onConv_conv (f : Conversion → Conversion) (s : State) : (s.onConv f).conv = f s.conv := rfl
@[simp] theorem State.onConv_dose (f : Conversion → Conversion) (s : State) : (s.onConv f).dose = s.dose := rfl
@[simp] theorem State.onConv_pump (f : Conversion → Conversion) (s : State) : (s.onConv f).pump = s.pump := rfl
@[simp] theorem State.onConv_sense (f : Conversion → Conversion) (s : State) : (s.onConv f).sense = s.sense := rfl
@[simp] theorem State.onConv_table (f : Conversion → Conversion) (s : State) : (s.onConv f).table = s.table := rfl
@[simp] theorem State.onConv_recorder (f : Conversion → Conversion) (s : State) : (s.onConv f).recorder = s.recorder := rfl
@[simp] theorem State.onConv_monitors (f : Conversion → Conversion) (s : State) : (s.onConv f).monitors = s.monitors := rfl
@[simp] theorem State.onConv_settings (f : Conversion → Conversion) (s : State) : (s.onConv f).settings = s.settings := rfl
@[simp] theorem State.onConv_store (f : Conversion → Conversion) (s : State) : (s.onConv f).store = s.store := rfl
@[simp] theorem State.onConv_link (f : Conversion → Conversion) (s : State) : (s.onConv f).link = s.link := rfl
@[simp] theorem State.onConv_pins (f : Conversion → Conversion) (s : State) : (s.onConv f).pins = s.pins := rfl
@[simp] theorem State.onConv_freeCount (f : Conversion → Conversion) (s : State) : (s.onConv f).freeCount = s.freeCount := rfl
@[simp] theorem State.onConv_pending (f : Conversion → Conversion) (s : State) : (s.onConv f).pending = s.pending := rfl

@[simp] theorem State.onDose_time (f : Dose → Dose) (s : State) : (s.onDose f).time = s.time := rfl
@[simp] theorem State.onDose_pulse (f : Dose → Dose) (s : State) : (s.onDose f).pulse = s.pulse := rfl
@[simp] theorem State.onDose_loop (f : Dose → Dose) (s : State) : (s.onDose f).loop = s.loop := rfl
@[simp] theorem State.onDose_run (f : Dose → Dose) (s : State) : (s.onDose f).run = s.run := rfl
@[simp] theorem State.onDose_conv (f : Dose → Dose) (s : State) : (s.onDose f).conv = s.conv := rfl
@[simp] theorem State.onDose_dose (f : Dose → Dose) (s : State) : (s.onDose f).dose = f s.dose := rfl
@[simp] theorem State.onDose_pump (f : Dose → Dose) (s : State) : (s.onDose f).pump = s.pump := rfl
@[simp] theorem State.onDose_sense (f : Dose → Dose) (s : State) : (s.onDose f).sense = s.sense := rfl
@[simp] theorem State.onDose_table (f : Dose → Dose) (s : State) : (s.onDose f).table = s.table := rfl
@[simp] theorem State.onDose_recorder (f : Dose → Dose) (s : State) : (s.onDose f).recorder = s.recorder := rfl
@[simp] theorem State.onDose_monitors (f : Dose → Dose) (s : State) : (s.onDose f).monitors = s.monitors := rfl
@[simp] theorem State.onDose_settings (f : Dose → Dose) (s : State) : (s.onDose f).settings = s.settings := rfl
@[simp] theorem State.onDose_store (f : Dose → Dose) (s : State) : (s.onDose f).store = s.store := rfl
@[simp] theorem State.onDose_link (f : Dose → Dose) (s : State) : (s.onDose f).link = s.link := rfl
@[simp] theorem State.onDose_pins (f : Dose → Dose) (s : State) : (s.onDose f).pins = s.pins := rfl
@[simp] theorem State.onDose_freeCount (f : Dose → Dose) (s : State) : (s.onDose f).freeCount = s.freeCount := rfl
@[simp] theorem State.onDose_pending (f : Dose → Dose) (s : State) : (s.onDose f).pending = s.pending := rfl

@[simp] theorem State.onPump_time (f : Two Pump → Two Pump) (s : State) : (s.onPump f).time = s.time := rfl
@[simp] theorem State.onPump_pulse (f : Two Pump → Two Pump) (s : State) : (s.onPump f).pulse = s.pulse := rfl
@[simp] theorem State.onPump_loop (f : Two Pump → Two Pump) (s : State) : (s.onPump f).loop = s.loop := rfl
@[simp] theorem State.onPump_run (f : Two Pump → Two Pump) (s : State) : (s.onPump f).run = s.run := rfl
@[simp] theorem State.onPump_conv (f : Two Pump → Two Pump) (s : State) : (s.onPump f).conv = s.conv := rfl
@[simp] theorem State.onPump_dose (f : Two Pump → Two Pump) (s : State) : (s.onPump f).dose = s.dose := rfl
@[simp] theorem State.onPump_pump (f : Two Pump → Two Pump) (s : State) : (s.onPump f).pump = f s.pump := rfl
@[simp] theorem State.onPump_sense (f : Two Pump → Two Pump) (s : State) : (s.onPump f).sense = s.sense := rfl
@[simp] theorem State.onPump_table (f : Two Pump → Two Pump) (s : State) : (s.onPump f).table = s.table := rfl
@[simp] theorem State.onPump_recorder (f : Two Pump → Two Pump) (s : State) : (s.onPump f).recorder = s.recorder := rfl
@[simp] theorem State.onPump_monitors (f : Two Pump → Two Pump) (s : State) : (s.onPump f).monitors = s.monitors := rfl
@[simp] theorem State.onPump_settings (f : Two Pump → Two Pump) (s : State) : (s.onPump f).settings = s.settings := rfl
@[simp] theorem State.onPump_store (f : Two Pump → Two Pump) (s : State) : (s.onPump f).store = s.store := rfl
@[simp] theorem State.onPump_link (f : Two Pump → Two Pump) (s : State) : (s.onPump f).link = s.link := rfl
@[simp] theorem State.onPump_pins (f : Two Pump → Two Pump) (s : State) : (s.onPump f).pins = s.pins := rfl
@[simp] theorem State.onPump_freeCount (f : Two Pump → Two Pump) (s : State) : (s.onPump f).freeCount = s.freeCount := rfl
@[simp] theorem State.onPump_pending (f : Two Pump → Two Pump) (s : State) : (s.onPump f).pending = s.pending := rfl

@[simp] theorem State.onSense_time (f : Two (Option Nat) → Two (Option Nat)) (s : State) : (s.onSense f).time = s.time := rfl
@[simp] theorem State.onSense_pulse (f : Two (Option Nat) → Two (Option Nat)) (s : State) : (s.onSense f).pulse = s.pulse := rfl
@[simp] theorem State.onSense_loop (f : Two (Option Nat) → Two (Option Nat)) (s : State) : (s.onSense f).loop = s.loop := rfl
@[simp] theorem State.onSense_run (f : Two (Option Nat) → Two (Option Nat)) (s : State) : (s.onSense f).run = s.run := rfl
@[simp] theorem State.onSense_conv (f : Two (Option Nat) → Two (Option Nat)) (s : State) : (s.onSense f).conv = s.conv := rfl
@[simp] theorem State.onSense_dose (f : Two (Option Nat) → Two (Option Nat)) (s : State) : (s.onSense f).dose = s.dose := rfl
@[simp] theorem State.onSense_pump (f : Two (Option Nat) → Two (Option Nat)) (s : State) : (s.onSense f).pump = s.pump := rfl
@[simp] theorem State.onSense_sense (f : Two (Option Nat) → Two (Option Nat)) (s : State) : (s.onSense f).sense = f s.sense := rfl
@[simp] theorem State.onSense_table (f : Two (Option Nat) → Two (Option Nat)) (s : State) : (s.onSense f).table = s.table := rfl
@[simp] theorem State.onSense_recorder (f : Two (Option Nat) → Two (Option Nat)) (s : State) : (s.onSense f).recorder = s.recorder := rfl
@[simp] theorem State.onSense_monitors (f : Two (Option Nat) → Two (Option Nat)) (s : State) : (s.onSense f).monitors = s.monitors := rfl
@[simp] theorem State.onSense_settings (f : Two (Option Nat) → Two (Option Nat)) (s : State) : (s.onSense f).settings = s.settings := rfl
@[simp] theorem State.onSense_store (f : Two (Option Nat) → Two (Option Nat)) (s : State) : (s.onSense f).store = s.store := rfl
@[simp] theorem State.onSense_link (f : Two (Option Nat) → Two (Option Nat)) (s : State) : (s.onSense f).link = s.link := rfl
@[simp] theorem State.onSense_pins (f : Two (Option Nat) → Two (Option Nat)) (s : State) : (s.onSense f).pins = s.pins := rfl
@[simp] theorem State.onSense_freeCount (f : Two (Option Nat) → Two (Option Nat)) (s : State) : (s.onSense f).freeCount = s.freeCount := rfl
@[simp] theorem State.onSense_pending (f : Two (Option Nat) → Two (Option Nat)) (s : State) : (s.onSense f).pending = s.pending := rfl

@[simp] theorem State.onTable_time (f : ActionTable → ActionTable) (s : State) : (s.onTable f).time = s.time := rfl
@[simp] theorem State.onTable_pulse (f : ActionTable → ActionTable) (s : State) : (s.onTable f).pulse = s.pulse := rfl
@[simp] theorem State.onTable_loop (f : ActionTable → ActionTable) (s : State) : (s.onTable f).loop = s.loop := rfl
@[simp] theorem State.onTable_run (f : ActionTable → ActionTable) (s : State) : (s.onTable f).run = s.run := rfl
@[simp] theorem State.onTable_conv (f : ActionTable → ActionTable) (s : State) : (s.onTable f).conv = s.conv := rfl
@[simp] theorem State.onTable_dose (f : ActionTable → ActionTable) (s : State) : (s.onTable f).dose = s.dose := rfl
@[simp] theorem State.onTable_pump (f : ActionTable → ActionTable) (s : State) : (s.onTable f).pump = s.pump := rfl
@[simp] theorem State.onTable_sense (f : ActionTable → ActionTable) (s : State) : (s.onTable f).sense = s.sense := rfl
@[simp] theorem State.onTable_table (f : ActionTable → ActionTable) (s : State) : (s.onTable f).table = f s.table := rfl
@[simp] theorem State.onTable_recorder (f : ActionTable → ActionTable) (s : State) : (s.onTable f).recorder = s.recorder := rfl
@[simp] theorem State.onTable_monitors (f : ActionTable → ActionTable) (s : State) : (s.onTable f).monitors = s.monitors := rfl
@[simp] theorem State.onTable_settings (f : ActionTable → ActionTable) (s : State) : (s.onTable f).settings = s.settings := rfl
@[simp] theorem State.onTable_store (f : ActionTable → ActionTable) (s : State) : (s.onTable f).store = s.store := rfl
@[simp] theorem State.onTable_link (f : ActionTable → ActionTable) (s : State) : (s.onTable f).link = s.link := rfl
@[simp] theorem State.onTable_pins (f : ActionTable → ActionTable) (s : State) : (s.onTable f).pins = s.pins := rfl
@[simp] theorem State.onTable_freeCount (f : ActionTable → ActionTable) (s : State) : (s.onTable f).freeCount = s.freeCount := rfl
@[simp] theorem State.onTable_pending (f : ActionTable → ActionTable) (s : State) : (s.onTable f).pending = s.pending := rfl

@[simp] theorem State.onRecorder_time (f : Recorder → Recorder) (s : State) : (s.onRecorder f).time = s.time := rfl
@[simp] theorem State.onRecorder_pulse (f : Recorder → Recorder) (s : State) : (s.onRecorder f).pulse = s.pulse := rfl
@[simp] theorem State.onRecorder_loop (f : Recorder → Recorder) (s : State) : (s.onRecorder f).loop = s.loop := rfl
@[simp] theorem State.onRecorder_run (f : Recorder → Recorder) (s : State) : (s.onRecorder f).run = s.run := rfl
@[simp] theorem State.onRecorder_conv (f : Recorder → Recorder) (s : State) : (s.onRecorder f).conv = s.conv := rfl
@[simp] theorem State.onRecorder_dose (f : Recorder → Recorder) (s : State) : (s.onRecorder f).dose = s.dose := rfl
@[simp] theorem State.onRecorder_pump (f : Recorder → Recorder) (s : State) : (s.onRecorder f).pump = s.pump := rfl
@[simp] theorem State.onRecorder_sense (f : Recorder → Recorder) (s : State) : (s.onRecorder f).sense = s.sense := rfl
@[simp] theorem State.onRecorder_table (f : Recorder → Recorder) (s : State) : (s.onRecorder f).table = s.table := rfl
@[simp] theorem State.onRecorder_recorder (f : Recorder → Recorder) (s : State) : (s.onRecorder f).recorder = f s.recorder := rfl
@[simp] theorem State.onRecorder_monitors (f : Recorder → Recorder) (s : State) : (s.onRecorder f).monitors = s.monitors := rfl
@[simp] theorem State.onRecorder_settings (f : Recorder → Recorder) (s : State) : (s.onRecorder f).settings = s.settings := rfl
@[simp] theorem State.onRecorder_store (f : Recorder → Recorder) (s : State) : (s.onRecorder f).store = s.store := rfl
@[simp] theorem State.onRecorder_link (f : Recorder → Recorder) (s : State) : (s.onRecorder f).link = s.link := rfl
@[simp] theorem State.onRecorder_pins (f : Recorder → Recorder) (s : State) : (s.onRecorder f).pins = s.pins := rfl
@[simp] theorem State.onRecorder_freeCount (f : Recorder → Recorder) (s : State) : (s.onRecorder f).freeCount = s.freeCount := rfl
@[simp] theorem State.onRecorder_pending (f : Recorder → Recorder) (s : State) : (s.onRecorder f).pending = s.pending := rfl

@[simp] theorem State.onMonitors_time (f : Monitors → Monitors) (s : State) : (s.onMonitors f).time = s.time := rfl
@[simp] theorem State.onMonitors_pulse (f : Monitors → Monitors) (s : State) : (s.onMonitors f).pulse = s.pulse := rfl
@[simp] theorem State.onMonitors_loop (f : Monitors → Monitors) (s : State) : (s.onMonitors f).loop = s.loop := rfl
@[simp] theorem State.onMonitors_run (f : Monitors → Monitors) (s : State) : (s.onMonitors f).run = s.run := rfl
@[simp] theorem State.onMonitors_conv (f : Monitors → Monitors) (s : State) : (s.onMonitors f).conv = s.conv := rfl
@[simp] theorem State.onMonitors_dose (f : Monitors → Monitors) (s : State) : (s.onMonitors f).dose = s.dose := rfl
@[simp] theorem State.onMonitors_pump (f : Monitors → Monitors) (s : State) : (s.onMonitors f).pump = s.pump := rfl
@[simp] theorem State.onMonitors_sense (f : Monitors → Monitors) (s : State) : (s.onMonitors f).sense = s.sense := rfl
@[simp] theorem State.onMonitors_table (f : Monitors → Monitors) (s : State) : (s.onMonitors f).table = s.table := rfl
@[simp] theorem State.onMonitors_recorder (f : Monitors → Monitors) (s : State) : (s.onMonitors f).recorder = s.recorder := rfl
@[simp] theorem State.onMonitors_monitors (f : Monitors → Monitors) (s : State) : (s.onMonitors f).monitors = f s.monitors := rfl
@[simp] theorem State.onMonitors_settings (f : Monitors → Monitors) (s : State) : (s.onMonitors f).settings = s.settings := rfl
@[simp] theorem State.onMonitors_store (f : Monitors → Monitors) (s : State) : (s.onMonitors f).store = s.store := rfl
@[simp] theorem State.onMonitors_link (f : Monitors → Monitors) (s : State) : (s.onMonitors f).link = s.link := rfl
@[simp] theorem State.onMonitors_pins (f : Monitors → Monitors) (s : State) : (s.onMonitors f).pins = s.pins := rfl
@[simp] theorem State.onMonitors_freeCount (f : Monitors → Monitors) (s : State) : (s.onMonitors f).freeCount = s.freeCount := rfl
@[simp] theorem State.onMonitors_pending (f : Monitors → Monitors) (s : State) : (s.onMonitors f).pending = s.pending := rfl

@[simp] theorem State.onSettings_time (f : Settings → Settings) (s : State) : (s.onSettings f).time = s.time := rfl
@[simp] theorem State.onSettings_pulse (f : Settings → Settings) (s : State) : (s.onSettings f).pulse = s.pulse := rfl
@[simp] theorem State.onSettings_loop (f : Settings → Settings) (s : State) : (s.onSettings f).loop = s.loop := rfl
@[simp] theorem State.onSettings_run (f : Settings → Settings) (s : State) : (s.onSettings f).run = s.run := rfl
@[simp] theorem State.onSettings_conv (f : Settings → Settings) (s : State) : (s.onSettings f).conv = s.conv := rfl
@[simp] theorem State.onSettings_dose (f : Settings → Settings) (s : State) : (s.onSettings f).dose = s.dose := rfl
@[simp] theorem State.onSettings_pump (f : Settings → Settings) (s : State) : (s.onSettings f).pump = s.pump := rfl
@[simp] theorem State.onSettings_sense (f : Settings → Settings) (s : State) : (s.onSettings f).sense = s.sense := rfl
@[simp] theorem State.onSettings_table (f : Settings → Settings) (s : State) : (s.onSettings f).table = s.table := rfl
@[simp] theorem State.onSettings_recorder (f : Settings → Settings) (s : State) : (s.onSettings f).recorder = s.recorder := rfl
@[simp] theorem State.onSettings_monitors (f : Settings → Settings) (s : State) : (s.onSettings f).monitors = s.monitors := rfl
@[simp] theorem State.onSettings_settings (f : Settings → Settings) (s : State) : (s.onSettings f).settings = f s.settings := rfl
@[simp] theorem State.onSettings_store (f : Settings → Settings) (s : State) : (s.onSettings f).store = s.store := rfl
@[simp] theorem State.onSettings_link (f : Settings → Settings) (s : State) : (s.onSettings f).link = s.link := rfl
@[simp] theorem State.onSettings_pins (f : Settings → Settings) (s : State) : (s.onSettings f).pins = s.pins := rfl
@[simp] theorem State.onSettings_freeCount (f : Settings → Settings) (s : State) : (s.onSettings f).freeCount = s.freeCount := rfl
@[simp] theorem State.onSettings_pending (f : Settings → Settings) (s : State) : (s.onSettings f).pending = s.pending := rfl

@[simp] theorem State.onStore_time (f : Store → Store) (s : State) : (s.onStore f).time = s.time := rfl
@[simp] theorem State.onStore_pulse (f : Store → Store) (s : State) : (s.onStore f).pulse = s.pulse := rfl
@[simp] theorem State.onStore_loop (f : Store → Store) (s : State) : (s.onStore f).loop = s.loop := rfl
@[simp] theorem State.onStore_run (f : Store → Store) (s : State) : (s.onStore f).run = s.run := rfl
@[simp] theorem State.onStore_conv (f : Store → Store) (s : State) : (s.onStore f).conv = s.conv := rfl
@[simp] theorem State.onStore_dose (f : Store → Store) (s : State) : (s.onStore f).dose = s.dose := rfl
@[simp] theorem State.onStore_pump (f : Store → Store) (s : State) : (s.onStore f).pump = s.pump := rfl
@[simp] theorem State.onStore_sense (f : Store → Store) (s : State) : (s.onStore f).sense = s.sense := rfl
@[simp] theorem State.onStore_table (f : Store → Store) (s : State) : (s.onStore f).table = s.table := rfl
@[simp] theorem State.onStore_recorder (f : Store → Store) (s : State) : (s.onStore f).recorder = s.recorder := rfl
@[simp] theorem State.onStore_monitors (f : Store → Store) (s : State) : (s.onStore f).monitors = s.monitors := rfl
@[simp] theorem State.onStore_settings (f : Store → Store) (s : State) : (s.onStore f).settings = s.settings := rfl
@[simp] theorem State.onStore_store (f : Store → Store) (s : State) : (s.onStore f).store = f s.store := rfl
@[simp] theorem State.onStore_link (f : Store → Store) (s : State) : (s.onStore f).link = s.link := rfl
@[simp] theorem State.onStore_pins (f : Store → Store) (s : State) : (s.onStore f).pins = s.pins := rfl
@[simp] theorem State.onStore_freeCount (f : Store → Store) (s : State) : (s.onStore f).freeCount = s.freeCount := rfl
@[simp] theorem State.onStore_pending (f : Store → Store) (s : State) : (s.onStore f).pending = s.pending := rfl

@[simp] theorem State.onLink_time (f : Link → Link) (s : State) : (s.onLink f).time = s.time := rfl
@[simp] theorem State.onLink_pulse (f : Link → Link) (s : State) : (s.onLink f).pulse = s.pulse := rfl
@[simp] theorem State.onLink_loop (f : Link → Link) (s : State) : (s.onLink f).loop = s.loop := rfl
@[simp] theorem State.onLink_run (f : Link → Link) (s : State) : (s.onLink f).run = s.run := rfl
@[simp] theorem State.onLink_conv (f : Link → Link) (s : State) : (s.onLink f).conv = s.conv := rfl
@[simp] theorem State.onLink_dose (f : Link → Link) (s : State) : (s.onLink f).dose = s.dose := rfl
@[simp] theorem State.onLink_pump (f : Link → Link) (s : State) : (s.onLink f).pump = s.pump := rfl
@[simp] theorem State.onLink_sense (f : Link → Link) (s : State) : (s.onLink f).sense = s.sense := rfl
@[simp] theorem State.onLink_table (f : Link → Link) (s : State) : (s.onLink f).table = s.table := rfl
@[simp] theorem State.onLink_recorder (f : Link → Link) (s : State) : (s.onLink f).recorder = s.recorder := rfl
@[simp] theorem State.onLink_monitors (f : Link → Link) (s : State) : (s.onLink f).monitors = s.monitors := rfl
@[simp] theorem State.onLink_settings (f : Link → Link) (s : State) : (s.onLink f).settings = s.settings := rfl
@[simp] theorem State.onLink_store (f : Link → Link) (s : State) : (s.onLink f).store = s.store := rfl
@[simp] theorem State.onLink_link (f : Link → Link) (s : State) : (s.onLink f).link = f s.link := rfl
@[simp] theorem State.onLink_pins (f : Link → Link) (s : State) : (s.onLink f).pins = s.pins := rfl
@[simp] theorem State.onLink_freeCount (f : Link → Link) (s : State) : (s.onLink f).freeCount = s.freeCount := rfl
@[simp] theorem State.onLink_pending (f : Link → Link) (s : State) : (s.onLink f).pending = s.pending := rfl

@[simp] theorem State.onPins_time (f : Pins → Pins) (s : State) : (s.onPins f).time = s.time := rfl
@[simp] theorem State.onPins_pulse (f : Pins → Pins) (s : State) : (s.onPins f).pulse = s.pulse := rfl
@[simp] theorem State.onPins_loop (f : Pins → Pins) (s : State) : (s.onPins f).loop = s.loop := rfl
@[simp] theorem State.onPins_run (f : Pins → Pins) (s : State) : (s.onPins f).run = s.run := rfl
@[simp] theorem State.onPins_conv (f : Pins → Pins) (s : State) : (s.onPins f).conv = s.conv := rfl
@[simp] theorem State.onPins_dose (f : Pins → Pins) (s : State) : (s.onPins f).dose = s.dose := rfl
@[simp] theorem State.onPins_pump (f : Pins → Pins) (s : State) : (s.onPins f).pump = s.pump := rfl
@[simp] theorem State.onPins_sense (f : Pins → Pins) (s : State) : (s.onPins f).sense = s.sense := rfl
@[simp] theorem State.onPins_table (f : Pins → Pins) (s : State) : (s.onPins f).table = s.table := rfl
@[simp] theorem State.onPins_recorder (f : Pins → Pins) (s : State) : (s.onPins f).recorder = s.recorder := rfl
@[simp] theorem State.onPins_monitors (f : Pins → Pins) (s : State) : (s.onPins f).monitors = s.monitors := rfl
@[simp] theorem State.onPins_settings (f : Pins → Pins) (s : State) : (s.onPins f).settings = s.settings := rfl
@[simp] theorem State.onPins_store (f : Pins → Pins) (s : State) : (s.onPins f).store = s.store := rfl
@[simp] theorem State.onPins_link (f : Pins → Pins) (s : State) : (s.onPins f).link = s.link := rfl
@[simp] theorem State.onPins_pins (f : Pins → Pins) (s : State) : (s.onPins f).pins = f s.pins := rfl
@[simp] theorem State.onPins_freeCount (f : Pins → Pins) (s : State) : (s.onPins f).freeCount = s.freeCount := rfl
@[simp] theorem State.onPins_pending (f : Pins → Pins) (s : State) : (s.onPins f).pending = s.pending := rfl

/-! ## The passing of time -/

theorem State.elapse_off (dt : Nat) (s : State) (h : s.time.phase = .off) : s.elapse dt = s := by
  simp [State.elapse, h]

@[simp] theorem elapseTime_phase (dt : Nat) (t : TimeBase) : (elapseTime dt t).phase = t.phase := by
  unfold elapseTime
  split <;> simp_all

@[simp] theorem State.elapse_phase (dt : Nat) (s : State) : (s.elapse dt).time.phase = s.time.phase := by
  unfold State.elapse
  split <;> simp_all

/-- What the passing of time changes: the clocks and the four countdowns. -/
theorem State.elapse_eq (dt : Nat) (s : State) :
    s.elapse dt =
      { s with time := (s.elapse dt).time, loop := (s.elapse dt).loop, sense := (s.elapse dt).sense
               store := (s.elapse dt).store, link := (s.elapse dt).link } := by
  unfold State.elapse
  split <;> rfl

@[simp] theorem State.elapse_pulse (dt : Nat) (s : State) : (s.elapse dt).pulse = s.pulse := by rw [State.elapse_eq]
@[simp] theorem State.elapse_run (dt : Nat) (s : State) : (s.elapse dt).run = s.run := by rw [State.elapse_eq]
@[simp] theorem State.elapse_conv (dt : Nat) (s : State) : (s.elapse dt).conv = s.conv := by rw [State.elapse_eq]
@[simp] theorem State.elapse_dose (dt : Nat) (s : State) : (s.elapse dt).dose = s.dose := by rw [State.elapse_eq]
@[simp] theorem State.elapse_pump (dt : Nat) (s : State) : (s.elapse dt).pump = s.pump := by rw [State.elapse_eq]
@[simp] theorem State.elapse_table (dt : Nat) (s : State) : (s.elapse dt).table = s.table := by rw [State.elapse_eq]
@[simp] theorem State.elapse_recorder (dt : Nat) (s : State) : (s.elapse dt).recorder = s.recorder := by rw [State.elapse_eq]
@[simp] theorem State.elapse_monitors (dt : Nat) (s : State) : (s.elapse dt).monitors = s.monitors := by rw [State.elapse_eq]
@[simp] theorem State.elapse_settings (dt : Nat) (s : State) : (s.elapse dt).settings = s.settings := by rw [State.elapse_eq]
@[simp] theorem State.elapse_pins (dt : Nat) (s : State) : (s.elapse dt).pins = s.pins := by rw [State.elapse_eq]
@[simp] theorem State.elapse_freeCount (dt : Nat) (s : State) : (s.elapse dt).freeCount = s.freeCount := by rw [State.elapse_eq]
@[simp] theorem State.elapse_pending (dt : Nat) (s : State) : (s.elapse dt).pending = s.pending := by rw [State.elapse_eq]

@[simp] theorem State.elapse_live (dt : Nat) (s : State) : (s.elapse dt).live = s.live := by
  simp [State.live]

/-- The link's queue, pending pairs and receiver do not change as time passes. -/
theorem elapse_link_kept (dt : Nat) (s : State) :
    (s.elapse dt).link = { s.link with tx := (s.elapse dt).link.tx } := by
  unfold State.elapse
  split <;> simp [elapseLink]

@[simp] theorem State.elapse_queue (dt : Nat) (s : State) : (s.elapse dt).link.queue = s.link.queue := by
  rw [elapse_link_kept]

@[simp] theorem State.elapse_notices (dt : Nat) (s : State) : (s.elapse dt).link.notices = s.link.notices := by
  rw [elapse_link_kept]

@[simp] theorem State.elapse_receiver (dt : Nat) (s : State) : (s.elapse dt).link.receiver = s.link.receiver := by
  rw [elapse_link_kept]

/-- Of the store only the time left of a write changes as time passes. -/
theorem elapse_store_kept (dt : Nat) (s : State) :
    (s.elapse dt).store = { s.store with writing := (s.elapse dt).store.writing } := by
  unfold State.elapse
  split <;> simp [elapseStore]

/-- The write in progress keeps its content and its stale mark as time passes. -/
theorem elapse_writing (dt : Nat) (s : State) :
    (s.elapse dt).store.writing
      = if s.time.phase = .off then s.store.writing
        else s.store.writing.map fun w => { w with left := w.left - dt } := by
  unfold State.elapse
  split <;> simp_all [elapseStore]

/-! ## The store listed again at a restart (R176) -/

@[simp] theorem relist_sections (m : PerSection Bool) (f : Bool) (st : Store) : (st.relist m f).sections = st.sections := rfl
@[simp] theorem relist_flags (m : PerSection Bool) (f : Bool) (st : Store) : (st.relist m f).flags = st.flags := rfl
@[simp] theorem relist_ring (m : PerSection Bool) (f : Bool) (st : Store) : (st.relist m f).ring = st.ring := rfl
@[simp] theorem relist_resume (m : PerSection Bool) (f : Bool) (st : Store) : (st.relist m f).resume = st.resume := rfl
@[simp] theorem relist_writing (m : PerSection Bool) (f : Bool) (st : Store) : (st.relist m f).writing = st.writing := rfl
@[simp] theorem relist_warningResume (m : PerSection Bool) (f : Bool) (st : Store) :
    (st.relist m f).warningResume = st.warningResume := rfl

/-- An item is listed after `relist` when it was listed or is unstored. -/
@[simp] theorem relist_listed (m : PerSection Bool) (f : Bool) (st : Store) (i : SectionId) :
    (st.relist m f).list.sections.get i = (st.list.sections.get i || m.get i) := by
  cases i with
  | run r => fin_cases r <;> rfl
  | _ => rfl

end Sys2Proof.Machine
end

