-- ==== Sys2Proof/Laws/Frames.lean ====
section
/-! SUPPORT. What each operation leaves unchanged: one lemma per field an operation does not touch. -/

namespace Sys2Proof.Machine

/-- A fold keeps what each of its steps keeps. -/
theorem foldl_keeps {α β : Type} (proj : State → β) (f : State → α → State)
    (h : ∀ s x, proj (f s x) = proj s) (l : List α) (s : State) : proj (l.foldl f s) = proj s := by
  induction l generalizing s with
  | nil => rfl
  | cons x xs ih => rw [List.foldl_cons, ih, h]

@[simp] theorem raise_time (c : NoticeClass) (n : Nat) (s : State) : (raise c n s).time = s.time := by unfold raise; split <;> simp
@[simp] theorem raise_pulse (c : NoticeClass) (n : Nat) (s : State) : (raise c n s).pulse = s.pulse := by unfold raise; split <;> simp
@[simp] theorem raise_loop (c : NoticeClass) (n : Nat) (s : State) : (raise c n s).loop = s.loop := by unfold raise; split <;> simp
@[simp] theorem raise_run (c : NoticeClass) (n : Nat) (s : State) : (raise c n s).run = s.run := by unfold raise; split <;> simp
@[simp] theorem raise_conv (c : NoticeClass) (n : Nat) (s : State) : (raise c n s).conv = s.conv := by unfold raise; split <;> simp
@[simp] theorem raise_dose (c : NoticeClass) (n : Nat) (s : State) : (raise c n s).dose = s.dose := by unfold raise; split <;> simp
@[simp] theorem raise_pump (c : NoticeClass) (n : Nat) (s : State) : (raise c n s).pump = s.pump := by unfold raise; split <;> simp
@[simp] theorem raise_sense (c : NoticeClass) (n : Nat) (s : State) : (raise c n s).sense = s.sense := by unfold raise; split <;> simp
@[simp] theorem raise_table (c : NoticeClass) (n : Nat) (s : State) : (raise c n s).table = s.table := by unfold raise; split <;> simp
@[simp] theorem raise_recorder (c : NoticeClass) (n : Nat) (s : State) : (raise c n s).recorder = s.recorder := by unfold raise; split <;> simp
@[simp] theorem raise_monitors (c : NoticeClass) (n : Nat) (s : State) : (raise c n s).monitors = s.monitors := by unfold raise; split <;> simp
@[simp] theorem raise_settings (c : NoticeClass) (n : Nat) (s : State) : (raise c n s).settings = s.settings := by unfold raise; split <;> simp
@[simp] theorem raise_store (c : NoticeClass) (n : Nat) (s : State) : (raise c n s).store = s.store := by unfold raise; split <;> simp
@[simp] theorem raise_pins (c : NoticeClass) (n : Nat) (s : State) : (raise c n s).pins = s.pins := by unfold raise; split <;> simp
@[simp] theorem raise_freeCount (c : NoticeClass) (n : Nat) (s : State) : (raise c n s).freeCount = s.freeCount := by unfold raise; split <;> simp
@[simp] theorem raise_pending (c : NoticeClass) (n : Nat) (s : State) : (raise c n s).pending = s.pending := by unfold raise; split <;> simp

@[simp] theorem raiseDosing_time (s : State) : (raiseDosing s).time = s.time := by simp [raiseDosing]
@[simp] theorem raiseDosing_pulse (s : State) : (raiseDosing s).pulse = s.pulse := by simp [raiseDosing]
@[simp] theorem raiseDosing_loop (s : State) : (raiseDosing s).loop = s.loop := by simp [raiseDosing]
@[simp] theorem raiseDosing_run (s : State) : (raiseDosing s).run = s.run := by simp [raiseDosing]
@[simp] theorem raiseDosing_conv (s : State) : (raiseDosing s).conv = s.conv := by simp [raiseDosing]
@[simp] theorem raiseDosing_dose (s : State) : (raiseDosing s).dose = s.dose := by simp [raiseDosing]
@[simp] theorem raiseDosing_pump (s : State) : (raiseDosing s).pump = s.pump := by simp [raiseDosing]
@[simp] theorem raiseDosing_sense (s : State) : (raiseDosing s).sense = s.sense := by simp [raiseDosing]
@[simp] theorem raiseDosing_table (s : State) : (raiseDosing s).table = s.table := by simp [raiseDosing]
@[simp] theorem raiseDosing_recorder (s : State) : (raiseDosing s).recorder = s.recorder := by simp [raiseDosing]
@[simp] theorem raiseDosing_monitors (s : State) : (raiseDosing s).monitors = s.monitors := by simp [raiseDosing]
@[simp] theorem raiseDosing_settings (s : State) : (raiseDosing s).settings = s.settings := by simp [raiseDosing]
@[simp] theorem raiseDosing_store (s : State) : (raiseDosing s).store = s.store := by simp [raiseDosing]
@[simp] theorem raiseDosing_pins (s : State) : (raiseDosing s).pins = s.pins := by simp [raiseDosing]
@[simp] theorem raiseDosing_freeCount (s : State) : (raiseDosing s).freeCount = s.freeCount := by simp [raiseDosing]
@[simp] theorem raiseDosing_pending (s : State) : (raiseDosing s).pending = s.pending := by simp [raiseDosing]

@[simp] theorem raiseRun_time (r : RunId) (s : State) : (raiseRun r s).time = s.time := by simp [raiseRun]
@[simp] theorem raiseRun_pulse (r : RunId) (s : State) : (raiseRun r s).pulse = s.pulse := by simp [raiseRun]
@[simp] theorem raiseRun_loop (r : RunId) (s : State) : (raiseRun r s).loop = s.loop := by simp [raiseRun]
@[simp] theorem raiseRun_run (r : RunId) (s : State) : (raiseRun r s).run = s.run := by simp [raiseRun]
@[simp] theorem raiseRun_conv (r : RunId) (s : State) : (raiseRun r s).conv = s.conv := by simp [raiseRun]
@[simp] theorem raiseRun_dose (r : RunId) (s : State) : (raiseRun r s).dose = s.dose := by simp [raiseRun]
@[simp] theorem raiseRun_pump (r : RunId) (s : State) : (raiseRun r s).pump = s.pump := by simp [raiseRun]
@[simp] theorem raiseRun_sense (r : RunId) (s : State) : (raiseRun r s).sense = s.sense := by simp [raiseRun]
@[simp] theorem raiseRun_table (r : RunId) (s : State) : (raiseRun r s).table = s.table := by simp [raiseRun]
@[simp] theorem raiseRun_recorder (r : RunId) (s : State) : (raiseRun r s).recorder = s.recorder := by simp [raiseRun]
@[simp] theorem raiseRun_monitors (r : RunId) (s : State) : (raiseRun r s).monitors = s.monitors := by simp [raiseRun]
@[simp] theorem raiseRun_settings (r : RunId) (s : State) : (raiseRun r s).settings = s.settings := by simp [raiseRun]
@[simp] theorem raiseRun_store (r : RunId) (s : State) : (raiseRun r s).store = s.store := by simp [raiseRun]
@[simp] theorem raiseRun_pins (r : RunId) (s : State) : (raiseRun r s).pins = s.pins := by simp [raiseRun]
@[simp] theorem raiseRun_freeCount (r : RunId) (s : State) : (raiseRun r s).freeCount = s.freeCount := by simp [raiseRun]
@[simp] theorem raiseRun_pending (r : RunId) (s : State) : (raiseRun r s).pending = s.pending := by simp [raiseRun]

@[simp] theorem raiseRuns_time (test : RunId → Bool) (s : State) : (raiseRuns test s).time = s.time := by exact foldl_keeps (·.time) _ (fun s r => by split <;> simp) _ s
@[simp] theorem raiseRuns_pulse (test : RunId → Bool) (s : State) : (raiseRuns test s).pulse = s.pulse := by exact foldl_keeps (·.pulse) _ (fun s r => by split <;> simp) _ s
@[simp] theorem raiseRuns_loop (test : RunId → Bool) (s : State) : (raiseRuns test s).loop = s.loop := by exact foldl_keeps (·.loop) _ (fun s r => by split <;> simp) _ s
@[simp] theorem raiseRuns_run (test : RunId → Bool) (s : State) : (raiseRuns test s).run = s.run := by exact foldl_keeps (·.run) _ (fun s r => by split <;> simp) _ s
@[simp] theorem raiseRuns_conv (test : RunId → Bool) (s : State) : (raiseRuns test s).conv = s.conv := by exact foldl_keeps (·.conv) _ (fun s r => by split <;> simp) _ s
@[simp] theorem raiseRuns_dose (test : RunId → Bool) (s : State) : (raiseRuns test s).dose = s.dose := by exact foldl_keeps (·.dose) _ (fun s r => by split <;> simp) _ s
@[simp] theorem raiseRuns_pump (test : RunId → Bool) (s : State) : (raiseRuns test s).pump = s.pump := by exact foldl_keeps (·.pump) _ (fun s r => by split <;> simp) _ s
@[simp] theorem raiseRuns_sense (test : RunId → Bool) (s : State) : (raiseRuns test s).sense = s.sense := by exact foldl_keeps (·.sense) _ (fun s r => by split <;> simp) _ s
@[simp] theorem raiseRuns_table (test : RunId → Bool) (s : State) : (raiseRuns test s).table = s.table := by exact foldl_keeps (·.table) _ (fun s r => by split <;> simp) _ s
@[simp] theorem raiseRuns_recorder (test : RunId → Bool) (s : State) : (raiseRuns test s).recorder = s.recorder := by exact foldl_keeps (·.recorder) _ (fun s r => by split <;> simp) _ s
@[simp] theorem raiseRuns_monitors (test : RunId → Bool) (s : State) : (raiseRuns test s).monitors = s.monitors := by exact foldl_keeps (·.monitors) _ (fun s r => by split <;> simp) _ s
@[simp] theorem raiseRuns_settings (test : RunId → Bool) (s : State) : (raiseRuns test s).settings = s.settings := by exact foldl_keeps (·.settings) _ (fun s r => by split <;> simp) _ s
@[simp] theorem raiseRuns_store (test : RunId → Bool) (s : State) : (raiseRuns test s).store = s.store := by exact foldl_keeps (·.store) _ (fun s r => by split <;> simp) _ s
@[simp] theorem raiseRuns_pins (test : RunId → Bool) (s : State) : (raiseRuns test s).pins = s.pins := by exact foldl_keeps (·.pins) _ (fun s r => by split <;> simp) _ s
@[simp] theorem raiseRuns_freeCount (test : RunId → Bool) (s : State) : (raiseRuns test s).freeCount = s.freeCount := by exact foldl_keeps (·.freeCount) _ (fun s r => by split <;> simp) _ s
@[simp] theorem raiseRuns_pending (test : RunId → Bool) (s : State) : (raiseRuns test s).pending = s.pending := by exact foldl_keeps (·.pending) _ (fun s r => by split <;> simp) _ s

@[simp] theorem addItem_time (i : StoreItem) (s : State) : (addItem i s).time = s.time := by simp [addItem]
@[simp] theorem addItem_pulse (i : StoreItem) (s : State) : (addItem i s).pulse = s.pulse := by simp [addItem]
@[simp] theorem addItem_loop (i : StoreItem) (s : State) : (addItem i s).loop = s.loop := by simp [addItem]
@[simp] theorem addItem_run (i : StoreItem) (s : State) : (addItem i s).run = s.run := by simp [addItem]
@[simp] theorem addItem_conv (i : StoreItem) (s : State) : (addItem i s).conv = s.conv := by simp [addItem]
@[simp] theorem addItem_dose (i : StoreItem) (s : State) : (addItem i s).dose = s.dose := by simp [addItem]
@[simp] theorem addItem_pump (i : StoreItem) (s : State) : (addItem i s).pump = s.pump := by simp [addItem]
@[simp] theorem addItem_sense (i : StoreItem) (s : State) : (addItem i s).sense = s.sense := by simp [addItem]
@[simp] theorem addItem_table (i : StoreItem) (s : State) : (addItem i s).table = s.table := by simp [addItem]
@[simp] theorem addItem_recorder (i : StoreItem) (s : State) : (addItem i s).recorder = s.recorder := by simp [addItem]
@[simp] theorem addItem_monitors (i : StoreItem) (s : State) : (addItem i s).monitors = s.monitors := by simp [addItem]
@[simp] theorem addItem_settings (i : StoreItem) (s : State) : (addItem i s).settings = s.settings := by simp [addItem]
@[simp] theorem addItem_link (i : StoreItem) (s : State) : (addItem i s).link = s.link := by simp [addItem]
@[simp] theorem addItem_pins (i : StoreItem) (s : State) : (addItem i s).pins = s.pins := by simp [addItem]
@[simp] theorem addItem_freeCount (i : StoreItem) (s : State) : (addItem i s).freeCount = s.freeCount := by simp [addItem]
@[simp] theorem addItem_pending (i : StoreItem) (s : State) : (addItem i s).pending = s.pending := by simp [addItem]

@[simp] theorem addSections_time (w : PerSection Bool) (s : State) : (addSections w s).time = s.time := by exact foldl_keeps (·.time) _ (fun s r => by split <;> simp) _ s
@[simp] theorem addSections_pulse (w : PerSection Bool) (s : State) : (addSections w s).pulse = s.pulse := by exact foldl_keeps (·.pulse) _ (fun s r => by split <;> simp) _ s
@[simp] theorem addSections_loop (w : PerSection Bool) (s : State) : (addSections w s).loop = s.loop := by exact foldl_keeps (·.loop) _ (fun s r => by split <;> simp) _ s
@[simp] theorem addSections_run (w : PerSection Bool) (s : State) : (addSections w s).run = s.run := by exact foldl_keeps (·.run) _ (fun s r => by split <;> simp) _ s
@[simp] theorem addSections_conv (w : PerSection Bool) (s : State) : (addSections w s).conv = s.conv := by exact foldl_keeps (·.conv) _ (fun s r => by split <;> simp) _ s
@[simp] theorem addSections_dose (w : PerSection Bool) (s : State) : (addSections w s).dose = s.dose := by exact foldl_keeps (·.dose) _ (fun s r => by split <;> simp) _ s
@[simp] theorem addSections_pump (w : PerSection Bool) (s : State) : (addSections w s).pump = s.pump := by exact foldl_keeps (·.pump) _ (fun s r => by split <;> simp) _ s
@[simp] theorem addSections_sense (w : PerSection Bool) (s : State) : (addSections w s).sense = s.sense := by exact foldl_keeps (·.sense) _ (fun s r => by split <;> simp) _ s
@[simp] theorem addSections_table (w : PerSection Bool) (s : State) : (addSections w s).table = s.table := by exact foldl_keeps (·.table) _ (fun s r => by split <;> simp) _ s
@[simp] theorem addSections_recorder (w : PerSection Bool) (s : State) : (addSections w s).recorder = s.recorder := by exact foldl_keeps (·.recorder) _ (fun s r => by split <;> simp) _ s
@[simp] theorem addSections_monitors (w : PerSection Bool) (s : State) : (addSections w s).monitors = s.monitors := by exact foldl_keeps (·.monitors) _ (fun s r => by split <;> simp) _ s
@[simp] theorem addSections_settings (w : PerSection Bool) (s : State) : (addSections w s).settings = s.settings := by exact foldl_keeps (·.settings) _ (fun s r => by split <;> simp) _ s
@[simp] theorem addSections_link (w : PerSection Bool) (s : State) : (addSections w s).link = s.link := by exact foldl_keeps (·.link) _ (fun s r => by split <;> simp) _ s
@[simp] theorem addSections_pins (w : PerSection Bool) (s : State) : (addSections w s).pins = s.pins := by exact foldl_keeps (·.pins) _ (fun s r => by split <;> simp) _ s
@[simp] theorem addSections_freeCount (w : PerSection Bool) (s : State) : (addSections w s).freeCount = s.freeCount := by exact foldl_keeps (·.freeCount) _ (fun s r => by split <;> simp) _ s
@[simp] theorem addSections_pending (w : PerSection Bool) (s : State) : (addSections w s).pending = s.pending := by exact foldl_keeps (·.pending) _ (fun s r => by split <;> simp) _ s

@[simp] theorem onStation_time (f : StationAccumulators → StationAccumulators) (s : State) : (onStation f s).time = s.time := by simp [onStation]
@[simp] theorem onStation_pulse (f : StationAccumulators → StationAccumulators) (s : State) : (onStation f s).pulse = s.pulse := by simp [onStation]
@[simp] theorem onStation_loop (f : StationAccumulators → StationAccumulators) (s : State) : (onStation f s).loop = s.loop := by simp [onStation]
@[simp] theorem onStation_run (f : StationAccumulators → StationAccumulators) (s : State) : (onStation f s).run = s.run := by simp [onStation]
@[simp] theorem onStation_conv (f : StationAccumulators → StationAccumulators) (s : State) : (onStation f s).conv = s.conv := by simp [onStation]
@[simp] theorem onStation_dose (f : StationAccumulators → StationAccumulators) (s : State) : (onStation f s).dose = s.dose := by simp [onStation]
@[simp] theorem onStation_pump (f : StationAccumulators → StationAccumulators) (s : State) : (onStation f s).pump = s.pump := by simp [onStation]
@[simp] theorem onStation_sense (f : StationAccumulators → StationAccumulators) (s : State) : (onStation f s).sense = s.sense := by simp [onStation]
@[simp] theorem onStation_table (f : StationAccumulators → StationAccumulators) (s : State) : (onStation f s).table = s.table := by simp [onStation]
@[simp] theorem onStation_monitors (f : StationAccumulators → StationAccumulators) (s : State) : (onStation f s).monitors = s.monitors := by simp [onStation]
@[simp] theorem onStation_settings (f : StationAccumulators → StationAccumulators) (s : State) : (onStation f s).settings = s.settings := by simp [onStation]
@[simp] theorem onStation_store (f : StationAccumulators → StationAccumulators) (s : State) : (onStation f s).store = s.store := by simp [onStation]
@[simp] theorem onStation_link (f : StationAccumulators → StationAccumulators) (s : State) : (onStation f s).link = s.link := by simp [onStation]
@[simp] theorem onStation_pins (f : StationAccumulators → StationAccumulators) (s : State) : (onStation f s).pins = s.pins := by simp [onStation]
@[simp] theorem onStation_freeCount (f : StationAccumulators → StationAccumulators) (s : State) : (onStation f s).freeCount = s.freeCount := by simp [onStation]
@[simp] theorem onStation_pending (f : StationAccumulators → StationAccumulators) (s : State) : (onStation f s).pending = s.pending := by simp [onStation]

@[simp] theorem onStrokes_time (p : Side) (f : StrokeCounts → StrokeCounts) (s : State) : (onStrokes p f s).time = s.time := by simp [onStrokes]
@[simp] theorem onStrokes_pulse (p : Side) (f : StrokeCounts → StrokeCounts) (s : State) : (onStrokes p f s).pulse = s.pulse := by simp [onStrokes]
@[simp] theorem onStrokes_loop (p : Side) (f : StrokeCounts → StrokeCounts) (s : State) : (onStrokes p f s).loop = s.loop := by simp [onStrokes]
@[simp] theorem onStrokes_run (p : Side) (f : StrokeCounts → StrokeCounts) (s : State) : (onStrokes p f s).run = s.run := by simp [onStrokes]
@[simp] theorem onStrokes_conv (p : Side) (f : StrokeCounts → StrokeCounts) (s : State) : (onStrokes p f s).conv = s.conv := by simp [onStrokes]
@[simp] theorem onStrokes_dose (p : Side) (f : StrokeCounts → StrokeCounts) (s : State) : (onStrokes p f s).dose = s.dose := by simp [onStrokes]
@[simp] theorem onStrokes_pump (p : Side) (f : StrokeCounts → StrokeCounts) (s : State) : (onStrokes p f s).pump = s.pump := by simp [onStrokes]
@[simp] theorem onStrokes_sense (p : Side) (f : StrokeCounts → StrokeCounts) (s : State) : (onStrokes p f s).sense = s.sense := by simp [onStrokes]
@[simp] theorem onStrokes_table (p : Side) (f : StrokeCounts → StrokeCounts) (s : State) : (onStrokes p f s).table = s.table := by simp [onStrokes]
@[simp] theorem onStrokes_monitors (p : Side) (f : StrokeCounts → StrokeCounts) (s : State) : (onStrokes p f s).monitors = s.monitors := by simp [onStrokes]
@[simp] theorem onStrokes_settings (p : Side) (f : StrokeCounts → StrokeCounts) (s : State) : (onStrokes p f s).settings = s.settings := by simp [onStrokes]
@[simp] theorem onStrokes_store (p : Side) (f : StrokeCounts → StrokeCounts) (s : State) : (onStrokes p f s).store = s.store := by simp [onStrokes]
@[simp] theorem onStrokes_link (p : Side) (f : StrokeCounts → StrokeCounts) (s : State) : (onStrokes p f s).link = s.link := by simp [onStrokes]
@[simp] theorem onStrokes_pins (p : Side) (f : StrokeCounts → StrokeCounts) (s : State) : (onStrokes p f s).pins = s.pins := by simp [onStrokes]
@[simp] theorem onStrokes_freeCount (p : Side) (f : StrokeCounts → StrokeCounts) (s : State) : (onStrokes p f s).freeCount = s.freeCount := by simp [onStrokes]
@[simp] theorem onStrokes_pending (p : Side) (f : StrokeCounts → StrokeCounts) (s : State) : (onStrokes p f s).pending = s.pending := by simp [onStrokes]

@[simp] theorem dropFrame_time (s : State) : (dropFrame s).time = s.time := by simp [dropFrame]
@[simp] theorem dropFrame_pulse (s : State) : (dropFrame s).pulse = s.pulse := by simp [dropFrame]
@[simp] theorem dropFrame_loop (s : State) : (dropFrame s).loop = s.loop := by simp [dropFrame]
@[simp] theorem dropFrame_run (s : State) : (dropFrame s).run = s.run := by simp [dropFrame]
@[simp] theorem dropFrame_conv (s : State) : (dropFrame s).conv = s.conv := by simp [dropFrame]
@[simp] theorem dropFrame_dose (s : State) : (dropFrame s).dose = s.dose := by simp [dropFrame]
@[simp] theorem dropFrame_pump (s : State) : (dropFrame s).pump = s.pump := by simp [dropFrame]
@[simp] theorem dropFrame_sense (s : State) : (dropFrame s).sense = s.sense := by simp [dropFrame]
@[simp] theorem dropFrame_table (s : State) : (dropFrame s).table = s.table := by simp [dropFrame]
@[simp] theorem dropFrame_recorder (s : State) : (dropFrame s).recorder = s.recorder := by simp [dropFrame]
@[simp] theorem dropFrame_monitors (s : State) : (dropFrame s).monitors = s.monitors := by simp [dropFrame]
@[simp] theorem dropFrame_settings (s : State) : (dropFrame s).settings = s.settings := by simp [dropFrame]
@[simp] theorem dropFrame_store (s : State) : (dropFrame s).store = s.store := by simp [dropFrame]
@[simp] theorem dropFrame_pins (s : State) : (dropFrame s).pins = s.pins := by simp [dropFrame]
@[simp] theorem dropFrame_freeCount (s : State) : (dropFrame s).freeCount = s.freeCount := by simp [dropFrame]
@[simp] theorem dropFrame_pending (s : State) : (dropFrame s).pending = s.pending := by simp [dropFrame]

@[simp] theorem serveLink_time (s : State) : (serveLink s).time = s.time := by unfold serveLink; (repeat' split) <;> simp
@[simp] theorem serveLink_pulse (s : State) : (serveLink s).pulse = s.pulse := by unfold serveLink; (repeat' split) <;> simp
@[simp] theorem serveLink_loop (s : State) : (serveLink s).loop = s.loop := by unfold serveLink; (repeat' split) <;> simp
@[simp] theorem serveLink_run (s : State) : (serveLink s).run = s.run := by unfold serveLink; (repeat' split) <;> simp
@[simp] theorem serveLink_conv (s : State) : (serveLink s).conv = s.conv := by unfold serveLink; (repeat' split) <;> simp
@[simp] theorem serveLink_dose (s : State) : (serveLink s).dose = s.dose := by unfold serveLink; (repeat' split) <;> simp
@[simp] theorem serveLink_pump (s : State) : (serveLink s).pump = s.pump := by unfold serveLink; (repeat' split) <;> simp
@[simp] theorem serveLink_sense (s : State) : (serveLink s).sense = s.sense := by unfold serveLink; (repeat' split) <;> simp
@[simp] theorem serveLink_table (s : State) : (serveLink s).table = s.table := by unfold serveLink; (repeat' split) <;> simp
@[simp] theorem serveLink_recorder (s : State) : (serveLink s).recorder = s.recorder := by unfold serveLink; (repeat' split) <;> simp
@[simp] theorem serveLink_monitors (s : State) : (serveLink s).monitors = s.monitors := by unfold serveLink; (repeat' split) <;> simp
@[simp] theorem serveLink_settings (s : State) : (serveLink s).settings = s.settings := by unfold serveLink; (repeat' split) <;> simp
@[simp] theorem serveLink_store (s : State) : (serveLink s).store = s.store := by unfold serveLink; (repeat' split) <;> simp
@[simp] theorem serveLink_pins (s : State) : (serveLink s).pins = s.pins := by unfold serveLink; (repeat' split) <;> simp
@[simp] theorem serveLink_freeCount (s : State) : (serveLink s).freeCount = s.freeCount := by unfold serveLink; (repeat' split) <;> simp
@[simp] theorem serveLink_pending (s : State) : (serveLink s).pending = s.pending := by unfold serveLink; (repeat' split) <;> simp

@[simp] theorem startWrite_time (i : StoreItem) (s : State) : (startWrite i s).time = s.time := by simp [startWrite]
@[simp] theorem startWrite_pulse (i : StoreItem) (s : State) : (startWrite i s).pulse = s.pulse := by simp [startWrite]
@[simp] theorem startWrite_loop (i : StoreItem) (s : State) : (startWrite i s).loop = s.loop := by simp [startWrite]
@[simp] theorem startWrite_run (i : StoreItem) (s : State) : (startWrite i s).run = s.run := by simp [startWrite]
@[simp] theorem startWrite_conv (i : StoreItem) (s : State) : (startWrite i s).conv = s.conv := by simp [startWrite]
@[simp] theorem startWrite_dose (i : StoreItem) (s : State) : (startWrite i s).dose = s.dose := by simp [startWrite]
@[simp] theorem startWrite_pump (i : StoreItem) (s : State) : (startWrite i s).pump = s.pump := by simp [startWrite]
@[simp] theorem startWrite_sense (i : StoreItem) (s : State) : (startWrite i s).sense = s.sense := by simp [startWrite]
@[simp] theorem startWrite_table (i : StoreItem) (s : State) : (startWrite i s).table = s.table := by simp [startWrite]
@[simp] theorem startWrite_recorder (i : StoreItem) (s : State) : (startWrite i s).recorder = s.recorder := by simp [startWrite]
@[simp] theorem startWrite_monitors (i : StoreItem) (s : State) : (startWrite i s).monitors = s.monitors := by simp [startWrite]
@[simp] theorem startWrite_settings (i : StoreItem) (s : State) : (startWrite i s).settings = s.settings := by simp [startWrite]
@[simp] theorem startWrite_link (i : StoreItem) (s : State) : (startWrite i s).link = s.link := by simp [startWrite]
@[simp] theorem startWrite_pins (i : StoreItem) (s : State) : (startWrite i s).pins = s.pins := by simp [startWrite]
@[simp] theorem startWrite_freeCount (i : StoreItem) (s : State) : (startWrite i s).freeCount = s.freeCount := by simp [startWrite]
@[simp] theorem startWrite_pending (i : StoreItem) (s : State) : (startWrite i s).pending = s.pending := by simp [startWrite]

@[simp] theorem serveStore_time (s : State) : (serveStore s).time = s.time := by unfold serveStore; (repeat' split) <;> simp
@[simp] theorem serveStore_pulse (s : State) : (serveStore s).pulse = s.pulse := by unfold serveStore; (repeat' split) <;> simp
@[simp] theorem serveStore_loop (s : State) : (serveStore s).loop = s.loop := by unfold serveStore; (repeat' split) <;> simp
@[simp] theorem serveStore_run (s : State) : (serveStore s).run = s.run := by unfold serveStore; (repeat' split) <;> simp
@[simp] theorem serveStore_conv (s : State) : (serveStore s).conv = s.conv := by unfold serveStore; (repeat' split) <;> simp
@[simp] theorem serveStore_dose (s : State) : (serveStore s).dose = s.dose := by unfold serveStore; (repeat' split) <;> simp
@[simp] theorem serveStore_pump (s : State) : (serveStore s).pump = s.pump := by unfold serveStore; (repeat' split) <;> simp
@[simp] theorem serveStore_sense (s : State) : (serveStore s).sense = s.sense := by unfold serveStore; (repeat' split) <;> simp
@[simp] theorem serveStore_table (s : State) : (serveStore s).table = s.table := by unfold serveStore; (repeat' split) <;> simp
@[simp] theorem serveStore_recorder (s : State) : (serveStore s).recorder = s.recorder := by unfold serveStore; (repeat' split) <;> simp
@[simp] theorem serveStore_monitors (s : State) : (serveStore s).monitors = s.monitors := by unfold serveStore; (repeat' split) <;> simp
@[simp] theorem serveStore_settings (s : State) : (serveStore s).settings = s.settings := by unfold serveStore; (repeat' split) <;> simp
@[simp] theorem serveStore_link (s : State) : (serveStore s).link = s.link := by unfold serveStore; (repeat' split) <;> simp
@[simp] theorem serveStore_pins (s : State) : (serveStore s).pins = s.pins := by unfold serveStore; (repeat' split) <;> simp
@[simp] theorem serveStore_freeCount (s : State) : (serveStore s).freeCount = s.freeCount := by unfold serveStore; (repeat' split) <;> simp
@[simp] theorem serveStore_pending (s : State) : (serveStore s).pending = s.pending := by unfold serveStore; (repeat' split) <;> simp

@[simp] theorem clearMarks_time (w : StoreWrite) (s : State) : (clearMarks w s).time = s.time := by unfold clearMarks; (repeat' split) <;> simp
@[simp] theorem clearMarks_pulse (w : StoreWrite) (s : State) : (clearMarks w s).pulse = s.pulse := by unfold clearMarks; (repeat' split) <;> simp
@[simp] theorem clearMarks_loop (w : StoreWrite) (s : State) : (clearMarks w s).loop = s.loop := by unfold clearMarks; (repeat' split) <;> simp
@[simp] theorem clearMarks_run (w : StoreWrite) (s : State) : (clearMarks w s).run = s.run := by unfold clearMarks; (repeat' split) <;> simp
@[simp] theorem clearMarks_conv (w : StoreWrite) (s : State) : (clearMarks w s).conv = s.conv := by unfold clearMarks; (repeat' split) <;> simp
@[simp] theorem clearMarks_dose (w : StoreWrite) (s : State) : (clearMarks w s).dose = s.dose := by unfold clearMarks; (repeat' split) <;> simp
@[simp] theorem clearMarks_pump (w : StoreWrite) (s : State) : (clearMarks w s).pump = s.pump := by unfold clearMarks; (repeat' split) <;> simp
@[simp] theorem clearMarks_sense (w : StoreWrite) (s : State) : (clearMarks w s).sense = s.sense := by unfold clearMarks; (repeat' split) <;> simp
@[simp] theorem clearMarks_table (w : StoreWrite) (s : State) : (clearMarks w s).table = s.table := by unfold clearMarks; (repeat' split) <;> simp
@[simp] theorem clearMarks_monitors (w : StoreWrite) (s : State) : (clearMarks w s).monitors = s.monitors := by unfold clearMarks; (repeat' split) <;> simp
@[simp] theorem clearMarks_store (w : StoreWrite) (s : State) : (clearMarks w s).store = s.store := by unfold clearMarks; (repeat' split) <;> simp
@[simp] theorem clearMarks_link (w : StoreWrite) (s : State) : (clearMarks w s).link = s.link := by unfold clearMarks; (repeat' split) <;> simp
@[simp] theorem clearMarks_pins (w : StoreWrite) (s : State) : (clearMarks w s).pins = s.pins := by unfold clearMarks; (repeat' split) <;> simp
@[simp] theorem clearMarks_freeCount (w : StoreWrite) (s : State) : (clearMarks w s).freeCount = s.freeCount := by unfold clearMarks; (repeat' split) <;> simp
@[simp] theorem clearMarks_pending (w : StoreWrite) (s : State) : (clearMarks w s).pending = s.pending := by unfold clearMarks; (repeat' split) <;> simp

@[simp] theorem completeWrite_time (w : StoreWrite) (s : State) : (completeWrite w s).time = s.time := by simp [completeWrite]
@[simp] theorem completeWrite_pulse (w : StoreWrite) (s : State) : (completeWrite w s).pulse = s.pulse := by simp [completeWrite]
@[simp] theorem completeWrite_loop (w : StoreWrite) (s : State) : (completeWrite w s).loop = s.loop := by simp [completeWrite]
@[simp] theorem completeWrite_run (w : StoreWrite) (s : State) : (completeWrite w s).run = s.run := by simp [completeWrite]
@[simp] theorem completeWrite_conv (w : StoreWrite) (s : State) : (completeWrite w s).conv = s.conv := by simp [completeWrite]
@[simp] theorem completeWrite_dose (w : StoreWrite) (s : State) : (completeWrite w s).dose = s.dose := by simp [completeWrite]
@[simp] theorem completeWrite_pump (w : StoreWrite) (s : State) : (completeWrite w s).pump = s.pump := by simp [completeWrite]
@[simp] theorem completeWrite_sense (w : StoreWrite) (s : State) : (completeWrite w s).sense = s.sense := by simp [completeWrite]
@[simp] theorem completeWrite_table (w : StoreWrite) (s : State) : (completeWrite w s).table = s.table := by simp [completeWrite]
@[simp] theorem completeWrite_monitors (w : StoreWrite) (s : State) : (completeWrite w s).monitors = s.monitors := by simp [completeWrite]
@[simp] theorem completeWrite_link (w : StoreWrite) (s : State) : (completeWrite w s).link = s.link := by simp [completeWrite]
@[simp] theorem completeWrite_pins (w : StoreWrite) (s : State) : (completeWrite w s).pins = s.pins := by simp [completeWrite]
@[simp] theorem completeWrite_freeCount (w : StoreWrite) (s : State) : (completeWrite w s).freeCount = s.freeCount := by simp [completeWrite]
@[simp] theorem completeWrite_pending (w : StoreWrite) (s : State) : (completeWrite w s).pending = s.pending := by simp [completeWrite]

@[simp] theorem finish_time (s : State) : (finish s).time = s.time := by simp [finish]
@[simp] theorem finish_pulse (s : State) : (finish s).pulse = s.pulse := by simp [finish]
@[simp] theorem finish_loop (s : State) : (finish s).loop = s.loop := by simp [finish]
@[simp] theorem finish_run (s : State) : (finish s).run = s.run := by simp [finish]
@[simp] theorem finish_conv (s : State) : (finish s).conv = s.conv := by simp [finish]
@[simp] theorem finish_dose (s : State) : (finish s).dose = s.dose := by simp [finish]
@[simp] theorem finish_pump (s : State) : (finish s).pump = s.pump := by simp [finish]
@[simp] theorem finish_sense (s : State) : (finish s).sense = s.sense := by simp [finish]
@[simp] theorem finish_table (s : State) : (finish s).table = s.table := by simp [finish]
@[simp] theorem finish_recorder (s : State) : (finish s).recorder = s.recorder := by simp [finish]
@[simp] theorem finish_monitors (s : State) : (finish s).monitors = s.monitors := by simp [finish]
@[simp] theorem finish_settings (s : State) : (finish s).settings = s.settings := by simp [finish]
@[simp] theorem finish_pins (s : State) : (finish s).pins = s.pins := by simp [finish]
@[simp] theorem finish_freeCount (s : State) : (finish s).freeCount = s.freeCount := by simp [finish]
@[simp] theorem finish_pending (s : State) : (finish s).pending = s.pending := by simp [finish]

@[simp] theorem queueReply_time (f : Frame) (s : State) : (queueReply f s).time = s.time := by simp [queueReply]
@[simp] theorem queueReply_pulse (f : Frame) (s : State) : (queueReply f s).pulse = s.pulse := by simp [queueReply]
@[simp] theorem queueReply_loop (f : Frame) (s : State) : (queueReply f s).loop = s.loop := by simp [queueReply]
@[simp] theorem queueReply_run (f : Frame) (s : State) : (queueReply f s).run = s.run := by simp [queueReply]
@[simp] theorem queueReply_conv (f : Frame) (s : State) : (queueReply f s).conv = s.conv := by simp [queueReply]
@[simp] theorem queueReply_dose (f : Frame) (s : State) : (queueReply f s).dose = s.dose := by simp [queueReply]
@[simp] theorem queueReply_pump (f : Frame) (s : State) : (queueReply f s).pump = s.pump := by simp [queueReply]
@[simp] theorem queueReply_sense (f : Frame) (s : State) : (queueReply f s).sense = s.sense := by simp [queueReply]
@[simp] theorem queueReply_table (f : Frame) (s : State) : (queueReply f s).table = s.table := by simp [queueReply]
@[simp] theorem queueReply_recorder (f : Frame) (s : State) : (queueReply f s).recorder = s.recorder := by simp [queueReply]
@[simp] theorem queueReply_monitors (f : Frame) (s : State) : (queueReply f s).monitors = s.monitors := by simp [queueReply]
@[simp] theorem queueReply_settings (f : Frame) (s : State) : (queueReply f s).settings = s.settings := by simp [queueReply]
@[simp] theorem queueReply_store (f : Frame) (s : State) : (queueReply f s).store = s.store := by simp [queueReply]
@[simp] theorem queueReply_pins (f : Frame) (s : State) : (queueReply f s).pins = s.pins := by simp [queueReply]
@[simp] theorem queueReply_freeCount (f : Frame) (s : State) : (queueReply f s).freeCount = s.freeCount := by simp [queueReply]
@[simp] theorem queueReply_pending (f : Frame) (s : State) : (queueReply f s).pending = s.pending := by simp [queueReply]

@[simp] theorem setMonitor_time (m : Fin 16) (x : MonitorState) (s : State) : (setMonitor m x s).time = s.time := by simp [setMonitor]
@[simp] theorem setMonitor_pulse (m : Fin 16) (x : MonitorState) (s : State) : (setMonitor m x s).pulse = s.pulse := by simp [setMonitor]
@[simp] theorem setMonitor_loop (m : Fin 16) (x : MonitorState) (s : State) : (setMonitor m x s).loop = s.loop := by simp [setMonitor]
@[simp] theorem setMonitor_run (m : Fin 16) (x : MonitorState) (s : State) : (setMonitor m x s).run = s.run := by simp [setMonitor]
@[simp] theorem setMonitor_conv (m : Fin 16) (x : MonitorState) (s : State) : (setMonitor m x s).conv = s.conv := by simp [setMonitor]
@[simp] theorem setMonitor_dose (m : Fin 16) (x : MonitorState) (s : State) : (setMonitor m x s).dose = s.dose := by simp [setMonitor]
@[simp] theorem setMonitor_pump (m : Fin 16) (x : MonitorState) (s : State) : (setMonitor m x s).pump = s.pump := by simp [setMonitor]
@[simp] theorem setMonitor_sense (m : Fin 16) (x : MonitorState) (s : State) : (setMonitor m x s).sense = s.sense := by simp [setMonitor]
@[simp] theorem setMonitor_table (m : Fin 16) (x : MonitorState) (s : State) : (setMonitor m x s).table = s.table := by simp [setMonitor]
@[simp] theorem setMonitor_recorder (m : Fin 16) (x : MonitorState) (s : State) : (setMonitor m x s).recorder = s.recorder := by simp [setMonitor]
@[simp] theorem setMonitor_settings (m : Fin 16) (x : MonitorState) (s : State) : (setMonitor m x s).settings = s.settings := by simp [setMonitor]
@[simp] theorem setMonitor_store (m : Fin 16) (x : MonitorState) (s : State) : (setMonitor m x s).store = s.store := by simp [setMonitor]
@[simp] theorem setMonitor_link (m : Fin 16) (x : MonitorState) (s : State) : (setMonitor m x s).link = s.link := by simp [setMonitor]
@[simp] theorem setMonitor_pins (m : Fin 16) (x : MonitorState) (s : State) : (setMonitor m x s).pins = s.pins := by simp [setMonitor]
@[simp] theorem setMonitor_freeCount (m : Fin 16) (x : MonitorState) (s : State) : (setMonitor m x s).freeCount = s.freeCount := by simp [setMonitor]
@[simp] theorem setMonitor_pending (m : Fin 16) (x : MonitorState) (s : State) : (setMonitor m x s).pending = s.pending := by simp [setMonitor]

@[simp] theorem monitorNotices_time (m : Fin 16) (was is : MonitorState) (s : State) : (monitorNotices m was is s).time = s.time := by unfold monitorNotices; (repeat' split) <;> simp
@[simp] theorem monitorNotices_pulse (m : Fin 16) (was is : MonitorState) (s : State) : (monitorNotices m was is s).pulse = s.pulse := by unfold monitorNotices; (repeat' split) <;> simp
@[simp] theorem monitorNotices_loop (m : Fin 16) (was is : MonitorState) (s : State) : (monitorNotices m was is s).loop = s.loop := by unfold monitorNotices; (repeat' split) <;> simp
@[simp] theorem monitorNotices_run (m : Fin 16) (was is : MonitorState) (s : State) : (monitorNotices m was is s).run = s.run := by unfold monitorNotices; (repeat' split) <;> simp
@[simp] theorem monitorNotices_conv (m : Fin 16) (was is : MonitorState) (s : State) : (monitorNotices m was is s).conv = s.conv := by unfold monitorNotices; (repeat' split) <;> simp
@[simp] theorem monitorNotices_dose (m : Fin 16) (was is : MonitorState) (s : State) : (monitorNotices m was is s).dose = s.dose := by unfold monitorNotices; (repeat' split) <;> simp
@[simp] theorem monitorNotices_pump (m : Fin 16) (was is : MonitorState) (s : State) : (monitorNotices m was is s).pump = s.pump := by unfold monitorNotices; (repeat' split) <;> simp
@[simp] theorem monitorNotices_sense (m : Fin 16) (was is : MonitorState) (s : State) : (monitorNotices m was is s).sense = s.sense := by unfold monitorNotices; (repeat' split) <;> simp
@[simp] theorem monitorNotices_table (m : Fin 16) (was is : MonitorState) (s : State) : (monitorNotices m was is s).table = s.table := by unfold monitorNotices; (repeat' split) <;> simp
@[simp] theorem monitorNotices_recorder (m : Fin 16) (was is : MonitorState) (s : State) : (monitorNotices m was is s).recorder = s.recorder := by unfold monitorNotices; (repeat' split) <;> simp
@[simp] theorem monitorNotices_monitors (m : Fin 16) (was is : MonitorState) (s : State) : (monitorNotices m was is s).monitors = s.monitors := by unfold monitorNotices; (repeat' split) <;> simp
@[simp] theorem monitorNotices_settings (m : Fin 16) (was is : MonitorState) (s : State) : (monitorNotices m was is s).settings = s.settings := by unfold monitorNotices; (repeat' split) <;> simp
@[simp] theorem monitorNotices_store (m : Fin 16) (was is : MonitorState) (s : State) : (monitorNotices m was is s).store = s.store := by unfold monitorNotices; (repeat' split) <;> simp
@[simp] theorem monitorNotices_pins (m : Fin 16) (was is : MonitorState) (s : State) : (monitorNotices m was is s).pins = s.pins := by unfold monitorNotices; (repeat' split) <;> simp
@[simp] theorem monitorNotices_freeCount (m : Fin 16) (was is : MonitorState) (s : State) : (monitorNotices m was is s).freeCount = s.freeCount := by unfold monitorNotices; (repeat' split) <;> simp
@[simp] theorem monitorNotices_pending (m : Fin 16) (was is : MonitorState) (s : State) : (monitorNotices m was is s).pending = s.pending := by unfold monitorNotices; (repeat' split) <;> simp

@[simp] theorem evaluate_time (m : Fin 16) (v : Nat) (s : State) : (evaluate m v s).time = s.time := by unfold evaluate; split <;> simp
@[simp] theorem evaluate_pulse (m : Fin 16) (v : Nat) (s : State) : (evaluate m v s).pulse = s.pulse := by unfold evaluate; split <;> simp
@[simp] theorem evaluate_loop (m : Fin 16) (v : Nat) (s : State) : (evaluate m v s).loop = s.loop := by unfold evaluate; split <;> simp
@[simp] theorem evaluate_run (m : Fin 16) (v : Nat) (s : State) : (evaluate m v s).run = s.run := by unfold evaluate; split <;> simp
@[simp] theorem evaluate_conv (m : Fin 16) (v : Nat) (s : State) : (evaluate m v s).conv = s.conv := by unfold evaluate; split <;> simp
@[simp] theorem evaluate_dose (m : Fin 16) (v : Nat) (s : State) : (evaluate m v s).dose = s.dose := by unfold evaluate; split <;> simp
@[simp] theorem evaluate_pump (m : Fin 16) (v : Nat) (s : State) : (evaluate m v s).pump = s.pump := by unfold evaluate; split <;> simp
@[simp] theorem evaluate_sense (m : Fin 16) (v : Nat) (s : State) : (evaluate m v s).sense = s.sense := by unfold evaluate; split <;> simp
@[simp] theorem evaluate_table (m : Fin 16) (v : Nat) (s : State) : (evaluate m v s).table = s.table := by unfold evaluate; split <;> simp
@[simp] theorem evaluate_recorder (m : Fin 16) (v : Nat) (s : State) : (evaluate m v s).recorder = s.recorder := by unfold evaluate; split <;> simp
@[simp] theorem evaluate_settings (m : Fin 16) (v : Nat) (s : State) : (evaluate m v s).settings = s.settings := by unfold evaluate; split <;> simp
@[simp] theorem evaluate_store (m : Fin 16) (v : Nat) (s : State) : (evaluate m v s).store = s.store := by unfold evaluate; split <;> simp
@[simp] theorem evaluate_pins (m : Fin 16) (v : Nat) (s : State) : (evaluate m v s).pins = s.pins := by unfold evaluate; split <;> simp
@[simp] theorem evaluate_freeCount (m : Fin 16) (v : Nat) (s : State) : (evaluate m v s).freeCount = s.freeCount := by unfold evaluate; split <;> simp
@[simp] theorem evaluate_pending (m : Fin 16) (v : Nat) (s : State) : (evaluate m v s).pending = s.pending := by unfold evaluate; split <;> simp

@[simp] theorem clearEvent_time (m : Fin 16) (s : State) : (clearEvent m s).time = s.time := by unfold clearEvent; split <;> simp
@[simp] theorem clearEvent_pulse (m : Fin 16) (s : State) : (clearEvent m s).pulse = s.pulse := by unfold clearEvent; split <;> simp
@[simp] theorem clearEvent_loop (m : Fin 16) (s : State) : (clearEvent m s).loop = s.loop := by unfold clearEvent; split <;> simp
@[simp] theorem clearEvent_run (m : Fin 16) (s : State) : (clearEvent m s).run = s.run := by unfold clearEvent; split <;> simp
@[simp] theorem clearEvent_conv (m : Fin 16) (s : State) : (clearEvent m s).conv = s.conv := by unfold clearEvent; split <;> simp
@[simp] theorem clearEvent_dose (m : Fin 16) (s : State) : (clearEvent m s).dose = s.dose := by unfold clearEvent; split <;> simp
@[simp] theorem clearEvent_pump (m : Fin 16) (s : State) : (clearEvent m s).pump = s.pump := by unfold clearEvent; split <;> simp
@[simp] theorem clearEvent_sense (m : Fin 16) (s : State) : (clearEvent m s).sense = s.sense := by unfold clearEvent; split <;> simp
@[simp] theorem clearEvent_table (m : Fin 16) (s : State) : (clearEvent m s).table = s.table := by unfold clearEvent; split <;> simp
@[simp] theorem clearEvent_recorder (m : Fin 16) (s : State) : (clearEvent m s).recorder = s.recorder := by unfold clearEvent; split <;> simp
@[simp] theorem clearEvent_settings (m : Fin 16) (s : State) : (clearEvent m s).settings = s.settings := by unfold clearEvent; split <;> simp
@[simp] theorem clearEvent_store (m : Fin 16) (s : State) : (clearEvent m s).store = s.store := by unfold clearEvent; split <;> simp
@[simp] theorem clearEvent_link (m : Fin 16) (s : State) : (clearEvent m s).link = s.link := by unfold clearEvent; split <;> simp
@[simp] theorem clearEvent_pins (m : Fin 16) (s : State) : (clearEvent m s).pins = s.pins := by unfold clearEvent; split <;> simp
@[simp] theorem clearEvent_freeCount (m : Fin 16) (s : State) : (clearEvent m s).freeCount = s.freeCount := by unfold clearEvent; split <;> simp
@[simp] theorem clearEvent_pending (m : Fin 16) (s : State) : (clearEvent m s).pending = s.pending := by unfold clearEvent; split <;> simp

@[simp] theorem retuneMonitor_time (old new : MonitorsSection) (m : Fin 16) (s : State) : (retuneMonitor old new s m).time = s.time := by simp [retuneMonitor]
@[simp] theorem retuneMonitor_pulse (old new : MonitorsSection) (m : Fin 16) (s : State) : (retuneMonitor old new s m).pulse = s.pulse := by simp [retuneMonitor]
@[simp] theorem retuneMonitor_loop (old new : MonitorsSection) (m : Fin 16) (s : State) : (retuneMonitor old new s m).loop = s.loop := by simp [retuneMonitor]
@[simp] theorem retuneMonitor_run (old new : MonitorsSection) (m : Fin 16) (s : State) : (retuneMonitor old new s m).run = s.run := by simp [retuneMonitor]
@[simp] theorem retuneMonitor_conv (old new : MonitorsSection) (m : Fin 16) (s : State) : (retuneMonitor old new s m).conv = s.conv := by simp [retuneMonitor]
@[simp] theorem retuneMonitor_dose (old new : MonitorsSection) (m : Fin 16) (s : State) : (retuneMonitor old new s m).dose = s.dose := by simp [retuneMonitor]
@[simp] theorem retuneMonitor_pump (old new : MonitorsSection) (m : Fin 16) (s : State) : (retuneMonitor old new s m).pump = s.pump := by simp [retuneMonitor]
@[simp] theorem retuneMonitor_sense (old new : MonitorsSection) (m : Fin 16) (s : State) : (retuneMonitor old new s m).sense = s.sense := by simp [retuneMonitor]
@[simp] theorem retuneMonitor_table (old new : MonitorsSection) (m : Fin 16) (s : State) : (retuneMonitor old new s m).table = s.table := by simp [retuneMonitor]
@[simp] theorem retuneMonitor_recorder (old new : MonitorsSection) (m : Fin 16) (s : State) : (retuneMonitor old new s m).recorder = s.recorder := by simp [retuneMonitor]
@[simp] theorem retuneMonitor_settings (old new : MonitorsSection) (m : Fin 16) (s : State) : (retuneMonitor old new s m).settings = s.settings := by simp [retuneMonitor]
@[simp] theorem retuneMonitor_store (old new : MonitorsSection) (m : Fin 16) (s : State) : (retuneMonitor old new s m).store = s.store := by simp [retuneMonitor]
@[simp] theorem retuneMonitor_pins (old new : MonitorsSection) (m : Fin 16) (s : State) : (retuneMonitor old new s m).pins = s.pins := by simp [retuneMonitor]
@[simp] theorem retuneMonitor_freeCount (old new : MonitorsSection) (m : Fin 16) (s : State) : (retuneMonitor old new s m).freeCount = s.freeCount := by simp [retuneMonitor]
@[simp] theorem retuneMonitor_pending (old new : MonitorsSection) (m : Fin 16) (s : State) : (retuneMonitor old new s m).pending = s.pending := by simp [retuneMonitor]

@[simp] theorem retuneMonitors_time (old new : MonitorsSection) (s : State) : (retuneMonitors old new s).time = s.time := by exact foldl_keeps (·.time) _ (fun s m => by simp) _ s
@[simp] theorem retuneMonitors_pulse (old new : MonitorsSection) (s : State) : (retuneMonitors old new s).pulse = s.pulse := by exact foldl_keeps (·.pulse) _ (fun s m => by simp) _ s
@[simp] theorem retuneMonitors_loop (old new : MonitorsSection) (s : State) : (retuneMonitors old new s).loop = s.loop := by exact foldl_keeps (·.loop) _ (fun s m => by simp) _ s
@[simp] theorem retuneMonitors_run (old new : MonitorsSection) (s : State) : (retuneMonitors old new s).run = s.run := by exact foldl_keeps (·.run) _ (fun s m => by simp) _ s
@[simp] theorem retuneMonitors_conv (old new : MonitorsSection) (s : State) : (retuneMonitors old new s).conv = s.conv := by exact foldl_keeps (·.conv) _ (fun s m => by simp) _ s
@[simp] theorem retuneMonitors_dose (old new : MonitorsSection) (s : State) : (retuneMonitors old new s).dose = s.dose := by exact foldl_keeps (·.dose) _ (fun s m => by simp) _ s
@[simp] theorem retuneMonitors_pump (old new : MonitorsSection) (s : State) : (retuneMonitors old new s).pump = s.pump := by exact foldl_keeps (·.pump) _ (fun s m => by simp) _ s
@[simp] theorem retuneMonitors_sense (old new : MonitorsSection) (s : State) : (retuneMonitors old new s).sense = s.sense := by exact foldl_keeps (·.sense) _ (fun s m => by simp) _ s
@[simp] theorem retuneMonitors_table (old new : MonitorsSection) (s : State) : (retuneMonitors old new s).table = s.table := by exact foldl_keeps (·.table) _ (fun s m => by simp) _ s
@[simp] theorem retuneMonitors_recorder (old new : MonitorsSection) (s : State) : (retuneMonitors old new s).recorder = s.recorder := by exact foldl_keeps (·.recorder) _ (fun s m => by simp) _ s
@[simp] theorem retuneMonitors_settings (old new : MonitorsSection) (s : State) : (retuneMonitors old new s).settings = s.settings := by exact foldl_keeps (·.settings) _ (fun s m => by simp) _ s
@[simp] theorem retuneMonitors_store (old new : MonitorsSection) (s : State) : (retuneMonitors old new s).store = s.store := by exact foldl_keeps (·.store) _ (fun s m => by simp) _ s
@[simp] theorem retuneMonitors_pins (old new : MonitorsSection) (s : State) : (retuneMonitors old new s).pins = s.pins := by exact foldl_keeps (·.pins) _ (fun s m => by simp) _ s
@[simp] theorem retuneMonitors_freeCount (old new : MonitorsSection) (s : State) : (retuneMonitors old new s).freeCount = s.freeCount := by exact foldl_keeps (·.freeCount) _ (fun s m => by simp) _ s
@[simp] theorem retuneMonitors_pending (old new : MonitorsSection) (s : State) : (retuneMonitors old new s).pending = s.pending := by exact foldl_keeps (·.pending) _ (fun s m => by simp) _ s

@[simp] theorem clearRunMonitors_time (r : RunId) (s : State) : (clearRunMonitors r s).time = s.time := by simp [clearRunMonitors]
@[simp] theorem clearRunMonitors_pulse (r : RunId) (s : State) : (clearRunMonitors r s).pulse = s.pulse := by simp [clearRunMonitors]
@[simp] theorem clearRunMonitors_loop (r : RunId) (s : State) : (clearRunMonitors r s).loop = s.loop := by simp [clearRunMonitors]
@[simp] theorem clearRunMonitors_run (r : RunId) (s : State) : (clearRunMonitors r s).run = s.run := by simp [clearRunMonitors]
@[simp] theorem clearRunMonitors_conv (r : RunId) (s : State) : (clearRunMonitors r s).conv = s.conv := by simp [clearRunMonitors]
@[simp] theorem clearRunMonitors_dose (r : RunId) (s : State) : (clearRunMonitors r s).dose = s.dose := by simp [clearRunMonitors]
@[simp] theorem clearRunMonitors_pump (r : RunId) (s : State) : (clearRunMonitors r s).pump = s.pump := by simp [clearRunMonitors]
@[simp] theorem clearRunMonitors_sense (r : RunId) (s : State) : (clearRunMonitors r s).sense = s.sense := by simp [clearRunMonitors]
@[simp] theorem clearRunMonitors_table (r : RunId) (s : State) : (clearRunMonitors r s).table = s.table := by simp [clearRunMonitors]
@[simp] theorem clearRunMonitors_recorder (r : RunId) (s : State) : (clearRunMonitors r s).recorder = s.recorder := by simp [clearRunMonitors]
@[simp] theorem clearRunMonitors_settings (r : RunId) (s : State) : (clearRunMonitors r s).settings = s.settings := by simp [clearRunMonitors]
@[simp] theorem clearRunMonitors_store (r : RunId) (s : State) : (clearRunMonitors r s).store = s.store := by simp [clearRunMonitors]
@[simp] theorem clearRunMonitors_link (r : RunId) (s : State) : (clearRunMonitors r s).link = s.link := by simp [clearRunMonitors]
@[simp] theorem clearRunMonitors_pins (r : RunId) (s : State) : (clearRunMonitors r s).pins = s.pins := by simp [clearRunMonitors]
@[simp] theorem clearRunMonitors_freeCount (r : RunId) (s : State) : (clearRunMonitors r s).freeCount = s.freeCount := by simp [clearRunMonitors]
@[simp] theorem clearRunMonitors_pending (r : RunId) (s : State) : (clearRunMonitors r s).pending = s.pending := by simp [clearRunMonitors]

@[simp] theorem schedulingCheck_time (s : State) : (schedulingCheck s).time = s.time := by unfold schedulingCheck; split <;> simp
@[simp] theorem schedulingCheck_pulse (s : State) : (schedulingCheck s).pulse = s.pulse := by unfold schedulingCheck; split <;> simp
@[simp] theorem schedulingCheck_loop (s : State) : (schedulingCheck s).loop = s.loop := by unfold schedulingCheck; split <;> simp
@[simp] theorem schedulingCheck_run (s : State) : (schedulingCheck s).run = s.run := by unfold schedulingCheck; split <;> simp
@[simp] theorem schedulingCheck_conv (s : State) : (schedulingCheck s).conv = s.conv := by unfold schedulingCheck; split <;> simp
@[simp] theorem schedulingCheck_pump (s : State) : (schedulingCheck s).pump = s.pump := by unfold schedulingCheck; split <;> simp
@[simp] theorem schedulingCheck_sense (s : State) : (schedulingCheck s).sense = s.sense := by unfold schedulingCheck; split <;> simp
@[simp] theorem schedulingCheck_recorder (s : State) : (schedulingCheck s).recorder = s.recorder := by unfold schedulingCheck; split <;> simp
@[simp] theorem schedulingCheck_monitors (s : State) : (schedulingCheck s).monitors = s.monitors := by unfold schedulingCheck; split <;> simp
@[simp] theorem schedulingCheck_settings (s : State) : (schedulingCheck s).settings = s.settings := by unfold schedulingCheck; split <;> simp
@[simp] theorem schedulingCheck_store (s : State) : (schedulingCheck s).store = s.store := by unfold schedulingCheck; split <;> simp
@[simp] theorem schedulingCheck_link (s : State) : (schedulingCheck s).link = s.link := by unfold schedulingCheck; split <;> simp
@[simp] theorem schedulingCheck_pins (s : State) : (schedulingCheck s).pins = s.pins := by unfold schedulingCheck; split <;> simp
@[simp] theorem schedulingCheck_freeCount (s : State) : (schedulingCheck s).freeCount = s.freeCount := by unfold schedulingCheck; split <;> simp
@[simp] theorem schedulingCheck_pending (s : State) : (schedulingCheck s).pending = s.pending := by unfold schedulingCheck; split <;> simp

@[simp] theorem debtToMonitor_time (s : State) : (debtToMonitor s).time = s.time := by simp [debtToMonitor]
@[simp] theorem debtToMonitor_pulse (s : State) : (debtToMonitor s).pulse = s.pulse := by simp [debtToMonitor]
@[simp] theorem debtToMonitor_loop (s : State) : (debtToMonitor s).loop = s.loop := by simp [debtToMonitor]
@[simp] theorem debtToMonitor_run (s : State) : (debtToMonitor s).run = s.run := by simp [debtToMonitor]
@[simp] theorem debtToMonitor_conv (s : State) : (debtToMonitor s).conv = s.conv := by simp [debtToMonitor]
@[simp] theorem debtToMonitor_dose (s : State) : (debtToMonitor s).dose = s.dose := by simp [debtToMonitor]
@[simp] theorem debtToMonitor_pump (s : State) : (debtToMonitor s).pump = s.pump := by simp [debtToMonitor]
@[simp] theorem debtToMonitor_sense (s : State) : (debtToMonitor s).sense = s.sense := by simp [debtToMonitor]
@[simp] theorem debtToMonitor_table (s : State) : (debtToMonitor s).table = s.table := by simp [debtToMonitor]
@[simp] theorem debtToMonitor_recorder (s : State) : (debtToMonitor s).recorder = s.recorder := by simp [debtToMonitor]
@[simp] theorem debtToMonitor_settings (s : State) : (debtToMonitor s).settings = s.settings := by simp [debtToMonitor]
@[simp] theorem debtToMonitor_store (s : State) : (debtToMonitor s).store = s.store := by simp [debtToMonitor]
@[simp] theorem debtToMonitor_pins (s : State) : (debtToMonitor s).pins = s.pins := by simp [debtToMonitor]
@[simp] theorem debtToMonitor_freeCount (s : State) : (debtToMonitor s).freeCount = s.freeCount := by simp [debtToMonitor]
@[simp] theorem debtToMonitor_pending (s : State) : (debtToMonitor s).pending = s.pending := by simp [debtToMonitor]

@[simp] theorem accrueAccount_time (v : Nat) (s : State) : (accrueAccount v s).time = s.time := by simp [accrueAccount]
@[simp] theorem accrueAccount_pulse (v : Nat) (s : State) : (accrueAccount v s).pulse = s.pulse := by simp [accrueAccount]
@[simp] theorem accrueAccount_loop (v : Nat) (s : State) : (accrueAccount v s).loop = s.loop := by simp [accrueAccount]
@[simp] theorem accrueAccount_run (v : Nat) (s : State) : (accrueAccount v s).run = s.run := by simp [accrueAccount]
@[simp] theorem accrueAccount_conv (v : Nat) (s : State) : (accrueAccount v s).conv = s.conv := by simp [accrueAccount]
@[simp] theorem accrueAccount_pump (v : Nat) (s : State) : (accrueAccount v s).pump = s.pump := by simp [accrueAccount]
@[simp] theorem accrueAccount_sense (v : Nat) (s : State) : (accrueAccount v s).sense = s.sense := by simp [accrueAccount]
@[simp] theorem accrueAccount_table (v : Nat) (s : State) : (accrueAccount v s).table = s.table := by simp [accrueAccount]
@[simp] theorem accrueAccount_monitors (v : Nat) (s : State) : (accrueAccount v s).monitors = s.monitors := by simp [accrueAccount]
@[simp] theorem accrueAccount_settings (v : Nat) (s : State) : (accrueAccount v s).settings = s.settings := by simp [accrueAccount]
@[simp] theorem accrueAccount_store (v : Nat) (s : State) : (accrueAccount v s).store = s.store := by simp [accrueAccount]
@[simp] theorem accrueAccount_link (v : Nat) (s : State) : (accrueAccount v s).link = s.link := by simp [accrueAccount]
@[simp] theorem accrueAccount_pins (v : Nat) (s : State) : (accrueAccount v s).pins = s.pins := by simp [accrueAccount]
@[simp] theorem accrueAccount_freeCount (v : Nat) (s : State) : (accrueAccount v s).freeCount = s.freeCount := by simp [accrueAccount]
@[simp] theorem accrueAccount_pending (v : Nat) (s : State) : (accrueAccount v s).pending = s.pending := by simp [accrueAccount]

@[simp] theorem accrue_time (v : Nat) (s : State) : (accrue v s).time = s.time := by unfold accrue; dsimp only; (repeat' split) <;> simp
@[simp] theorem accrue_pulse (v : Nat) (s : State) : (accrue v s).pulse = s.pulse := by unfold accrue; dsimp only; (repeat' split) <;> simp
@[simp] theorem accrue_loop (v : Nat) (s : State) : (accrue v s).loop = s.loop := by unfold accrue; dsimp only; (repeat' split) <;> simp
@[simp] theorem accrue_run (v : Nat) (s : State) : (accrue v s).run = s.run := by unfold accrue; dsimp only; (repeat' split) <;> simp
@[simp] theorem accrue_conv (v : Nat) (s : State) : (accrue v s).conv = s.conv := by unfold accrue; dsimp only; (repeat' split) <;> simp
@[simp] theorem accrue_pump (v : Nat) (s : State) : (accrue v s).pump = s.pump := by unfold accrue; dsimp only; (repeat' split) <;> simp
@[simp] theorem accrue_sense (v : Nat) (s : State) : (accrue v s).sense = s.sense := by unfold accrue; dsimp only; (repeat' split) <;> simp
@[simp] theorem accrue_settings (v : Nat) (s : State) : (accrue v s).settings = s.settings := by unfold accrue; dsimp only; (repeat' split) <;> simp
@[simp] theorem accrue_store (v : Nat) (s : State) : (accrue v s).store = s.store := by unfold accrue; dsimp only; (repeat' split) <;> simp
@[simp] theorem accrue_pins (v : Nat) (s : State) : (accrue v s).pins = s.pins := by unfold accrue; dsimp only; (repeat' split) <;> simp
@[simp] theorem accrue_freeCount (v : Nat) (s : State) : (accrue v s).freeCount = s.freeCount := by unfold accrue; dsimp only; (repeat' split) <;> simp
@[simp] theorem accrue_pending (v : Nat) (s : State) : (accrue v s).pending = s.pending := by unfold accrue; dsimp only; (repeat' split) <;> simp

@[simp] theorem forgoAccount_time (s : State) : (forgoAccount s).time = s.time := by simp [forgoAccount]
@[simp] theorem forgoAccount_pulse (s : State) : (forgoAccount s).pulse = s.pulse := by simp [forgoAccount]
@[simp] theorem forgoAccount_loop (s : State) : (forgoAccount s).loop = s.loop := by simp [forgoAccount]
@[simp] theorem forgoAccount_run (s : State) : (forgoAccount s).run = s.run := by simp [forgoAccount]
@[simp] theorem forgoAccount_conv (s : State) : (forgoAccount s).conv = s.conv := by simp [forgoAccount]
@[simp] theorem forgoAccount_pump (s : State) : (forgoAccount s).pump = s.pump := by simp [forgoAccount]
@[simp] theorem forgoAccount_sense (s : State) : (forgoAccount s).sense = s.sense := by simp [forgoAccount]
@[simp] theorem forgoAccount_table (s : State) : (forgoAccount s).table = s.table := by simp [forgoAccount]
@[simp] theorem forgoAccount_monitors (s : State) : (forgoAccount s).monitors = s.monitors := by simp [forgoAccount]
@[simp] theorem forgoAccount_settings (s : State) : (forgoAccount s).settings = s.settings := by simp [forgoAccount]
@[simp] theorem forgoAccount_store (s : State) : (forgoAccount s).store = s.store := by simp [forgoAccount]
@[simp] theorem forgoAccount_link (s : State) : (forgoAccount s).link = s.link := by simp [forgoAccount]
@[simp] theorem forgoAccount_pins (s : State) : (forgoAccount s).pins = s.pins := by simp [forgoAccount]
@[simp] theorem forgoAccount_freeCount (s : State) : (forgoAccount s).freeCount = s.freeCount := by simp [forgoAccount]
@[simp] theorem forgoAccount_pending (s : State) : (forgoAccount s).pending = s.pending := by simp [forgoAccount]

@[simp] theorem forgoExcess_time (s : State) : (forgoExcess s).time = s.time := by simp [forgoExcess]
@[simp] theorem forgoExcess_pulse (s : State) : (forgoExcess s).pulse = s.pulse := by simp [forgoExcess]
@[simp] theorem forgoExcess_loop (s : State) : (forgoExcess s).loop = s.loop := by simp [forgoExcess]
@[simp] theorem forgoExcess_run (s : State) : (forgoExcess s).run = s.run := by simp [forgoExcess]
@[simp] theorem forgoExcess_conv (s : State) : (forgoExcess s).conv = s.conv := by simp [forgoExcess]
@[simp] theorem forgoExcess_pump (s : State) : (forgoExcess s).pump = s.pump := by simp [forgoExcess]
@[simp] theorem forgoExcess_sense (s : State) : (forgoExcess s).sense = s.sense := by simp [forgoExcess]
@[simp] theorem forgoExcess_table (s : State) : (forgoExcess s).table = s.table := by simp [forgoExcess]
@[simp] theorem forgoExcess_monitors (s : State) : (forgoExcess s).monitors = s.monitors := by simp [forgoExcess]
@[simp] theorem forgoExcess_settings (s : State) : (forgoExcess s).settings = s.settings := by simp [forgoExcess]
@[simp] theorem forgoExcess_store (s : State) : (forgoExcess s).store = s.store := by simp [forgoExcess]
@[simp] theorem forgoExcess_link (s : State) : (forgoExcess s).link = s.link := by simp [forgoExcess]
@[simp] theorem forgoExcess_pins (s : State) : (forgoExcess s).pins = s.pins := by simp [forgoExcess]
@[simp] theorem forgoExcess_freeCount (s : State) : (forgoExcess s).freeCount = s.freeCount := by simp [forgoExcess]
@[simp] theorem forgoExcess_pending (s : State) : (forgoExcess s).pending = s.pending := by simp [forgoExcess]

@[simp] theorem setMode_time (m : DosingMode) (s : State) : (setMode m s).time = s.time := by simp [setMode]
@[simp] theorem setMode_pulse (m : DosingMode) (s : State) : (setMode m s).pulse = s.pulse := by simp [setMode]
@[simp] theorem setMode_loop (m : DosingMode) (s : State) : (setMode m s).loop = s.loop := by simp [setMode]
@[simp] theorem setMode_run (m : DosingMode) (s : State) : (setMode m s).run = s.run := by simp [setMode]
@[simp] theorem setMode_conv (m : DosingMode) (s : State) : (setMode m s).conv = s.conv := by simp [setMode]
@[simp] theorem setMode_pump (m : DosingMode) (s : State) : (setMode m s).pump = s.pump := by simp [setMode]
@[simp] theorem setMode_sense (m : DosingMode) (s : State) : (setMode m s).sense = s.sense := by simp [setMode]
@[simp] theorem setMode_table (m : DosingMode) (s : State) : (setMode m s).table = s.table := by simp [setMode]
@[simp] theorem setMode_monitors (m : DosingMode) (s : State) : (setMode m s).monitors = s.monitors := by simp [setMode]
@[simp] theorem setMode_settings (m : DosingMode) (s : State) : (setMode m s).settings = s.settings := by simp [setMode]
@[simp] theorem setMode_store (m : DosingMode) (s : State) : (setMode m s).store = s.store := by simp [setMode]
@[simp] theorem setMode_link (m : DosingMode) (s : State) : (setMode m s).link = s.link := by simp [setMode]
@[simp] theorem setMode_pins (m : DosingMode) (s : State) : (setMode m s).pins = s.pins := by simp [setMode]
@[simp] theorem setMode_freeCount (m : DosingMode) (s : State) : (setMode m s).freeCount = s.freeCount := by simp [setMode]
@[simp] theorem setMode_pending (m : DosingMode) (s : State) : (setMode m s).pending = s.pending := by simp [setMode]

@[simp] theorem setDosingState_time (x : DosingState) (s : State) : (setDosingState x s).time = s.time := by simp [setDosingState]
@[simp] theorem setDosingState_pulse (x : DosingState) (s : State) : (setDosingState x s).pulse = s.pulse := by simp [setDosingState]
@[simp] theorem setDosingState_loop (x : DosingState) (s : State) : (setDosingState x s).loop = s.loop := by simp [setDosingState]
@[simp] theorem setDosingState_run (x : DosingState) (s : State) : (setDosingState x s).run = s.run := by simp [setDosingState]
@[simp] theorem setDosingState_conv (x : DosingState) (s : State) : (setDosingState x s).conv = s.conv := by simp [setDosingState]
@[simp] theorem setDosingState_pump (x : DosingState) (s : State) : (setDosingState x s).pump = s.pump := by simp [setDosingState]
@[simp] theorem setDosingState_sense (x : DosingState) (s : State) : (setDosingState x s).sense = s.sense := by simp [setDosingState]
@[simp] theorem setDosingState_table (x : DosingState) (s : State) : (setDosingState x s).table = s.table := by simp [setDosingState]
@[simp] theorem setDosingState_recorder (x : DosingState) (s : State) : (setDosingState x s).recorder = s.recorder := by simp [setDosingState]
@[simp] theorem setDosingState_monitors (x : DosingState) (s : State) : (setDosingState x s).monitors = s.monitors := by simp [setDosingState]
@[simp] theorem setDosingState_settings (x : DosingState) (s : State) : (setDosingState x s).settings = s.settings := by simp [setDosingState]
@[simp] theorem setDosingState_store (x : DosingState) (s : State) : (setDosingState x s).store = s.store := by simp [setDosingState]
@[simp] theorem setDosingState_link (x : DosingState) (s : State) : (setDosingState x s).link = s.link := by simp [setDosingState]
@[simp] theorem setDosingState_pins (x : DosingState) (s : State) : (setDosingState x s).pins = s.pins := by simp [setDosingState]
@[simp] theorem setDosingState_freeCount (x : DosingState) (s : State) : (setDosingState x s).freeCount = s.freeCount := by simp [setDosingState]
@[simp] theorem setDosingState_pending (x : DosingState) (s : State) : (setDosingState x s).pending = s.pending := by simp [setDosingState]

@[simp] theorem withdrawStroke_time (s : State) : (withdrawStroke s).time = s.time := by simp [withdrawStroke]
@[simp] theorem withdrawStroke_pulse (s : State) : (withdrawStroke s).pulse = s.pulse := by simp [withdrawStroke]
@[simp] theorem withdrawStroke_loop (s : State) : (withdrawStroke s).loop = s.loop := by simp [withdrawStroke]
@[simp] theorem withdrawStroke_run (s : State) : (withdrawStroke s).run = s.run := by simp [withdrawStroke]
@[simp] theorem withdrawStroke_conv (s : State) : (withdrawStroke s).conv = s.conv := by simp [withdrawStroke]
@[simp] theorem withdrawStroke_pump (s : State) : (withdrawStroke s).pump = s.pump := by simp [withdrawStroke]
@[simp] theorem withdrawStroke_sense (s : State) : (withdrawStroke s).sense = s.sense := by simp [withdrawStroke]
@[simp] theorem withdrawStroke_recorder (s : State) : (withdrawStroke s).recorder = s.recorder := by simp [withdrawStroke]
@[simp] theorem withdrawStroke_monitors (s : State) : (withdrawStroke s).monitors = s.monitors := by simp [withdrawStroke]
@[simp] theorem withdrawStroke_settings (s : State) : (withdrawStroke s).settings = s.settings := by simp [withdrawStroke]
@[simp] theorem withdrawStroke_store (s : State) : (withdrawStroke s).store = s.store := by simp [withdrawStroke]
@[simp] theorem withdrawStroke_link (s : State) : (withdrawStroke s).link = s.link := by simp [withdrawStroke]
@[simp] theorem withdrawStroke_pins (s : State) : (withdrawStroke s).pins = s.pins := by simp [withdrawStroke]
@[simp] theorem withdrawStroke_freeCount (s : State) : (withdrawStroke s).freeCount = s.freeCount := by simp [withdrawStroke]
@[simp] theorem withdrawStroke_pending (s : State) : (withdrawStroke s).pending = s.pending := by simp [withdrawStroke]

@[simp] theorem enterFault_time (s : State) : (enterFault s).time = s.time := by simp [enterFault]
@[simp] theorem enterFault_pulse (s : State) : (enterFault s).pulse = s.pulse := by simp [enterFault]
@[simp] theorem enterFault_loop (s : State) : (enterFault s).loop = s.loop := by simp [enterFault]
@[simp] theorem enterFault_run (s : State) : (enterFault s).run = s.run := by simp [enterFault]
@[simp] theorem enterFault_conv (s : State) : (enterFault s).conv = s.conv := by simp [enterFault]
@[simp] theorem enterFault_pump (s : State) : (enterFault s).pump = s.pump := by simp [enterFault]
@[simp] theorem enterFault_sense (s : State) : (enterFault s).sense = s.sense := by simp [enterFault]
@[simp] theorem enterFault_table (s : State) : (enterFault s).table = s.table := by simp [enterFault]
@[simp] theorem enterFault_recorder (s : State) : (enterFault s).recorder = s.recorder := by simp [enterFault]
@[simp] theorem enterFault_monitors (s : State) : (enterFault s).monitors = s.monitors := by simp [enterFault]
@[simp] theorem enterFault_settings (s : State) : (enterFault s).settings = s.settings := by simp [enterFault]
@[simp] theorem enterFault_store (s : State) : (enterFault s).store = s.store := by simp [enterFault]
@[simp] theorem enterFault_pins (s : State) : (enterFault s).pins = s.pins := by simp [enterFault]
@[simp] theorem enterFault_freeCount (s : State) : (enterFault s).freeCount = s.freeCount := by simp [enterFault]
@[simp] theorem enterFault_pending (s : State) : (enterFault s).pending = s.pending := by simp [enterFault]

@[simp] theorem changeover_time (s : State) : (changeover s).time = s.time := by simp [changeover]
@[simp] theorem changeover_pulse (s : State) : (changeover s).pulse = s.pulse := by simp [changeover]
@[simp] theorem changeover_loop (s : State) : (changeover s).loop = s.loop := by simp [changeover]
@[simp] theorem changeover_run (s : State) : (changeover s).run = s.run := by simp [changeover]
@[simp] theorem changeover_conv (s : State) : (changeover s).conv = s.conv := by simp [changeover]
@[simp] theorem changeover_pump (s : State) : (changeover s).pump = s.pump := by simp [changeover]
@[simp] theorem changeover_sense (s : State) : (changeover s).sense = s.sense := by simp [changeover]
@[simp] theorem changeover_table (s : State) : (changeover s).table = s.table := by simp [changeover]
@[simp] theorem changeover_monitors (s : State) : (changeover s).monitors = s.monitors := by simp [changeover]
@[simp] theorem changeover_settings (s : State) : (changeover s).settings = s.settings := by simp [changeover]
@[simp] theorem changeover_store (s : State) : (changeover s).store = s.store := by simp [changeover]
@[simp] theorem changeover_pins (s : State) : (changeover s).pins = s.pins := by simp [changeover]
@[simp] theorem changeover_freeCount (s : State) : (changeover s).freeCount = s.freeCount := by simp [changeover]
@[simp] theorem changeover_pending (s : State) : (changeover s).pending = s.pending := by simp [changeover]

@[simp] theorem failPump_time (p : Side) (s : State) : (failPump p s).time = s.time := by unfold failPump; dsimp only; (repeat' split) <;> simp
@[simp] theorem failPump_pulse (p : Side) (s : State) : (failPump p s).pulse = s.pulse := by unfold failPump; dsimp only; (repeat' split) <;> simp
@[simp] theorem failPump_loop (p : Side) (s : State) : (failPump p s).loop = s.loop := by unfold failPump; dsimp only; (repeat' split) <;> simp
@[simp] theorem failPump_run (p : Side) (s : State) : (failPump p s).run = s.run := by unfold failPump; dsimp only; (repeat' split) <;> simp
@[simp] theorem failPump_conv (p : Side) (s : State) : (failPump p s).conv = s.conv := by unfold failPump; dsimp only; (repeat' split) <;> simp
@[simp] theorem failPump_sense (p : Side) (s : State) : (failPump p s).sense = s.sense := by unfold failPump; dsimp only; (repeat' split) <;> simp
@[simp] theorem failPump_table (p : Side) (s : State) : (failPump p s).table = s.table := by unfold failPump; dsimp only; (repeat' split) <;> simp
@[simp] theorem failPump_monitors (p : Side) (s : State) : (failPump p s).monitors = s.monitors := by unfold failPump; dsimp only; (repeat' split) <;> simp
@[simp] theorem failPump_settings (p : Side) (s : State) : (failPump p s).settings = s.settings := by unfold failPump; dsimp only; (repeat' split) <;> simp
@[simp] theorem failPump_store (p : Side) (s : State) : (failPump p s).store = s.store := by unfold failPump; dsimp only; (repeat' split) <;> simp
@[simp] theorem failPump_pins (p : Side) (s : State) : (failPump p s).pins = s.pins := by unfold failPump; dsimp only; (repeat' split) <;> simp
@[simp] theorem failPump_freeCount (p : Side) (s : State) : (failPump p s).freeCount = s.freeCount := by unfold failPump; dsimp only; (repeat' split) <;> simp
@[simp] theorem failPump_pending (p : Side) (s : State) : (failPump p s).pending = s.pending := by unfold failPump; dsimp only; (repeat' split) <;> simp

@[simp] theorem afterStrayFailure_time (p : Side) (d : Bool) (s : State) : (afterStrayFailure p d s).time = s.time := by unfold afterStrayFailure; dsimp only; (repeat' split) <;> simp
@[simp] theorem afterStrayFailure_pulse (p : Side) (d : Bool) (s : State) : (afterStrayFailure p d s).pulse = s.pulse := by unfold afterStrayFailure; dsimp only; (repeat' split) <;> simp
@[simp] theorem afterStrayFailure_loop (p : Side) (d : Bool) (s : State) : (afterStrayFailure p d s).loop = s.loop := by unfold afterStrayFailure; dsimp only; (repeat' split) <;> simp
@[simp] theorem afterStrayFailure_run (p : Side) (d : Bool) (s : State) : (afterStrayFailure p d s).run = s.run := by unfold afterStrayFailure; dsimp only; (repeat' split) <;> simp
@[simp] theorem afterStrayFailure_conv (p : Side) (d : Bool) (s : State) : (afterStrayFailure p d s).conv = s.conv := by unfold afterStrayFailure; dsimp only; (repeat' split) <;> simp
@[simp] theorem afterStrayFailure_pump (p : Side) (d : Bool) (s : State) : (afterStrayFailure p d s).pump = s.pump := by unfold afterStrayFailure; dsimp only; (repeat' split) <;> simp
@[simp] theorem afterStrayFailure_sense (p : Side) (d : Bool) (s : State) : (afterStrayFailure p d s).sense = s.sense := by unfold afterStrayFailure; dsimp only; (repeat' split) <;> simp
@[simp] theorem afterStrayFailure_recorder (p : Side) (d : Bool) (s : State) : (afterStrayFailure p d s).recorder = s.recorder := by unfold afterStrayFailure; dsimp only; (repeat' split) <;> simp
@[simp] theorem afterStrayFailure_monitors (p : Side) (d : Bool) (s : State) : (afterStrayFailure p d s).monitors = s.monitors := by unfold afterStrayFailure; dsimp only; (repeat' split) <;> simp
@[simp] theorem afterStrayFailure_settings (p : Side) (d : Bool) (s : State) : (afterStrayFailure p d s).settings = s.settings := by unfold afterStrayFailure; dsimp only; (repeat' split) <;> simp
@[simp] theorem afterStrayFailure_store (p : Side) (d : Bool) (s : State) : (afterStrayFailure p d s).store = s.store := by unfold afterStrayFailure; dsimp only; (repeat' split) <;> simp
@[simp] theorem afterStrayFailure_pins (p : Side) (d : Bool) (s : State) : (afterStrayFailure p d s).pins = s.pins := by unfold afterStrayFailure; dsimp only; (repeat' split) <;> simp
@[simp] theorem afterStrayFailure_freeCount (p : Side) (d : Bool) (s : State) : (afterStrayFailure p d s).freeCount = s.freeCount := by unfold afterStrayFailure; dsimp only; (repeat' split) <;> simp
@[simp] theorem afterStrayFailure_pending (p : Side) (d : Bool) (s : State) : (afterStrayFailure p d s).pending = s.pending := by unfold afterStrayFailure; dsimp only; (repeat' split) <;> simp

@[simp] theorem pumpBecameReady_time (p : Side) (s : State) : (pumpBecameReady p s).time = s.time := by unfold pumpBecameReady; dsimp only; (repeat' split) <;> simp
@[simp] theorem pumpBecameReady_pulse (p : Side) (s : State) : (pumpBecameReady p s).pulse = s.pulse := by unfold pumpBecameReady; dsimp only; (repeat' split) <;> simp
@[simp] theorem pumpBecameReady_loop (p : Side) (s : State) : (pumpBecameReady p s).loop = s.loop := by unfold pumpBecameReady; dsimp only; (repeat' split) <;> simp
@[simp] theorem pumpBecameReady_run (p : Side) (s : State) : (pumpBecameReady p s).run = s.run := by unfold pumpBecameReady; dsimp only; (repeat' split) <;> simp
@[simp] theorem pumpBecameReady_conv (p : Side) (s : State) : (pumpBecameReady p s).conv = s.conv := by unfold pumpBecameReady; dsimp only; (repeat' split) <;> simp
@[simp] theorem pumpBecameReady_pump (p : Side) (s : State) : (pumpBecameReady p s).pump = s.pump := by unfold pumpBecameReady; dsimp only; (repeat' split) <;> simp
@[simp] theorem pumpBecameReady_sense (p : Side) (s : State) : (pumpBecameReady p s).sense = s.sense := by unfold pumpBecameReady; dsimp only; (repeat' split) <;> simp
@[simp] theorem pumpBecameReady_recorder (p : Side) (s : State) : (pumpBecameReady p s).recorder = s.recorder := by unfold pumpBecameReady; dsimp only; (repeat' split) <;> simp
@[simp] theorem pumpBecameReady_monitors (p : Side) (s : State) : (pumpBecameReady p s).monitors = s.monitors := by unfold pumpBecameReady; dsimp only; (repeat' split) <;> simp
@[simp] theorem pumpBecameReady_settings (p : Side) (s : State) : (pumpBecameReady p s).settings = s.settings := by unfold pumpBecameReady; dsimp only; (repeat' split) <;> simp
@[simp] theorem pumpBecameReady_store (p : Side) (s : State) : (pumpBecameReady p s).store = s.store := by unfold pumpBecameReady; dsimp only; (repeat' split) <;> simp
@[simp] theorem pumpBecameReady_pins (p : Side) (s : State) : (pumpBecameReady p s).pins = s.pins := by unfold pumpBecameReady; dsimp only; (repeat' split) <;> simp
@[simp] theorem pumpBecameReady_freeCount (p : Side) (s : State) : (pumpBecameReady p s).freeCount = s.freeCount := by unfold pumpBecameReady; dsimp only; (repeat' split) <;> simp
@[simp] theorem pumpBecameReady_pending (p : Side) (s : State) : (pumpBecameReady p s).pending = s.pending := by unfold pumpBecameReady; dsimp only; (repeat' split) <;> simp

@[simp] theorem endDrive_time (p : Side) (s : State) : (endDrive p s).time = s.time := by unfold endDrive; dsimp only; (repeat' split) <;> simp
@[simp] theorem endDrive_pulse (p : Side) (s : State) : (endDrive p s).pulse = s.pulse := by unfold endDrive; dsimp only; (repeat' split) <;> simp
@[simp] theorem endDrive_loop (p : Side) (s : State) : (endDrive p s).loop = s.loop := by unfold endDrive; dsimp only; (repeat' split) <;> simp
@[simp] theorem endDrive_run (p : Side) (s : State) : (endDrive p s).run = s.run := by unfold endDrive; dsimp only; (repeat' split) <;> simp
@[simp] theorem endDrive_conv (p : Side) (s : State) : (endDrive p s).conv = s.conv := by unfold endDrive; dsimp only; (repeat' split) <;> simp
@[simp] theorem endDrive_sense (p : Side) (s : State) : (endDrive p s).sense = s.sense := by unfold endDrive; dsimp only; (repeat' split) <;> simp
@[simp] theorem endDrive_recorder (p : Side) (s : State) : (endDrive p s).recorder = s.recorder := by unfold endDrive; dsimp only; (repeat' split) <;> simp
@[simp] theorem endDrive_monitors (p : Side) (s : State) : (endDrive p s).monitors = s.monitors := by unfold endDrive; dsimp only; (repeat' split) <;> simp
@[simp] theorem endDrive_settings (p : Side) (s : State) : (endDrive p s).settings = s.settings := by unfold endDrive; dsimp only; (repeat' split) <;> simp
@[simp] theorem endDrive_store (p : Side) (s : State) : (endDrive p s).store = s.store := by unfold endDrive; dsimp only; (repeat' split) <;> simp
@[simp] theorem endDrive_pins (p : Side) (s : State) : (endDrive p s).pins = s.pins := by unfold endDrive; dsimp only; (repeat' split) <;> simp
@[simp] theorem endDrive_freeCount (p : Side) (s : State) : (endDrive p s).freeCount = s.freeCount := by unfold endDrive; dsimp only; (repeat' split) <;> simp
@[simp] theorem endDrive_pending (p : Side) (s : State) : (endDrive p s).pending = s.pending := by unfold endDrive; dsimp only; (repeat' split) <;> simp

@[simp] theorem endDriveIfReached_time (p : Side) (s : State) : (endDriveIfReached p s).time = s.time := by unfold endDriveIfReached; split <;> simp
@[simp] theorem endDriveIfReached_pulse (p : Side) (s : State) : (endDriveIfReached p s).pulse = s.pulse := by unfold endDriveIfReached; split <;> simp
@[simp] theorem endDriveIfReached_loop (p : Side) (s : State) : (endDriveIfReached p s).loop = s.loop := by unfold endDriveIfReached; split <;> simp
@[simp] theorem endDriveIfReached_run (p : Side) (s : State) : (endDriveIfReached p s).run = s.run := by unfold endDriveIfReached; split <;> simp
@[simp] theorem endDriveIfReached_conv (p : Side) (s : State) : (endDriveIfReached p s).conv = s.conv := by unfold endDriveIfReached; split <;> simp
@[simp] theorem endDriveIfReached_sense (p : Side) (s : State) : (endDriveIfReached p s).sense = s.sense := by unfold endDriveIfReached; split <;> simp
@[simp] theorem endDriveIfReached_recorder (p : Side) (s : State) : (endDriveIfReached p s).recorder = s.recorder := by unfold endDriveIfReached; split <;> simp
@[simp] theorem endDriveIfReached_monitors (p : Side) (s : State) : (endDriveIfReached p s).monitors = s.monitors := by unfold endDriveIfReached; split <;> simp
@[simp] theorem endDriveIfReached_settings (p : Side) (s : State) : (endDriveIfReached p s).settings = s.settings := by unfold endDriveIfReached; split <;> simp
@[simp] theorem endDriveIfReached_store (p : Side) (s : State) : (endDriveIfReached p s).store = s.store := by unfold endDriveIfReached; split <;> simp
@[simp] theorem endDriveIfReached_pins (p : Side) (s : State) : (endDriveIfReached p s).pins = s.pins := by unfold endDriveIfReached; split <;> simp
@[simp] theorem endDriveIfReached_freeCount (p : Side) (s : State) : (endDriveIfReached p s).freeCount = s.freeCount := by unfold endDriveIfReached; split <;> simp
@[simp] theorem endDriveIfReached_pending (p : Side) (s : State) : (endDriveIfReached p s).pending = s.pending := by unfold endDriveIfReached; split <;> simp

@[simp] theorem startDrive_time (p : Side) (s : State) : (startDrive p s).time = s.time := by simp [startDrive]
@[simp] theorem startDrive_pulse (p : Side) (s : State) : (startDrive p s).pulse = s.pulse := by simp [startDrive]
@[simp] theorem startDrive_loop (p : Side) (s : State) : (startDrive p s).loop = s.loop := by simp [startDrive]
@[simp] theorem startDrive_run (p : Side) (s : State) : (startDrive p s).run = s.run := by simp [startDrive]
@[simp] theorem startDrive_conv (p : Side) (s : State) : (startDrive p s).conv = s.conv := by simp [startDrive]
@[simp] theorem startDrive_sense (p : Side) (s : State) : (startDrive p s).sense = s.sense := by simp [startDrive]
@[simp] theorem startDrive_recorder (p : Side) (s : State) : (startDrive p s).recorder = s.recorder := by simp [startDrive]
@[simp] theorem startDrive_monitors (p : Side) (s : State) : (startDrive p s).monitors = s.monitors := by simp [startDrive]
@[simp] theorem startDrive_settings (p : Side) (s : State) : (startDrive p s).settings = s.settings := by simp [startDrive]
@[simp] theorem startDrive_store (p : Side) (s : State) : (startDrive p s).store = s.store := by simp [startDrive]
@[simp] theorem startDrive_link (p : Side) (s : State) : (startDrive p s).link = s.link := by simp [startDrive]
@[simp] theorem startDrive_pins (p : Side) (s : State) : (startDrive p s).pins = s.pins := by simp [startDrive]
@[simp] theorem startDrive_freeCount (p : Side) (s : State) : (startDrive p s).freeCount = s.freeCount := by simp [startDrive]
@[simp] theorem startDrive_pending (p : Side) (s : State) : (startDrive p s).pending = s.pending := by simp [startDrive]

@[simp] theorem autoDrive_time (p : Side) (s : State) : (autoDrive p s).time = s.time := by unfold autoDrive; dsimp only; (repeat' split) <;> simp
@[simp] theorem autoDrive_pulse (p : Side) (s : State) : (autoDrive p s).pulse = s.pulse := by unfold autoDrive; dsimp only; (repeat' split) <;> simp
@[simp] theorem autoDrive_loop (p : Side) (s : State) : (autoDrive p s).loop = s.loop := by unfold autoDrive; dsimp only; (repeat' split) <;> simp
@[simp] theorem autoDrive_run (p : Side) (s : State) : (autoDrive p s).run = s.run := by unfold autoDrive; dsimp only; (repeat' split) <;> simp
@[simp] theorem autoDrive_conv (p : Side) (s : State) : (autoDrive p s).conv = s.conv := by unfold autoDrive; dsimp only; (repeat' split) <;> simp
@[simp] theorem autoDrive_sense (p : Side) (s : State) : (autoDrive p s).sense = s.sense := by unfold autoDrive; dsimp only; (repeat' split) <;> simp
@[simp] theorem autoDrive_recorder (p : Side) (s : State) : (autoDrive p s).recorder = s.recorder := by unfold autoDrive; dsimp only; (repeat' split) <;> simp
@[simp] theorem autoDrive_monitors (p : Side) (s : State) : (autoDrive p s).monitors = s.monitors := by unfold autoDrive; dsimp only; (repeat' split) <;> simp
@[simp] theorem autoDrive_settings (p : Side) (s : State) : (autoDrive p s).settings = s.settings := by unfold autoDrive; dsimp only; (repeat' split) <;> simp
@[simp] theorem autoDrive_store (p : Side) (s : State) : (autoDrive p s).store = s.store := by unfold autoDrive; dsimp only; (repeat' split) <;> simp
@[simp] theorem autoDrive_pins (p : Side) (s : State) : (autoDrive p s).pins = s.pins := by unfold autoDrive; dsimp only; (repeat' split) <;> simp
@[simp] theorem autoDrive_freeCount (p : Side) (s : State) : (autoDrive p s).freeCount = s.freeCount := by unfold autoDrive; dsimp only; (repeat' split) <;> simp
@[simp] theorem autoDrive_pending (p : Side) (s : State) : (autoDrive p s).pending = s.pending := by unfold autoDrive; dsimp only; (repeat' split) <;> simp

@[simp] theorem manualDrive_time (p : Side) (s : State) : (manualDrive p s).time = s.time := by simp [manualDrive]
@[simp] theorem manualDrive_pulse (p : Side) (s : State) : (manualDrive p s).pulse = s.pulse := by simp [manualDrive]
@[simp] theorem manualDrive_loop (p : Side) (s : State) : (manualDrive p s).loop = s.loop := by simp [manualDrive]
@[simp] theorem manualDrive_run (p : Side) (s : State) : (manualDrive p s).run = s.run := by simp [manualDrive]
@[simp] theorem manualDrive_conv (p : Side) (s : State) : (manualDrive p s).conv = s.conv := by simp [manualDrive]
@[simp] theorem manualDrive_sense (p : Side) (s : State) : (manualDrive p s).sense = s.sense := by simp [manualDrive]
@[simp] theorem manualDrive_recorder (p : Side) (s : State) : (manualDrive p s).recorder = s.recorder := by simp [manualDrive]
@[simp] theorem manualDrive_monitors (p : Side) (s : State) : (manualDrive p s).monitors = s.monitors := by simp [manualDrive]
@[simp] theorem manualDrive_settings (p : Side) (s : State) : (manualDrive p s).settings = s.settings := by simp [manualDrive]
@[simp] theorem manualDrive_store (p : Side) (s : State) : (manualDrive p s).store = s.store := by simp [manualDrive]
@[simp] theorem manualDrive_link (p : Side) (s : State) : (manualDrive p s).link = s.link := by simp [manualDrive]
@[simp] theorem manualDrive_pins (p : Side) (s : State) : (manualDrive p s).pins = s.pins := by simp [manualDrive]
@[simp] theorem manualDrive_freeCount (p : Side) (s : State) : (manualDrive p s).freeCount = s.freeCount := by simp [manualDrive]
@[simp] theorem manualDrive_pending (p : Side) (s : State) : (manualDrive p s).pending = s.pending := by simp [manualDrive]

@[simp] theorem drawDown_time (s : State) : (drawDown s).time = s.time := by simp [drawDown]
@[simp] theorem drawDown_pulse (s : State) : (drawDown s).pulse = s.pulse := by simp [drawDown]
@[simp] theorem drawDown_loop (s : State) : (drawDown s).loop = s.loop := by simp [drawDown]
@[simp] theorem drawDown_run (s : State) : (drawDown s).run = s.run := by simp [drawDown]
@[simp] theorem drawDown_conv (s : State) : (drawDown s).conv = s.conv := by simp [drawDown]
@[simp] theorem drawDown_pump (s : State) : (drawDown s).pump = s.pump := by simp [drawDown]
@[simp] theorem drawDown_sense (s : State) : (drawDown s).sense = s.sense := by simp [drawDown]
@[simp] theorem drawDown_table (s : State) : (drawDown s).table = s.table := by simp [drawDown]
@[simp] theorem drawDown_monitors (s : State) : (drawDown s).monitors = s.monitors := by simp [drawDown]
@[simp] theorem drawDown_settings (s : State) : (drawDown s).settings = s.settings := by simp [drawDown]
@[simp] theorem drawDown_store (s : State) : (drawDown s).store = s.store := by simp [drawDown]
@[simp] theorem drawDown_link (s : State) : (drawDown s).link = s.link := by simp [drawDown]
@[simp] theorem drawDown_pins (s : State) : (drawDown s).pins = s.pins := by simp [drawDown]
@[simp] theorem drawDown_freeCount (s : State) : (drawDown s).freeCount = s.freeCount := by simp [drawDown]
@[simp] theorem drawDown_pending (s : State) : (drawDown s).pending = s.pending := by simp [drawDown]

@[simp] theorem confirmedOutcome_time (s : State) : (confirmedOutcome s).time = s.time := by unfold confirmedOutcome; split <;> simp
@[simp] theorem confirmedOutcome_pulse (s : State) : (confirmedOutcome s).pulse = s.pulse := by unfold confirmedOutcome; split <;> simp
@[simp] theorem confirmedOutcome_loop (s : State) : (confirmedOutcome s).loop = s.loop := by unfold confirmedOutcome; split <;> simp
@[simp] theorem confirmedOutcome_run (s : State) : (confirmedOutcome s).run = s.run := by unfold confirmedOutcome; split <;> simp
@[simp] theorem confirmedOutcome_conv (s : State) : (confirmedOutcome s).conv = s.conv := by unfold confirmedOutcome; split <;> simp
@[simp] theorem confirmedOutcome_pump (s : State) : (confirmedOutcome s).pump = s.pump := by unfold confirmedOutcome; split <;> simp
@[simp] theorem confirmedOutcome_sense (s : State) : (confirmedOutcome s).sense = s.sense := by unfold confirmedOutcome; split <;> simp
@[simp] theorem confirmedOutcome_settings (s : State) : (confirmedOutcome s).settings = s.settings := by unfold confirmedOutcome; split <;> simp
@[simp] theorem confirmedOutcome_store (s : State) : (confirmedOutcome s).store = s.store := by unfold confirmedOutcome; split <;> simp
@[simp] theorem confirmedOutcome_pins (s : State) : (confirmedOutcome s).pins = s.pins := by unfold confirmedOutcome; split <;> simp
@[simp] theorem confirmedOutcome_freeCount (s : State) : (confirmedOutcome s).freeCount = s.freeCount := by unfold confirmedOutcome; split <;> simp
@[simp] theorem confirmedOutcome_pending (s : State) : (confirmedOutcome s).pending = s.pending := by unfold confirmedOutcome; split <;> simp

@[simp] theorem missedOutcome_time (p : Side) (s : State) : (missedOutcome p s).time = s.time := by unfold missedOutcome; dsimp only; (repeat' split) <;> simp
@[simp] theorem missedOutcome_pulse (p : Side) (s : State) : (missedOutcome p s).pulse = s.pulse := by unfold missedOutcome; dsimp only; (repeat' split) <;> simp
@[simp] theorem missedOutcome_loop (p : Side) (s : State) : (missedOutcome p s).loop = s.loop := by unfold missedOutcome; dsimp only; (repeat' split) <;> simp
@[simp] theorem missedOutcome_run (p : Side) (s : State) : (missedOutcome p s).run = s.run := by unfold missedOutcome; dsimp only; (repeat' split) <;> simp
@[simp] theorem missedOutcome_conv (p : Side) (s : State) : (missedOutcome p s).conv = s.conv := by unfold missedOutcome; dsimp only; (repeat' split) <;> simp
@[simp] theorem missedOutcome_pump (p : Side) (s : State) : (missedOutcome p s).pump = s.pump := by unfold missedOutcome; dsimp only; (repeat' split) <;> simp
@[simp] theorem missedOutcome_sense (p : Side) (s : State) : (missedOutcome p s).sense = s.sense := by unfold missedOutcome; dsimp only; (repeat' split) <;> simp
@[simp] theorem missedOutcome_settings (p : Side) (s : State) : (missedOutcome p s).settings = s.settings := by unfold missedOutcome; dsimp only; (repeat' split) <;> simp
@[simp] theorem missedOutcome_store (p : Side) (s : State) : (missedOutcome p s).store = s.store := by unfold missedOutcome; dsimp only; (repeat' split) <;> simp
@[simp] theorem missedOutcome_pins (p : Side) (s : State) : (missedOutcome p s).pins = s.pins := by unfold missedOutcome; dsimp only; (repeat' split) <;> simp
@[simp] theorem missedOutcome_freeCount (p : Side) (s : State) : (missedOutcome p s).freeCount = s.freeCount := by unfold missedOutcome; dsimp only; (repeat' split) <;> simp
@[simp] theorem missedOutcome_pending (p : Side) (s : State) : (missedOutcome p s).pending = s.pending := by unfold missedOutcome; dsimp only; (repeat' split) <;> simp

@[simp] theorem confirmStroke_time (p : Side) (s : State) : (confirmStroke p s).time = s.time := by simp [confirmStroke]
@[simp] theorem confirmStroke_pulse (p : Side) (s : State) : (confirmStroke p s).pulse = s.pulse := by simp [confirmStroke]
@[simp] theorem confirmStroke_loop (p : Side) (s : State) : (confirmStroke p s).loop = s.loop := by simp [confirmStroke]
@[simp] theorem confirmStroke_run (p : Side) (s : State) : (confirmStroke p s).run = s.run := by simp [confirmStroke]
@[simp] theorem confirmStroke_conv (p : Side) (s : State) : (confirmStroke p s).conv = s.conv := by simp [confirmStroke]
@[simp] theorem confirmStroke_sense (p : Side) (s : State) : (confirmStroke p s).sense = s.sense := by simp [confirmStroke]
@[simp] theorem confirmStroke_settings (p : Side) (s : State) : (confirmStroke p s).settings = s.settings := by simp [confirmStroke]
@[simp] theorem confirmStroke_store (p : Side) (s : State) : (confirmStroke p s).store = s.store := by simp [confirmStroke]
@[simp] theorem confirmStroke_pins (p : Side) (s : State) : (confirmStroke p s).pins = s.pins := by simp [confirmStroke]
@[simp] theorem confirmStroke_freeCount (p : Side) (s : State) : (confirmStroke p s).freeCount = s.freeCount := by simp [confirmStroke]
@[simp] theorem confirmStroke_pending (p : Side) (s : State) : (confirmStroke p s).pending = s.pending := by simp [confirmStroke]

@[simp] theorem strayEdge_time (p : Side) (s : State) : (strayEdge p s).time = s.time := by unfold strayEdge; dsimp only; (repeat' split) <;> simp
@[simp] theorem strayEdge_pulse (p : Side) (s : State) : (strayEdge p s).pulse = s.pulse := by unfold strayEdge; dsimp only; (repeat' split) <;> simp
@[simp] theorem strayEdge_loop (p : Side) (s : State) : (strayEdge p s).loop = s.loop := by unfold strayEdge; dsimp only; (repeat' split) <;> simp
@[simp] theorem strayEdge_run (p : Side) (s : State) : (strayEdge p s).run = s.run := by unfold strayEdge; dsimp only; (repeat' split) <;> simp
@[simp] theorem strayEdge_conv (p : Side) (s : State) : (strayEdge p s).conv = s.conv := by unfold strayEdge; dsimp only; (repeat' split) <;> simp
@[simp] theorem strayEdge_sense (p : Side) (s : State) : (strayEdge p s).sense = s.sense := by unfold strayEdge; dsimp only; (repeat' split) <;> simp
@[simp] theorem strayEdge_monitors (p : Side) (s : State) : (strayEdge p s).monitors = s.monitors := by unfold strayEdge; dsimp only; (repeat' split) <;> simp
@[simp] theorem strayEdge_settings (p : Side) (s : State) : (strayEdge p s).settings = s.settings := by unfold strayEdge; dsimp only; (repeat' split) <;> simp
@[simp] theorem strayEdge_store (p : Side) (s : State) : (strayEdge p s).store = s.store := by unfold strayEdge; dsimp only; (repeat' split) <;> simp
@[simp] theorem strayEdge_pins (p : Side) (s : State) : (strayEdge p s).pins = s.pins := by unfold strayEdge; dsimp only; (repeat' split) <;> simp
@[simp] theorem strayEdge_freeCount (p : Side) (s : State) : (strayEdge p s).freeCount = s.freeCount := by unfold strayEdge; dsimp only; (repeat' split) <;> simp
@[simp] theorem strayEdge_pending (p : Side) (s : State) : (strayEdge p s).pending = s.pending := by unfold strayEdge; dsimp only; (repeat' split) <;> simp

@[simp] theorem missStroke_time (p : Side) (s : State) : (missStroke p s).time = s.time := by unfold missStroke; dsimp only; (repeat' split) <;> simp
@[simp] theorem missStroke_pulse (p : Side) (s : State) : (missStroke p s).pulse = s.pulse := by unfold missStroke; dsimp only; (repeat' split) <;> simp
@[simp] theorem missStroke_loop (p : Side) (s : State) : (missStroke p s).loop = s.loop := by unfold missStroke; dsimp only; (repeat' split) <;> simp
@[simp] theorem missStroke_run (p : Side) (s : State) : (missStroke p s).run = s.run := by unfold missStroke; dsimp only; (repeat' split) <;> simp
@[simp] theorem missStroke_conv (p : Side) (s : State) : (missStroke p s).conv = s.conv := by unfold missStroke; dsimp only; (repeat' split) <;> simp
@[simp] theorem missStroke_sense (p : Side) (s : State) : (missStroke p s).sense = s.sense := by unfold missStroke; dsimp only; (repeat' split) <;> simp
@[simp] theorem missStroke_settings (p : Side) (s : State) : (missStroke p s).settings = s.settings := by unfold missStroke; dsimp only; (repeat' split) <;> simp
@[simp] theorem missStroke_store (p : Side) (s : State) : (missStroke p s).store = s.store := by unfold missStroke; dsimp only; (repeat' split) <;> simp
@[simp] theorem missStroke_pins (p : Side) (s : State) : (missStroke p s).pins = s.pins := by unfold missStroke; dsimp only; (repeat' split) <;> simp
@[simp] theorem missStroke_freeCount (p : Side) (s : State) : (missStroke p s).freeCount = s.freeCount := by unfold missStroke; dsimp only; (repeat' split) <;> simp
@[simp] theorem missStroke_pending (p : Side) (s : State) : (missStroke p s).pending = s.pending := by unfold missStroke; dsimp only; (repeat' split) <;> simp

@[simp] theorem deadline_time (p : Side) (s : State) : (deadline p s).time = s.time := by unfold deadline; dsimp only; (repeat' split) <;> simp
@[simp] theorem deadline_pulse (p : Side) (s : State) : (deadline p s).pulse = s.pulse := by unfold deadline; dsimp only; (repeat' split) <;> simp
@[simp] theorem deadline_loop (p : Side) (s : State) : (deadline p s).loop = s.loop := by unfold deadline; dsimp only; (repeat' split) <;> simp
@[simp] theorem deadline_run (p : Side) (s : State) : (deadline p s).run = s.run := by unfold deadline; dsimp only; (repeat' split) <;> simp
@[simp] theorem deadline_conv (p : Side) (s : State) : (deadline p s).conv = s.conv := by unfold deadline; dsimp only; (repeat' split) <;> simp
@[simp] theorem deadline_sense (p : Side) (s : State) : (deadline p s).sense = s.sense := by unfold deadline; dsimp only; (repeat' split) <;> simp
@[simp] theorem deadline_settings (p : Side) (s : State) : (deadline p s).settings = s.settings := by unfold deadline; dsimp only; (repeat' split) <;> simp
@[simp] theorem deadline_store (p : Side) (s : State) : (deadline p s).store = s.store := by unfold deadline; dsimp only; (repeat' split) <;> simp
@[simp] theorem deadline_pins (p : Side) (s : State) : (deadline p s).pins = s.pins := by unfold deadline; dsimp only; (repeat' split) <;> simp
@[simp] theorem deadline_freeCount (p : Side) (s : State) : (deadline p s).freeCount = s.freeCount := by unfold deadline; dsimp only; (repeat' split) <;> simp
@[simp] theorem deadline_pending (p : Side) (s : State) : (deadline p s).pending = s.pending := by unfold deadline; dsimp only; (repeat' split) <;> simp

@[simp] theorem takeReading_time (m : Nat) (s : State) : (takeReading m s).time = s.time := by unfold takeReading; dsimp only; (repeat' split) <;> simp
@[simp] theorem takeReading_pulse (m : Nat) (s : State) : (takeReading m s).pulse = s.pulse := by unfold takeReading; dsimp only; (repeat' split) <;> simp
@[simp] theorem takeReading_loop (m : Nat) (s : State) : (takeReading m s).loop = s.loop := by unfold takeReading; dsimp only; (repeat' split) <;> simp
@[simp] theorem takeReading_run (m : Nat) (s : State) : (takeReading m s).run = s.run := by unfold takeReading; dsimp only; (repeat' split) <;> simp
@[simp] theorem takeReading_conv (m : Nat) (s : State) : (takeReading m s).conv = s.conv := by unfold takeReading; dsimp only; (repeat' split) <;> simp
@[simp] theorem takeReading_pump (m : Nat) (s : State) : (takeReading m s).pump = s.pump := by unfold takeReading; dsimp only; (repeat' split) <;> simp
@[simp] theorem takeReading_sense (m : Nat) (s : State) : (takeReading m s).sense = s.sense := by unfold takeReading; dsimp only; (repeat' split) <;> simp
@[simp] theorem takeReading_table (m : Nat) (s : State) : (takeReading m s).table = s.table := by unfold takeReading; dsimp only; (repeat' split) <;> simp
@[simp] theorem takeReading_recorder (m : Nat) (s : State) : (takeReading m s).recorder = s.recorder := by unfold takeReading; dsimp only; (repeat' split) <;> simp
@[simp] theorem takeReading_monitors (m : Nat) (s : State) : (takeReading m s).monitors = s.monitors := by unfold takeReading; dsimp only; (repeat' split) <;> simp
@[simp] theorem takeReading_settings (m : Nat) (s : State) : (takeReading m s).settings = s.settings := by unfold takeReading; dsimp only; (repeat' split) <;> simp
@[simp] theorem takeReading_store (m : Nat) (s : State) : (takeReading m s).store = s.store := by unfold takeReading; dsimp only; (repeat' split) <;> simp
@[simp] theorem takeReading_pins (m : Nat) (s : State) : (takeReading m s).pins = s.pins := by unfold takeReading; dsimp only; (repeat' split) <;> simp
@[simp] theorem takeReading_freeCount (m : Nat) (s : State) : (takeReading m s).freeCount = s.freeCount := by unfold takeReading; dsimp only; (repeat' split) <;> simp
@[simp] theorem takeReading_pending (m : Nat) (s : State) : (takeReading m s).pending = s.pending := by unfold takeReading; dsimp only; (repeat' split) <;> simp

@[simp] theorem markAbandoned_time (s : State) : (markAbandoned s).time = s.time := by unfold markAbandoned; split <;> simp
@[simp] theorem markAbandoned_pulse (s : State) : (markAbandoned s).pulse = s.pulse := by unfold markAbandoned; split <;> simp
@[simp] theorem markAbandoned_loop (s : State) : (markAbandoned s).loop = s.loop := by unfold markAbandoned; split <;> simp
@[simp] theorem markAbandoned_run (s : State) : (markAbandoned s).run = s.run := by unfold markAbandoned; split <;> simp
@[simp] theorem markAbandoned_conv (s : State) : (markAbandoned s).conv = s.conv := by unfold markAbandoned; split <;> simp
@[simp] theorem markAbandoned_dose (s : State) : (markAbandoned s).dose = s.dose := by unfold markAbandoned; split <;> simp
@[simp] theorem markAbandoned_pump (s : State) : (markAbandoned s).pump = s.pump := by unfold markAbandoned; split <;> simp
@[simp] theorem markAbandoned_sense (s : State) : (markAbandoned s).sense = s.sense := by unfold markAbandoned; split <;> simp
@[simp] theorem markAbandoned_table (s : State) : (markAbandoned s).table = s.table := by unfold markAbandoned; split <;> simp
@[simp] theorem markAbandoned_monitors (s : State) : (markAbandoned s).monitors = s.monitors := by unfold markAbandoned; split <;> simp
@[simp] theorem markAbandoned_settings (s : State) : (markAbandoned s).settings = s.settings := by unfold markAbandoned; split <;> simp
@[simp] theorem markAbandoned_store (s : State) : (markAbandoned s).store = s.store := by unfold markAbandoned; split <;> simp
@[simp] theorem markAbandoned_link (s : State) : (markAbandoned s).link = s.link := by unfold markAbandoned; split <;> simp
@[simp] theorem markAbandoned_pins (s : State) : (markAbandoned s).pins = s.pins := by unfold markAbandoned; split <;> simp
@[simp] theorem markAbandoned_freeCount (s : State) : (markAbandoned s).freeCount = s.freeCount := by unfold markAbandoned; split <;> simp
@[simp] theorem markAbandoned_pending (s : State) : (markAbandoned s).pending = s.pending := by unfold markAbandoned; split <;> simp

@[simp] theorem startDosing_time (s : State) : (startDosing s).time = s.time := by unfold startDosing; dsimp only; (repeat' split) <;> simp
@[simp] theorem startDosing_pulse (s : State) : (startDosing s).pulse = s.pulse := by unfold startDosing; dsimp only; (repeat' split) <;> simp
@[simp] theorem startDosing_loop (s : State) : (startDosing s).loop = s.loop := by unfold startDosing; dsimp only; (repeat' split) <;> simp
@[simp] theorem startDosing_run (s : State) : (startDosing s).run = s.run := by unfold startDosing; dsimp only; (repeat' split) <;> simp
@[simp] theorem startDosing_conv (s : State) : (startDosing s).conv = s.conv := by unfold startDosing; dsimp only; (repeat' split) <;> simp
@[simp] theorem startDosing_pump (s : State) : (startDosing s).pump = s.pump := by unfold startDosing; dsimp only; (repeat' split) <;> simp
@[simp] theorem startDosing_sense (s : State) : (startDosing s).sense = s.sense := by unfold startDosing; dsimp only; (repeat' split) <;> simp
@[simp] theorem startDosing_monitors (s : State) : (startDosing s).monitors = s.monitors := by unfold startDosing; dsimp only; (repeat' split) <;> simp
@[simp] theorem startDosing_settings (s : State) : (startDosing s).settings = s.settings := by unfold startDosing; dsimp only; (repeat' split) <;> simp
@[simp] theorem startDosing_store (s : State) : (startDosing s).store = s.store := by unfold startDosing; dsimp only; (repeat' split) <;> simp
@[simp] theorem startDosing_pins (s : State) : (startDosing s).pins = s.pins := by unfold startDosing; dsimp only; (repeat' split) <;> simp
@[simp] theorem startDosing_freeCount (s : State) : (startDosing s).freeCount = s.freeCount := by unfold startDosing; dsimp only; (repeat' split) <;> simp
@[simp] theorem startDosing_pending (s : State) : (startDosing s).pending = s.pending := by unfold startDosing; dsimp only; (repeat' split) <;> simp

@[simp] theorem pulseEdge_time (r : RunId) (ch : Side) (s : State) : (pulseEdge r ch s).time = s.time := by simp [pulseEdge]
@[simp] theorem pulseEdge_loop (r : RunId) (ch : Side) (s : State) : (pulseEdge r ch s).loop = s.loop := by simp [pulseEdge]
@[simp] theorem pulseEdge_run (r : RunId) (ch : Side) (s : State) : (pulseEdge r ch s).run = s.run := by simp [pulseEdge]
@[simp] theorem pulseEdge_conv (r : RunId) (ch : Side) (s : State) : (pulseEdge r ch s).conv = s.conv := by simp [pulseEdge]
@[simp] theorem pulseEdge_dose (r : RunId) (ch : Side) (s : State) : (pulseEdge r ch s).dose = s.dose := by simp [pulseEdge]
@[simp] theorem pulseEdge_pump (r : RunId) (ch : Side) (s : State) : (pulseEdge r ch s).pump = s.pump := by simp [pulseEdge]
@[simp] theorem pulseEdge_sense (r : RunId) (ch : Side) (s : State) : (pulseEdge r ch s).sense = s.sense := by simp [pulseEdge]
@[simp] theorem pulseEdge_table (r : RunId) (ch : Side) (s : State) : (pulseEdge r ch s).table = s.table := by simp [pulseEdge]
@[simp] theorem pulseEdge_recorder (r : RunId) (ch : Side) (s : State) : (pulseEdge r ch s).recorder = s.recorder := by simp [pulseEdge]
@[simp] theorem pulseEdge_monitors (r : RunId) (ch : Side) (s : State) : (pulseEdge r ch s).monitors = s.monitors := by simp [pulseEdge]
@[simp] theorem pulseEdge_settings (r : RunId) (ch : Side) (s : State) : (pulseEdge r ch s).settings = s.settings := by simp [pulseEdge]
@[simp] theorem pulseEdge_store (r : RunId) (ch : Side) (s : State) : (pulseEdge r ch s).store = s.store := by simp [pulseEdge]
@[simp] theorem pulseEdge_link (r : RunId) (ch : Side) (s : State) : (pulseEdge r ch s).link = s.link := by simp [pulseEdge]
@[simp] theorem pulseEdge_pins (r : RunId) (ch : Side) (s : State) : (pulseEdge r ch s).pins = s.pins := by simp [pulseEdge]
@[simp] theorem pulseEdge_freeCount (r : RunId) (ch : Side) (s : State) : (pulseEdge r ch s).freeCount = s.freeCount := by simp [pulseEdge]
@[simp] theorem pulseEdge_pending (r : RunId) (ch : Side) (s : State) : (pulseEdge r ch s).pending = s.pending := by simp [pulseEdge]

@[simp] theorem endPulseHoldOff_time (r : RunId) (ch : Side) (s : State) : (endPulseHoldOff r ch s).time = s.time := by simp [endPulseHoldOff]
@[simp] theorem endPulseHoldOff_loop (r : RunId) (ch : Side) (s : State) : (endPulseHoldOff r ch s).loop = s.loop := by simp [endPulseHoldOff]
@[simp] theorem endPulseHoldOff_run (r : RunId) (ch : Side) (s : State) : (endPulseHoldOff r ch s).run = s.run := by simp [endPulseHoldOff]
@[simp] theorem endPulseHoldOff_conv (r : RunId) (ch : Side) (s : State) : (endPulseHoldOff r ch s).conv = s.conv := by simp [endPulseHoldOff]
@[simp] theorem endPulseHoldOff_dose (r : RunId) (ch : Side) (s : State) : (endPulseHoldOff r ch s).dose = s.dose := by simp [endPulseHoldOff]
@[simp] theorem endPulseHoldOff_pump (r : RunId) (ch : Side) (s : State) : (endPulseHoldOff r ch s).pump = s.pump := by simp [endPulseHoldOff]
@[simp] theorem endPulseHoldOff_sense (r : RunId) (ch : Side) (s : State) : (endPulseHoldOff r ch s).sense = s.sense := by simp [endPulseHoldOff]
@[simp] theorem endPulseHoldOff_table (r : RunId) (ch : Side) (s : State) : (endPulseHoldOff r ch s).table = s.table := by simp [endPulseHoldOff]
@[simp] theorem endPulseHoldOff_recorder (r : RunId) (ch : Side) (s : State) : (endPulseHoldOff r ch s).recorder = s.recorder := by simp [endPulseHoldOff]
@[simp] theorem endPulseHoldOff_monitors (r : RunId) (ch : Side) (s : State) : (endPulseHoldOff r ch s).monitors = s.monitors := by simp [endPulseHoldOff]
@[simp] theorem endPulseHoldOff_settings (r : RunId) (ch : Side) (s : State) : (endPulseHoldOff r ch s).settings = s.settings := by simp [endPulseHoldOff]
@[simp] theorem endPulseHoldOff_store (r : RunId) (ch : Side) (s : State) : (endPulseHoldOff r ch s).store = s.store := by simp [endPulseHoldOff]
@[simp] theorem endPulseHoldOff_link (r : RunId) (ch : Side) (s : State) : (endPulseHoldOff r ch s).link = s.link := by simp [endPulseHoldOff]
@[simp] theorem endPulseHoldOff_pins (r : RunId) (ch : Side) (s : State) : (endPulseHoldOff r ch s).pins = s.pins := by simp [endPulseHoldOff]
@[simp] theorem endPulseHoldOff_freeCount (r : RunId) (ch : Side) (s : State) : (endPulseHoldOff r ch s).freeCount = s.freeCount := by simp [endPulseHoldOff]
@[simp] theorem endPulseHoldOff_pending (r : RunId) (ch : Side) (s : State) : (endPulseHoldOff r ch s).pending = s.pending := by simp [endPulseHoldOff]

@[simp] theorem convert_time (c : Option ChannelId) (s : State) : (convert c s).time = s.time := by simp [convert]
@[simp] theorem convert_pulse (c : Option ChannelId) (s : State) : (convert c s).pulse = s.pulse := by simp [convert]
@[simp] theorem convert_run (c : Option ChannelId) (s : State) : (convert c s).run = s.run := by simp [convert]
@[simp] theorem convert_conv (c : Option ChannelId) (s : State) : (convert c s).conv = s.conv := by simp [convert]
@[simp] theorem convert_dose (c : Option ChannelId) (s : State) : (convert c s).dose = s.dose := by simp [convert]
@[simp] theorem convert_pump (c : Option ChannelId) (s : State) : (convert c s).pump = s.pump := by simp [convert]
@[simp] theorem convert_sense (c : Option ChannelId) (s : State) : (convert c s).sense = s.sense := by simp [convert]
@[simp] theorem convert_table (c : Option ChannelId) (s : State) : (convert c s).table = s.table := by simp [convert]
@[simp] theorem convert_recorder (c : Option ChannelId) (s : State) : (convert c s).recorder = s.recorder := by simp [convert]
@[simp] theorem convert_monitors (c : Option ChannelId) (s : State) : (convert c s).monitors = s.monitors := by simp [convert]
@[simp] theorem convert_settings (c : Option ChannelId) (s : State) : (convert c s).settings = s.settings := by simp [convert]
@[simp] theorem convert_store (c : Option ChannelId) (s : State) : (convert c s).store = s.store := by simp [convert]
@[simp] theorem convert_link (c : Option ChannelId) (s : State) : (convert c s).link = s.link := by simp [convert]
@[simp] theorem convert_pins (c : Option ChannelId) (s : State) : (convert c s).pins = s.pins := by simp [convert]
@[simp] theorem convert_freeCount (c : Option ChannelId) (s : State) : (convert c s).freeCount = s.freeCount := by simp [convert]
@[simp] theorem convert_pending (c : Option ChannelId) (s : State) : (convert c s).pending = s.pending := by simp [convert]

@[simp] theorem startScan_time (s : State) : (startScan s).time = s.time := by simp [startScan]
@[simp] theorem startScan_pulse (s : State) : (startScan s).pulse = s.pulse := by simp [startScan]
@[simp] theorem startScan_run (s : State) : (startScan s).run = s.run := by simp [startScan]
@[simp] theorem startScan_conv (s : State) : (startScan s).conv = s.conv := by simp [startScan]
@[simp] theorem startScan_dose (s : State) : (startScan s).dose = s.dose := by simp [startScan]
@[simp] theorem startScan_pump (s : State) : (startScan s).pump = s.pump := by simp [startScan]
@[simp] theorem startScan_sense (s : State) : (startScan s).sense = s.sense := by simp [startScan]
@[simp] theorem startScan_table (s : State) : (startScan s).table = s.table := by simp [startScan]
@[simp] theorem startScan_recorder (s : State) : (startScan s).recorder = s.recorder := by simp [startScan]
@[simp] theorem startScan_monitors (s : State) : (startScan s).monitors = s.monitors := by simp [startScan]
@[simp] theorem startScan_settings (s : State) : (startScan s).settings = s.settings := by simp [startScan]
@[simp] theorem startScan_store (s : State) : (startScan s).store = s.store := by simp [startScan]
@[simp] theorem startScan_link (s : State) : (startScan s).link = s.link := by simp [startScan]
@[simp] theorem startScan_pins (s : State) : (startScan s).pins = s.pins := by simp [startScan]
@[simp] theorem startScan_freeCount (s : State) : (startScan s).freeCount = s.freeCount := by simp [startScan]
@[simp] theorem startScan_pending (s : State) : (startScan s).pending = s.pending := by simp [startScan]

@[simp] theorem nextConversion_time (c : ChannelId) (s : State) : (nextConversion c s).time = s.time := by unfold nextConversion; (repeat' split) <;> simp
@[simp] theorem nextConversion_pulse (c : ChannelId) (s : State) : (nextConversion c s).pulse = s.pulse := by unfold nextConversion; (repeat' split) <;> simp
@[simp] theorem nextConversion_run (c : ChannelId) (s : State) : (nextConversion c s).run = s.run := by unfold nextConversion; (repeat' split) <;> simp
@[simp] theorem nextConversion_conv (c : ChannelId) (s : State) : (nextConversion c s).conv = s.conv := by unfold nextConversion; (repeat' split) <;> simp
@[simp] theorem nextConversion_dose (c : ChannelId) (s : State) : (nextConversion c s).dose = s.dose := by unfold nextConversion; (repeat' split) <;> simp
@[simp] theorem nextConversion_pump (c : ChannelId) (s : State) : (nextConversion c s).pump = s.pump := by unfold nextConversion; (repeat' split) <;> simp
@[simp] theorem nextConversion_sense (c : ChannelId) (s : State) : (nextConversion c s).sense = s.sense := by unfold nextConversion; (repeat' split) <;> simp
@[simp] theorem nextConversion_table (c : ChannelId) (s : State) : (nextConversion c s).table = s.table := by unfold nextConversion; (repeat' split) <;> simp
@[simp] theorem nextConversion_recorder (c : ChannelId) (s : State) : (nextConversion c s).recorder = s.recorder := by unfold nextConversion; (repeat' split) <;> simp
@[simp] theorem nextConversion_monitors (c : ChannelId) (s : State) : (nextConversion c s).monitors = s.monitors := by unfold nextConversion; (repeat' split) <;> simp
@[simp] theorem nextConversion_settings (c : ChannelId) (s : State) : (nextConversion c s).settings = s.settings := by unfold nextConversion; (repeat' split) <;> simp
@[simp] theorem nextConversion_store (c : ChannelId) (s : State) : (nextConversion c s).store = s.store := by unfold nextConversion; (repeat' split) <;> simp
@[simp] theorem nextConversion_link (c : ChannelId) (s : State) : (nextConversion c s).link = s.link := by unfold nextConversion; (repeat' split) <;> simp
@[simp] theorem nextConversion_pins (c : ChannelId) (s : State) : (nextConversion c s).pins = s.pins := by unfold nextConversion; (repeat' split) <;> simp
@[simp] theorem nextConversion_freeCount (c : ChannelId) (s : State) : (nextConversion c s).freeCount = s.freeCount := by unfold nextConversion; (repeat' split) <;> simp
@[simp] theorem nextConversion_pending (c : ChannelId) (s : State) : (nextConversion c s).pending = s.pending := by unfold nextConversion; (repeat' split) <;> simp

@[simp] theorem setRunState_time (r : RunId) (x : RunState) (s : State) : (setRunState r x s).time = s.time := by simp [setRunState]
@[simp] theorem setRunState_pulse (r : RunId) (x : RunState) (s : State) : (setRunState r x s).pulse = s.pulse := by simp [setRunState]
@[simp] theorem setRunState_loop (r : RunId) (x : RunState) (s : State) : (setRunState r x s).loop = s.loop := by simp [setRunState]
@[simp] theorem setRunState_conv (r : RunId) (x : RunState) (s : State) : (setRunState r x s).conv = s.conv := by simp [setRunState]
@[simp] theorem setRunState_dose (r : RunId) (x : RunState) (s : State) : (setRunState r x s).dose = s.dose := by simp [setRunState]
@[simp] theorem setRunState_pump (r : RunId) (x : RunState) (s : State) : (setRunState r x s).pump = s.pump := by simp [setRunState]
@[simp] theorem setRunState_sense (r : RunId) (x : RunState) (s : State) : (setRunState r x s).sense = s.sense := by simp [setRunState]
@[simp] theorem setRunState_table (r : RunId) (x : RunState) (s : State) : (setRunState r x s).table = s.table := by simp [setRunState]
@[simp] theorem setRunState_recorder (r : RunId) (x : RunState) (s : State) : (setRunState r x s).recorder = s.recorder := by simp [setRunState]
@[simp] theorem setRunState_monitors (r : RunId) (x : RunState) (s : State) : (setRunState r x s).monitors = s.monitors := by simp [setRunState]
@[simp] theorem setRunState_settings (r : RunId) (x : RunState) (s : State) : (setRunState r x s).settings = s.settings := by simp [setRunState]
@[simp] theorem setRunState_store (r : RunId) (x : RunState) (s : State) : (setRunState r x s).store = s.store := by simp [setRunState]
@[simp] theorem setRunState_link (r : RunId) (x : RunState) (s : State) : (setRunState r x s).link = s.link := by simp [setRunState]
@[simp] theorem setRunState_pins (r : RunId) (x : RunState) (s : State) : (setRunState r x s).pins = s.pins := by simp [setRunState]
@[simp] theorem setRunState_freeCount (r : RunId) (x : RunState) (s : State) : (setRunState r x s).freeCount = s.freeCount := by simp [setRunState]
@[simp] theorem setRunState_pending (r : RunId) (x : RunState) (s : State) : (setRunState r x s).pending = s.pending := by simp [setRunState]

@[simp] theorem followChannels_time (r : RunId) (s : State) : (followChannels r s).time = s.time := by unfold followChannels; (repeat' split) <;> simp
@[simp] theorem followChannels_pulse (r : RunId) (s : State) : (followChannels r s).pulse = s.pulse := by unfold followChannels; (repeat' split) <;> simp
@[simp] theorem followChannels_loop (r : RunId) (s : State) : (followChannels r s).loop = s.loop := by unfold followChannels; (repeat' split) <;> simp
@[simp] theorem followChannels_conv (r : RunId) (s : State) : (followChannels r s).conv = s.conv := by unfold followChannels; (repeat' split) <;> simp
@[simp] theorem followChannels_dose (r : RunId) (s : State) : (followChannels r s).dose = s.dose := by unfold followChannels; (repeat' split) <;> simp
@[simp] theorem followChannels_pump (r : RunId) (s : State) : (followChannels r s).pump = s.pump := by unfold followChannels; (repeat' split) <;> simp
@[simp] theorem followChannels_sense (r : RunId) (s : State) : (followChannels r s).sense = s.sense := by unfold followChannels; (repeat' split) <;> simp
@[simp] theorem followChannels_table (r : RunId) (s : State) : (followChannels r s).table = s.table := by unfold followChannels; (repeat' split) <;> simp
@[simp] theorem followChannels_recorder (r : RunId) (s : State) : (followChannels r s).recorder = s.recorder := by unfold followChannels; (repeat' split) <;> simp
@[simp] theorem followChannels_monitors (r : RunId) (s : State) : (followChannels r s).monitors = s.monitors := by unfold followChannels; (repeat' split) <;> simp
@[simp] theorem followChannels_settings (r : RunId) (s : State) : (followChannels r s).settings = s.settings := by unfold followChannels; (repeat' split) <;> simp
@[simp] theorem followChannels_store (r : RunId) (s : State) : (followChannels r s).store = s.store := by unfold followChannels; (repeat' split) <;> simp
@[simp] theorem followChannels_pins (r : RunId) (s : State) : (followChannels r s).pins = s.pins := by unfold followChannels; (repeat' split) <;> simp
@[simp] theorem followChannels_freeCount (r : RunId) (s : State) : (followChannels r s).freeCount = s.freeCount := by unfold followChannels; (repeat' split) <;> simp
@[simp] theorem followChannels_pending (r : RunId) (s : State) : (followChannels r s).pending = s.pending := by unfold followChannels; (repeat' split) <;> simp

@[simp] theorem followChannel_time (c : ChannelId) (s : State) : (followChannel c s).time = s.time := by unfold followChannel; split <;> simp
@[simp] theorem followChannel_pulse (c : ChannelId) (s : State) : (followChannel c s).pulse = s.pulse := by unfold followChannel; split <;> simp
@[simp] theorem followChannel_loop (c : ChannelId) (s : State) : (followChannel c s).loop = s.loop := by unfold followChannel; split <;> simp
@[simp] theorem followChannel_conv (c : ChannelId) (s : State) : (followChannel c s).conv = s.conv := by unfold followChannel; split <;> simp
@[simp] theorem followChannel_dose (c : ChannelId) (s : State) : (followChannel c s).dose = s.dose := by unfold followChannel; split <;> simp
@[simp] theorem followChannel_pump (c : ChannelId) (s : State) : (followChannel c s).pump = s.pump := by unfold followChannel; split <;> simp
@[simp] theorem followChannel_sense (c : ChannelId) (s : State) : (followChannel c s).sense = s.sense := by unfold followChannel; split <;> simp
@[simp] theorem followChannel_table (c : ChannelId) (s : State) : (followChannel c s).table = s.table := by unfold followChannel; split <;> simp
@[simp] theorem followChannel_recorder (c : ChannelId) (s : State) : (followChannel c s).recorder = s.recorder := by unfold followChannel; split <;> simp
@[simp] theorem followChannel_monitors (c : ChannelId) (s : State) : (followChannel c s).monitors = s.monitors := by unfold followChannel; split <;> simp
@[simp] theorem followChannel_settings (c : ChannelId) (s : State) : (followChannel c s).settings = s.settings := by unfold followChannel; split <;> simp
@[simp] theorem followChannel_store (c : ChannelId) (s : State) : (followChannel c s).store = s.store := by unfold followChannel; split <;> simp
@[simp] theorem followChannel_pins (c : ChannelId) (s : State) : (followChannel c s).pins = s.pins := by unfold followChannel; split <;> simp
@[simp] theorem followChannel_freeCount (c : ChannelId) (s : State) : (followChannel c s).freeCount = s.freeCount := by unfold followChannel; split <;> simp
@[simp] theorem followChannel_pending (c : ChannelId) (s : State) : (followChannel c s).pending = s.pending := by unfold followChannel; split <;> simp

@[simp] theorem completion_time (c : ChannelId) (i : Nat) (s : State) : (completion c i s).time = s.time := by simp [completion]
@[simp] theorem completion_pulse (c : ChannelId) (i : Nat) (s : State) : (completion c i s).pulse = s.pulse := by simp [completion]
@[simp] theorem completion_conv (c : ChannelId) (i : Nat) (s : State) : (completion c i s).conv = s.conv := by simp [completion]
@[simp] theorem completion_dose (c : ChannelId) (i : Nat) (s : State) : (completion c i s).dose = s.dose := by simp [completion]
@[simp] theorem completion_pump (c : ChannelId) (i : Nat) (s : State) : (completion c i s).pump = s.pump := by simp [completion]
@[simp] theorem completion_sense (c : ChannelId) (i : Nat) (s : State) : (completion c i s).sense = s.sense := by simp [completion]
@[simp] theorem completion_table (c : ChannelId) (i : Nat) (s : State) : (completion c i s).table = s.table := by simp [completion]
@[simp] theorem completion_recorder (c : ChannelId) (i : Nat) (s : State) : (completion c i s).recorder = s.recorder := by simp [completion]
@[simp] theorem completion_settings (c : ChannelId) (i : Nat) (s : State) : (completion c i s).settings = s.settings := by simp [completion]
@[simp] theorem completion_store (c : ChannelId) (i : Nat) (s : State) : (completion c i s).store = s.store := by simp [completion]
@[simp] theorem completion_pins (c : ChannelId) (i : Nat) (s : State) : (completion c i s).pins = s.pins := by simp [completion]
@[simp] theorem completion_freeCount (c : ChannelId) (i : Nat) (s : State) : (completion c i s).freeCount = s.freeCount := by simp [completion]
@[simp] theorem completion_pending (c : ChannelId) (i : Nat) (s : State) : (completion c i s).pending = s.pending := by simp [completion]

@[simp] theorem senseEdge_time (p : Side) (s : State) : (senseEdge p s).time = s.time := by unfold senseEdge; dsimp only; (repeat' split) <;> simp
@[simp] theorem senseEdge_pulse (p : Side) (s : State) : (senseEdge p s).pulse = s.pulse := by unfold senseEdge; dsimp only; (repeat' split) <;> simp
@[simp] theorem senseEdge_loop (p : Side) (s : State) : (senseEdge p s).loop = s.loop := by unfold senseEdge; dsimp only; (repeat' split) <;> simp
@[simp] theorem senseEdge_run (p : Side) (s : State) : (senseEdge p s).run = s.run := by unfold senseEdge; dsimp only; (repeat' split) <;> simp
@[simp] theorem senseEdge_conv (p : Side) (s : State) : (senseEdge p s).conv = s.conv := by unfold senseEdge; dsimp only; (repeat' split) <;> simp
@[simp] theorem senseEdge_settings (p : Side) (s : State) : (senseEdge p s).settings = s.settings := by unfold senseEdge; dsimp only; (repeat' split) <;> simp
@[simp] theorem senseEdge_store (p : Side) (s : State) : (senseEdge p s).store = s.store := by unfold senseEdge; dsimp only; (repeat' split) <;> simp
@[simp] theorem senseEdge_pins (p : Side) (s : State) : (senseEdge p s).pins = s.pins := by unfold senseEdge; dsimp only; (repeat' split) <;> simp
@[simp] theorem senseEdge_freeCount (p : Side) (s : State) : (senseEdge p s).freeCount = s.freeCount := by unfold senseEdge; dsimp only; (repeat' split) <;> simp
@[simp] theorem senseEdge_pending (p : Side) (s : State) : (senseEdge p s).pending = s.pending := by unfold senseEdge; dsimp only; (repeat' split) <;> simp

@[simp] theorem markReconfig_time (test : RunId → Bool) (s : State) : (markReconfig test s).time = s.time := by simp [markReconfig]
@[simp] theorem markReconfig_pulse (test : RunId → Bool) (s : State) : (markReconfig test s).pulse = s.pulse := by simp [markReconfig]
@[simp] theorem markReconfig_loop (test : RunId → Bool) (s : State) : (markReconfig test s).loop = s.loop := by simp [markReconfig]
@[simp] theorem markReconfig_run (test : RunId → Bool) (s : State) : (markReconfig test s).run = s.run := by simp [markReconfig]
@[simp] theorem markReconfig_conv (test : RunId → Bool) (s : State) : (markReconfig test s).conv = s.conv := by simp [markReconfig]
@[simp] theorem markReconfig_dose (test : RunId → Bool) (s : State) : (markReconfig test s).dose = s.dose := by simp [markReconfig]
@[simp] theorem markReconfig_pump (test : RunId → Bool) (s : State) : (markReconfig test s).pump = s.pump := by simp [markReconfig]
@[simp] theorem markReconfig_sense (test : RunId → Bool) (s : State) : (markReconfig test s).sense = s.sense := by simp [markReconfig]
@[simp] theorem markReconfig_table (test : RunId → Bool) (s : State) : (markReconfig test s).table = s.table := by simp [markReconfig]
@[simp] theorem markReconfig_monitors (test : RunId → Bool) (s : State) : (markReconfig test s).monitors = s.monitors := by simp [markReconfig]
@[simp] theorem markReconfig_settings (test : RunId → Bool) (s : State) : (markReconfig test s).settings = s.settings := by simp [markReconfig]
@[simp] theorem markReconfig_store (test : RunId → Bool) (s : State) : (markReconfig test s).store = s.store := by simp [markReconfig]
@[simp] theorem markReconfig_link (test : RunId → Bool) (s : State) : (markReconfig test s).link = s.link := by simp [markReconfig]
@[simp] theorem markReconfig_pins (test : RunId → Bool) (s : State) : (markReconfig test s).pins = s.pins := by simp [markReconfig]
@[simp] theorem markReconfig_freeCount (test : RunId → Bool) (s : State) : (markReconfig test s).freeCount = s.freeCount := by simp [markReconfig]
@[simp] theorem markReconfig_pending (test : RunId → Bool) (s : State) : (markReconfig test s).pending = s.pending := by simp [markReconfig]

@[simp] theorem clearStrays_time (s : State) : (clearStrays s).time = s.time := by simp [clearStrays]
@[simp] theorem clearStrays_pulse (s : State) : (clearStrays s).pulse = s.pulse := by simp [clearStrays]
@[simp] theorem clearStrays_loop (s : State) : (clearStrays s).loop = s.loop := by simp [clearStrays]
@[simp] theorem clearStrays_run (s : State) : (clearStrays s).run = s.run := by simp [clearStrays]
@[simp] theorem clearStrays_conv (s : State) : (clearStrays s).conv = s.conv := by simp [clearStrays]
@[simp] theorem clearStrays_dose (s : State) : (clearStrays s).dose = s.dose := by simp [clearStrays]
@[simp] theorem clearStrays_sense (s : State) : (clearStrays s).sense = s.sense := by simp [clearStrays]
@[simp] theorem clearStrays_table (s : State) : (clearStrays s).table = s.table := by simp [clearStrays]
@[simp] theorem clearStrays_recorder (s : State) : (clearStrays s).recorder = s.recorder := by simp [clearStrays]
@[simp] theorem clearStrays_monitors (s : State) : (clearStrays s).monitors = s.monitors := by simp [clearStrays]
@[simp] theorem clearStrays_settings (s : State) : (clearStrays s).settings = s.settings := by simp [clearStrays]
@[simp] theorem clearStrays_store (s : State) : (clearStrays s).store = s.store := by simp [clearStrays]
@[simp] theorem clearStrays_link (s : State) : (clearStrays s).link = s.link := by simp [clearStrays]
@[simp] theorem clearStrays_pins (s : State) : (clearStrays s).pins = s.pins := by simp [clearStrays]
@[simp] theorem clearStrays_freeCount (s : State) : (clearStrays s).freeCount = s.freeCount := by simp [clearStrays]
@[simp] theorem clearStrays_pending (s : State) : (clearStrays s).pending = s.pending := by simp [clearStrays]

@[simp] theorem closePeriodAs_pulse (c : CloseFigures) (s : State) : (closePeriodAs c s).pulse = s.pulse := by simp [closePeriodAs]
@[simp] theorem closePeriodAs_loop (c : CloseFigures) (s : State) : (closePeriodAs c s).loop = s.loop := by simp [closePeriodAs]
@[simp] theorem closePeriodAs_run (c : CloseFigures) (s : State) : (closePeriodAs c s).run = s.run := by simp [closePeriodAs]
@[simp] theorem closePeriodAs_conv (c : CloseFigures) (s : State) : (closePeriodAs c s).conv = s.conv := by simp [closePeriodAs]
@[simp] theorem closePeriodAs_dose (c : CloseFigures) (s : State) : (closePeriodAs c s).dose = s.dose := by simp [closePeriodAs]
@[simp] theorem closePeriodAs_sense (c : CloseFigures) (s : State) : (closePeriodAs c s).sense = s.sense := by simp [closePeriodAs]
@[simp] theorem closePeriodAs_table (c : CloseFigures) (s : State) : (closePeriodAs c s).table = s.table := by simp [closePeriodAs]
@[simp] theorem closePeriodAs_monitors (c : CloseFigures) (s : State) : (closePeriodAs c s).monitors = s.monitors := by simp [closePeriodAs]
@[simp] theorem closePeriodAs_settings (c : CloseFigures) (s : State) : (closePeriodAs c s).settings = s.settings := by simp [closePeriodAs]
@[simp] theorem closePeriodAs_pins (c : CloseFigures) (s : State) : (closePeriodAs c s).pins = s.pins := by simp [closePeriodAs]
@[simp] theorem closePeriodAs_freeCount (c : CloseFigures) (s : State) : (closePeriodAs c s).freeCount = s.freeCount := by simp [closePeriodAs]
@[simp] theorem closePeriodAs_pending (c : CloseFigures) (s : State) : (closePeriodAs c s).pending = s.pending := by simp [closePeriodAs]

@[simp] theorem closePeriod_pulse (c : CloseCause) (s : State) : (closePeriod c s).pulse = s.pulse := by simp [closePeriod]
@[simp] theorem closePeriod_loop (c : CloseCause) (s : State) : (closePeriod c s).loop = s.loop := by simp [closePeriod]
@[simp] theorem closePeriod_run (c : CloseCause) (s : State) : (closePeriod c s).run = s.run := by simp [closePeriod]
@[simp] theorem closePeriod_conv (c : CloseCause) (s : State) : (closePeriod c s).conv = s.conv := by simp [closePeriod]
@[simp] theorem closePeriod_dose (c : CloseCause) (s : State) : (closePeriod c s).dose = s.dose := by simp [closePeriod]
@[simp] theorem closePeriod_sense (c : CloseCause) (s : State) : (closePeriod c s).sense = s.sense := by simp [closePeriod]
@[simp] theorem closePeriod_table (c : CloseCause) (s : State) : (closePeriod c s).table = s.table := by simp [closePeriod]
@[simp] theorem closePeriod_monitors (c : CloseCause) (s : State) : (closePeriod c s).monitors = s.monitors := by simp [closePeriod]
@[simp] theorem closePeriod_settings (c : CloseCause) (s : State) : (closePeriod c s).settings = s.settings := by simp [closePeriod]
@[simp] theorem closePeriod_pins (c : CloseCause) (s : State) : (closePeriod c s).pins = s.pins := by simp [closePeriod]
@[simp] theorem closePeriod_freeCount (c : CloseCause) (s : State) : (closePeriod c s).freeCount = s.freeCount := by simp [closePeriod]
@[simp] theorem closePeriod_pending (c : CloseCause) (s : State) : (closePeriod c s).pending = s.pending := by simp [closePeriod]

@[simp] theorem rateMonitors_time (b : State) (s : State) : (rateMonitors b s).time = s.time := by exact foldl_keeps (·.time) _ (fun s r => by split <;> simp) _ s
@[simp] theorem rateMonitors_pulse (b : State) (s : State) : (rateMonitors b s).pulse = s.pulse := by exact foldl_keeps (·.pulse) _ (fun s r => by split <;> simp) _ s
@[simp] theorem rateMonitors_loop (b : State) (s : State) : (rateMonitors b s).loop = s.loop := by exact foldl_keeps (·.loop) _ (fun s r => by split <;> simp) _ s
@[simp] theorem rateMonitors_run (b : State) (s : State) : (rateMonitors b s).run = s.run := by exact foldl_keeps (·.run) _ (fun s r => by split <;> simp) _ s
@[simp] theorem rateMonitors_conv (b : State) (s : State) : (rateMonitors b s).conv = s.conv := by exact foldl_keeps (·.conv) _ (fun s r => by split <;> simp) _ s
@[simp] theorem rateMonitors_dose (b : State) (s : State) : (rateMonitors b s).dose = s.dose := by exact foldl_keeps (·.dose) _ (fun s r => by split <;> simp) _ s
@[simp] theorem rateMonitors_pump (b : State) (s : State) : (rateMonitors b s).pump = s.pump := by exact foldl_keeps (·.pump) _ (fun s r => by split <;> simp) _ s
@[simp] theorem rateMonitors_sense (b : State) (s : State) : (rateMonitors b s).sense = s.sense := by exact foldl_keeps (·.sense) _ (fun s r => by split <;> simp) _ s
@[simp] theorem rateMonitors_table (b : State) (s : State) : (rateMonitors b s).table = s.table := by exact foldl_keeps (·.table) _ (fun s r => by split <;> simp) _ s
@[simp] theorem rateMonitors_recorder (b : State) (s : State) : (rateMonitors b s).recorder = s.recorder := by exact foldl_keeps (·.recorder) _ (fun s r => by split <;> simp) _ s
@[simp] theorem rateMonitors_settings (b : State) (s : State) : (rateMonitors b s).settings = s.settings := by exact foldl_keeps (·.settings) _ (fun s r => by split <;> simp) _ s
@[simp] theorem rateMonitors_store (b : State) (s : State) : (rateMonitors b s).store = s.store := by exact foldl_keeps (·.store) _ (fun s r => by split <;> simp) _ s
@[simp] theorem rateMonitors_pins (b : State) (s : State) : (rateMonitors b s).pins = s.pins := by exact foldl_keeps (·.pins) _ (fun s r => by split <;> simp) _ s
@[simp] theorem rateMonitors_freeCount (b : State) (s : State) : (rateMonitors b s).freeCount = s.freeCount := by exact foldl_keeps (·.freeCount) _ (fun s r => by split <;> simp) _ s
@[simp] theorem rateMonitors_pending (b : State) (s : State) : (rateMonitors b s).pending = s.pending := by exact foldl_keeps (·.pending) _ (fun s r => by split <;> simp) _ s

@[simp] theorem closeInterval_time (s : State) : (closeInterval s).time = s.time := by simp [closeInterval, closeRuns]
@[simp] theorem closeInterval_loop (s : State) : (closeInterval s).loop = s.loop := by simp [closeInterval, closeRuns]
@[simp] theorem closeInterval_pump (s : State) : (closeInterval s).pump = s.pump := by simp [closeInterval, closeRuns]
@[simp] theorem closeInterval_sense (s : State) : (closeInterval s).sense = s.sense := by simp [closeInterval, closeRuns]
@[simp] theorem closeInterval_settings (s : State) : (closeInterval s).settings = s.settings := by simp [closeInterval, closeRuns]
@[simp] theorem closeInterval_store (s : State) : (closeInterval s).store = s.store := by simp [closeInterval, closeRuns]
@[simp] theorem closeInterval_pins (s : State) : (closeInterval s).pins = s.pins := by simp [closeInterval, closeRuns]
@[simp] theorem closeInterval_freeCount (s : State) : (closeInterval s).freeCount = s.freeCount := by simp [closeInterval, closeRuns]
@[simp] theorem closeInterval_pending (s : State) : (closeInterval s).pending = s.pending := by simp [closeInterval, closeRuns]

@[simp] theorem countInterval_pulse (s : State) : (countInterval s).pulse = s.pulse := by simp [countInterval]
@[simp] theorem countInterval_loop (s : State) : (countInterval s).loop = s.loop := by simp [countInterval]
@[simp] theorem countInterval_run (s : State) : (countInterval s).run = s.run := by simp [countInterval]
@[simp] theorem countInterval_conv (s : State) : (countInterval s).conv = s.conv := by simp [countInterval]
@[simp] theorem countInterval_dose (s : State) : (countInterval s).dose = s.dose := by simp [countInterval]
@[simp] theorem countInterval_pump (s : State) : (countInterval s).pump = s.pump := by simp [countInterval]
@[simp] theorem countInterval_sense (s : State) : (countInterval s).sense = s.sense := by simp [countInterval]
@[simp] theorem countInterval_table (s : State) : (countInterval s).table = s.table := by simp [countInterval]
@[simp] theorem countInterval_monitors (s : State) : (countInterval s).monitors = s.monitors := by simp [countInterval]
@[simp] theorem countInterval_settings (s : State) : (countInterval s).settings = s.settings := by simp [countInterval]
@[simp] theorem countInterval_store (s : State) : (countInterval s).store = s.store := by simp [countInterval]
@[simp] theorem countInterval_link (s : State) : (countInterval s).link = s.link := by simp [countInterval]
@[simp] theorem countInterval_pins (s : State) : (countInterval s).pins = s.pins := by simp [countInterval]
@[simp] theorem countInterval_freeCount (s : State) : (countInterval s).freeCount = s.freeCount := by simp [countInterval]
@[simp] theorem countInterval_pending (s : State) : (countInterval s).pending = s.pending := by simp [countInterval]

@[simp] theorem clearCounts_time (s : State) : (clearCounts s).time = s.time := by simp [clearCounts]
@[simp] theorem clearCounts_loop (s : State) : (clearCounts s).loop = s.loop := by simp [clearCounts]
@[simp] theorem clearCounts_run (s : State) : (clearCounts s).run = s.run := by simp [clearCounts]
@[simp] theorem clearCounts_conv (s : State) : (clearCounts s).conv = s.conv := by simp [clearCounts]
@[simp] theorem clearCounts_dose (s : State) : (clearCounts s).dose = s.dose := by simp [clearCounts]
@[simp] theorem clearCounts_pump (s : State) : (clearCounts s).pump = s.pump := by simp [clearCounts]
@[simp] theorem clearCounts_sense (s : State) : (clearCounts s).sense = s.sense := by simp [clearCounts]
@[simp] theorem clearCounts_table (s : State) : (clearCounts s).table = s.table := by simp [clearCounts]
@[simp] theorem clearCounts_recorder (s : State) : (clearCounts s).recorder = s.recorder := by simp [clearCounts]
@[simp] theorem clearCounts_monitors (s : State) : (clearCounts s).monitors = s.monitors := by simp [clearCounts]
@[simp] theorem clearCounts_settings (s : State) : (clearCounts s).settings = s.settings := by simp [clearCounts]
@[simp] theorem clearCounts_store (s : State) : (clearCounts s).store = s.store := by simp [clearCounts]
@[simp] theorem clearCounts_link (s : State) : (clearCounts s).link = s.link := by simp [clearCounts]
@[simp] theorem clearCounts_pins (s : State) : (clearCounts s).pins = s.pins := by simp [clearCounts]
@[simp] theorem clearCounts_freeCount (s : State) : (clearCounts s).freeCount = s.freeCount := by simp [clearCounts]
@[simp] theorem clearCounts_pending (s : State) : (clearCounts s).pending = s.pending := by simp [clearCounts]

@[simp] theorem settleRuns_time (s : State) : (settleRuns s).time = s.time := by simp [settleRuns]
@[simp] theorem settleRuns_pulse (s : State) : (settleRuns s).pulse = s.pulse := by simp [settleRuns]
@[simp] theorem settleRuns_loop (s : State) : (settleRuns s).loop = s.loop := by simp [settleRuns]
@[simp] theorem settleRuns_conv (s : State) : (settleRuns s).conv = s.conv := by simp [settleRuns]
@[simp] theorem settleRuns_dose (s : State) : (settleRuns s).dose = s.dose := by simp [settleRuns]
@[simp] theorem settleRuns_pump (s : State) : (settleRuns s).pump = s.pump := by simp [settleRuns]
@[simp] theorem settleRuns_sense (s : State) : (settleRuns s).sense = s.sense := by simp [settleRuns]
@[simp] theorem settleRuns_table (s : State) : (settleRuns s).table = s.table := by simp [settleRuns]
@[simp] theorem settleRuns_recorder (s : State) : (settleRuns s).recorder = s.recorder := by simp [settleRuns]
@[simp] theorem settleRuns_monitors (s : State) : (settleRuns s).monitors = s.monitors := by simp [settleRuns]
@[simp] theorem settleRuns_settings (s : State) : (settleRuns s).settings = s.settings := by simp [settleRuns]
@[simp] theorem settleRuns_store (s : State) : (settleRuns s).store = s.store := by simp [settleRuns]
@[simp] theorem settleRuns_pins (s : State) : (settleRuns s).pins = s.pins := by simp [settleRuns]
@[simp] theorem settleRuns_freeCount (s : State) : (settleRuns s).freeCount = s.freeCount := by simp [settleRuns]
@[simp] theorem settleRuns_pending (s : State) : (settleRuns s).pending = s.pending := by simp [settleRuns]

@[simp] theorem applySections_time (s : State) : (applySections s).time = s.time := by unfold applySections; dsimp only; (repeat' split) <;> simp
@[simp] theorem applySections_pulse (s : State) : (applySections s).pulse = s.pulse := by unfold applySections; dsimp only; (repeat' split) <;> simp
@[simp] theorem applySections_loop (s : State) : (applySections s).loop = s.loop := by unfold applySections; dsimp only; (repeat' split) <;> simp
@[simp] theorem applySections_run (s : State) : (applySections s).run = s.run := by unfold applySections; dsimp only; (repeat' split) <;> simp
@[simp] theorem applySections_conv (s : State) : (applySections s).conv = s.conv := by unfold applySections; dsimp only; (repeat' split) <;> simp
@[simp] theorem applySections_dose (s : State) : (applySections s).dose = s.dose := by unfold applySections; dsimp only; (repeat' split) <;> simp
@[simp] theorem applySections_pump (s : State) : (applySections s).pump = s.pump := by unfold applySections; dsimp only; (repeat' split) <;> simp
@[simp] theorem applySections_sense (s : State) : (applySections s).sense = s.sense := by unfold applySections; dsimp only; (repeat' split) <;> simp
@[simp] theorem applySections_table (s : State) : (applySections s).table = s.table := by unfold applySections; dsimp only; (repeat' split) <;> simp
@[simp] theorem applySections_recorder (s : State) : (applySections s).recorder = s.recorder := by unfold applySections; dsimp only; (repeat' split) <;> simp
@[simp] theorem applySections_monitors (s : State) : (applySections s).monitors = s.monitors := by unfold applySections; dsimp only; (repeat' split) <;> simp
@[simp] theorem applySections_link (s : State) : (applySections s).link = s.link := by unfold applySections; dsimp only; (repeat' split) <;> simp
@[simp] theorem applySections_pins (s : State) : (applySections s).pins = s.pins := by unfold applySections; dsimp only; (repeat' split) <;> simp
@[simp] theorem applySections_freeCount (s : State) : (applySections s).freeCount = s.freeCount := by unfold applySections; dsimp only; (repeat' split) <;> simp
@[simp] theorem applySections_pending (s : State) : (applySections s).pending = s.pending := by unfold applySections; dsimp only; (repeat' split) <;> simp

@[simp] theorem dropIntegrity_time (old : ActiveSections) (s : State) : (dropIntegrity old s).time = s.time := by simp [dropIntegrity]
@[simp] theorem dropIntegrity_loop (old : ActiveSections) (s : State) : (dropIntegrity old s).loop = s.loop := by simp [dropIntegrity]
@[simp] theorem dropIntegrity_run (old : ActiveSections) (s : State) : (dropIntegrity old s).run = s.run := by simp [dropIntegrity]
@[simp] theorem dropIntegrity_conv (old : ActiveSections) (s : State) : (dropIntegrity old s).conv = s.conv := by simp [dropIntegrity]
@[simp] theorem dropIntegrity_dose (old : ActiveSections) (s : State) : (dropIntegrity old s).dose = s.dose := by simp [dropIntegrity]
@[simp] theorem dropIntegrity_pump (old : ActiveSections) (s : State) : (dropIntegrity old s).pump = s.pump := by simp [dropIntegrity]
@[simp] theorem dropIntegrity_sense (old : ActiveSections) (s : State) : (dropIntegrity old s).sense = s.sense := by simp [dropIntegrity]
@[simp] theorem dropIntegrity_table (old : ActiveSections) (s : State) : (dropIntegrity old s).table = s.table := by simp [dropIntegrity]
@[simp] theorem dropIntegrity_recorder (old : ActiveSections) (s : State) : (dropIntegrity old s).recorder = s.recorder := by simp [dropIntegrity]
@[simp] theorem dropIntegrity_monitors (old : ActiveSections) (s : State) : (dropIntegrity old s).monitors = s.monitors := by simp [dropIntegrity]
@[simp] theorem dropIntegrity_settings (old : ActiveSections) (s : State) : (dropIntegrity old s).settings = s.settings := by simp [dropIntegrity]
@[simp] theorem dropIntegrity_store (old : ActiveSections) (s : State) : (dropIntegrity old s).store = s.store := by simp [dropIntegrity]
@[simp] theorem dropIntegrity_pins (old : ActiveSections) (s : State) : (dropIntegrity old s).pins = s.pins := by simp [dropIntegrity]
@[simp] theorem dropIntegrity_freeCount (old : ActiveSections) (s : State) : (dropIntegrity old s).freeCount = s.freeCount := by simp [dropIntegrity]
@[simp] theorem dropIntegrity_pending (old : ActiveSections) (s : State) : (dropIntegrity old s).pending = s.pending := by simp [dropIntegrity]

@[simp] theorem applyStaged_time (s : State) : (applyStaged s).time = s.time := by unfold applyStaged; dsimp only; (repeat' split) <;> simp
@[simp] theorem applyStaged_loop (s : State) : (applyStaged s).loop = s.loop := by unfold applyStaged; dsimp only; (repeat' split) <;> simp
@[simp] theorem applyStaged_run (s : State) : (applyStaged s).run = s.run := by unfold applyStaged; dsimp only; (repeat' split) <;> simp
@[simp] theorem applyStaged_conv (s : State) : (applyStaged s).conv = s.conv := by unfold applyStaged; dsimp only; (repeat' split) <;> simp
@[simp] theorem applyStaged_pump (s : State) : (applyStaged s).pump = s.pump := by unfold applyStaged; dsimp only; (repeat' split) <;> simp
@[simp] theorem applyStaged_sense (s : State) : (applyStaged s).sense = s.sense := by unfold applyStaged; dsimp only; (repeat' split) <;> simp
@[simp] theorem applyStaged_pins (s : State) : (applyStaged s).pins = s.pins := by unfold applyStaged; dsimp only; (repeat' split) <;> simp
@[simp] theorem applyStaged_freeCount (s : State) : (applyStaged s).freeCount = s.freeCount := by unfold applyStaged; dsimp only; (repeat' split) <;> simp
@[simp] theorem applyStaged_pending (s : State) : (applyStaged s).pending = s.pending := by unfold applyStaged; dsimp only; (repeat' split) <;> simp

@[simp] theorem beginInterval_pulse (s : State) : (beginInterval s).pulse = s.pulse := by simp [beginInterval]
@[simp] theorem beginInterval_run (s : State) : (beginInterval s).run = s.run := by simp [beginInterval]
@[simp] theorem beginInterval_conv (s : State) : (beginInterval s).conv = s.conv := by simp [beginInterval]
@[simp] theorem beginInterval_dose (s : State) : (beginInterval s).dose = s.dose := by simp [beginInterval]
@[simp] theorem beginInterval_pump (s : State) : (beginInterval s).pump = s.pump := by simp [beginInterval]
@[simp] theorem beginInterval_sense (s : State) : (beginInterval s).sense = s.sense := by simp [beginInterval]
@[simp] theorem beginInterval_table (s : State) : (beginInterval s).table = s.table := by simp [beginInterval]
@[simp] theorem beginInterval_recorder (s : State) : (beginInterval s).recorder = s.recorder := by simp [beginInterval]
@[simp] theorem beginInterval_monitors (s : State) : (beginInterval s).monitors = s.monitors := by simp [beginInterval]
@[simp] theorem beginInterval_settings (s : State) : (beginInterval s).settings = s.settings := by simp [beginInterval]
@[simp] theorem beginInterval_store (s : State) : (beginInterval s).store = s.store := by simp [beginInterval]
@[simp] theorem beginInterval_link (s : State) : (beginInterval s).link = s.link := by simp [beginInterval]
@[simp] theorem beginInterval_pins (s : State) : (beginInterval s).pins = s.pins := by simp [beginInterval]
@[simp] theorem beginInterval_freeCount (s : State) : (beginInterval s).freeCount = s.freeCount := by simp [beginInterval]
@[simp] theorem beginInterval_pending (s : State) : (beginInterval s).pending = s.pending := by simp [beginInterval]

@[simp] theorem lengthClose_pulse (s : State) : (lengthClose s).pulse = s.pulse := by unfold lengthClose; split <;> simp
@[simp] theorem lengthClose_loop (s : State) : (lengthClose s).loop = s.loop := by unfold lengthClose; split <;> simp
@[simp] theorem lengthClose_run (s : State) : (lengthClose s).run = s.run := by unfold lengthClose; split <;> simp
@[simp] theorem lengthClose_conv (s : State) : (lengthClose s).conv = s.conv := by unfold lengthClose; split <;> simp
@[simp] theorem lengthClose_dose (s : State) : (lengthClose s).dose = s.dose := by unfold lengthClose; split <;> simp
@[simp] theorem lengthClose_sense (s : State) : (lengthClose s).sense = s.sense := by unfold lengthClose; split <;> simp
@[simp] theorem lengthClose_table (s : State) : (lengthClose s).table = s.table := by unfold lengthClose; split <;> simp
@[simp] theorem lengthClose_monitors (s : State) : (lengthClose s).monitors = s.monitors := by unfold lengthClose; split <;> simp
@[simp] theorem lengthClose_settings (s : State) : (lengthClose s).settings = s.settings := by unfold lengthClose; split <;> simp
@[simp] theorem lengthClose_pins (s : State) : (lengthClose s).pins = s.pins := by unfold lengthClose; split <;> simp
@[simp] theorem lengthClose_freeCount (s : State) : (lengthClose s).freeCount = s.freeCount := by unfold lengthClose; split <;> simp
@[simp] theorem lengthClose_pending (s : State) : (lengthClose s).pending = s.pending := by unfold lengthClose; split <;> simp

@[simp] theorem openRun_time (r : RunId) (s : State) : (openRun r s).time = s.time := by simp [openRun]
@[simp] theorem openRun_loop (r : RunId) (s : State) : (openRun r s).loop = s.loop := by simp [openRun]
@[simp] theorem openRun_conv (r : RunId) (s : State) : (openRun r s).conv = s.conv := by simp [openRun]
@[simp] theorem openRun_dose (r : RunId) (s : State) : (openRun r s).dose = s.dose := by simp [openRun]
@[simp] theorem openRun_pump (r : RunId) (s : State) : (openRun r s).pump = s.pump := by simp [openRun]
@[simp] theorem openRun_sense (r : RunId) (s : State) : (openRun r s).sense = s.sense := by simp [openRun]
@[simp] theorem openRun_table (r : RunId) (s : State) : (openRun r s).table = s.table := by simp [openRun]
@[simp] theorem openRun_recorder (r : RunId) (s : State) : (openRun r s).recorder = s.recorder := by simp [openRun]
@[simp] theorem openRun_monitors (r : RunId) (s : State) : (openRun r s).monitors = s.monitors := by simp [openRun]
@[simp] theorem openRun_settings (r : RunId) (s : State) : (openRun r s).settings = s.settings := by simp [openRun]
@[simp] theorem openRun_store (r : RunId) (s : State) : (openRun r s).store = s.store := by simp [openRun]
@[simp] theorem openRun_pins (r : RunId) (s : State) : (openRun r s).pins = s.pins := by simp [openRun]
@[simp] theorem openRun_freeCount (r : RunId) (s : State) : (openRun r s).freeCount = s.freeCount := by simp [openRun]
@[simp] theorem openRun_pending (r : RunId) (s : State) : (openRun r s).pending = s.pending := by simp [openRun]

@[simp] theorem closeRun_time (r : RunId) (s : State) : (closeRun r s).time = s.time := by simp [closeRun]
@[simp] theorem closeRun_loop (r : RunId) (s : State) : (closeRun r s).loop = s.loop := by simp [closeRun]
@[simp] theorem closeRun_conv (r : RunId) (s : State) : (closeRun r s).conv = s.conv := by simp [closeRun]
@[simp] theorem closeRun_dose (r : RunId) (s : State) : (closeRun r s).dose = s.dose := by simp [closeRun]
@[simp] theorem closeRun_pump (r : RunId) (s : State) : (closeRun r s).pump = s.pump := by simp [closeRun]
@[simp] theorem closeRun_sense (r : RunId) (s : State) : (closeRun r s).sense = s.sense := by simp [closeRun]
@[simp] theorem closeRun_table (r : RunId) (s : State) : (closeRun r s).table = s.table := by simp [closeRun]
@[simp] theorem closeRun_recorder (r : RunId) (s : State) : (closeRun r s).recorder = s.recorder := by simp [closeRun]
@[simp] theorem closeRun_settings (r : RunId) (s : State) : (closeRun r s).settings = s.settings := by simp [closeRun]
@[simp] theorem closeRun_store (r : RunId) (s : State) : (closeRun r s).store = s.store := by simp [closeRun]
@[simp] theorem closeRun_pins (r : RunId) (s : State) : (closeRun r s).pins = s.pins := by simp [closeRun]
@[simp] theorem closeRun_freeCount (r : RunId) (s : State) : (closeRun r s).freeCount = s.freeCount := by simp [closeRun]
@[simp] theorem closeRun_pending (r : RunId) (s : State) : (closeRun r s).pending = s.pending := by simp [closeRun]

@[simp] theorem enterAuto_time (s : State) : (enterAuto s).time = s.time := by simp [enterAuto]
@[simp] theorem enterAuto_pulse (s : State) : (enterAuto s).pulse = s.pulse := by simp [enterAuto]
@[simp] theorem enterAuto_loop (s : State) : (enterAuto s).loop = s.loop := by simp [enterAuto]
@[simp] theorem enterAuto_run (s : State) : (enterAuto s).run = s.run := by simp [enterAuto]
@[simp] theorem enterAuto_conv (s : State) : (enterAuto s).conv = s.conv := by simp [enterAuto]
@[simp] theorem enterAuto_pump (s : State) : (enterAuto s).pump = s.pump := by simp [enterAuto]
@[simp] theorem enterAuto_sense (s : State) : (enterAuto s).sense = s.sense := by simp [enterAuto]
@[simp] theorem enterAuto_table (s : State) : (enterAuto s).table = s.table := by simp [enterAuto]
@[simp] theorem enterAuto_monitors (s : State) : (enterAuto s).monitors = s.monitors := by simp [enterAuto]
@[simp] theorem enterAuto_settings (s : State) : (enterAuto s).settings = s.settings := by simp [enterAuto]
@[simp] theorem enterAuto_store (s : State) : (enterAuto s).store = s.store := by simp [enterAuto]
@[simp] theorem enterAuto_link (s : State) : (enterAuto s).link = s.link := by simp [enterAuto]
@[simp] theorem enterAuto_pins (s : State) : (enterAuto s).pins = s.pins := by simp [enterAuto]
@[simp] theorem enterAuto_freeCount (s : State) : (enterAuto s).freeCount = s.freeCount := by simp [enterAuto]
@[simp] theorem enterAuto_pending (s : State) : (enterAuto s).pending = s.pending := by simp [enterAuto]

@[simp] theorem changeMode_time (m : DosingMode) (s : State) : (changeMode m s).time = s.time := by unfold changeMode; (repeat' split) <;> simp
@[simp] theorem changeMode_pulse (m : DosingMode) (s : State) : (changeMode m s).pulse = s.pulse := by unfold changeMode; (repeat' split) <;> simp
@[simp] theorem changeMode_loop (m : DosingMode) (s : State) : (changeMode m s).loop = s.loop := by unfold changeMode; (repeat' split) <;> simp
@[simp] theorem changeMode_run (m : DosingMode) (s : State) : (changeMode m s).run = s.run := by unfold changeMode; (repeat' split) <;> simp
@[simp] theorem changeMode_conv (m : DosingMode) (s : State) : (changeMode m s).conv = s.conv := by unfold changeMode; (repeat' split) <;> simp
@[simp] theorem changeMode_pump (m : DosingMode) (s : State) : (changeMode m s).pump = s.pump := by unfold changeMode; (repeat' split) <;> simp
@[simp] theorem changeMode_sense (m : DosingMode) (s : State) : (changeMode m s).sense = s.sense := by unfold changeMode; (repeat' split) <;> simp
@[simp] theorem changeMode_monitors (m : DosingMode) (s : State) : (changeMode m s).monitors = s.monitors := by unfold changeMode; (repeat' split) <;> simp
@[simp] theorem changeMode_settings (m : DosingMode) (s : State) : (changeMode m s).settings = s.settings := by unfold changeMode; (repeat' split) <;> simp
@[simp] theorem changeMode_store (m : DosingMode) (s : State) : (changeMode m s).store = s.store := by unfold changeMode; (repeat' split) <;> simp
@[simp] theorem changeMode_pins (m : DosingMode) (s : State) : (changeMode m s).pins = s.pins := by unfold changeMode; (repeat' split) <;> simp
@[simp] theorem changeMode_freeCount (m : DosingMode) (s : State) : (changeMode m s).freeCount = s.freeCount := by unfold changeMode; (repeat' split) <;> simp
@[simp] theorem changeMode_pending (m : DosingMode) (s : State) : (changeMode m s).pending = s.pending := by unfold changeMode; (repeat' split) <;> simp

@[simp] theorem resetPump_time (p : Side) (s : State) : (resetPump p s).time = s.time := by simp [resetPump]
@[simp] theorem resetPump_pulse (p : Side) (s : State) : (resetPump p s).pulse = s.pulse := by simp [resetPump]
@[simp] theorem resetPump_loop (p : Side) (s : State) : (resetPump p s).loop = s.loop := by simp [resetPump]
@[simp] theorem resetPump_run (p : Side) (s : State) : (resetPump p s).run = s.run := by simp [resetPump]
@[simp] theorem resetPump_conv (p : Side) (s : State) : (resetPump p s).conv = s.conv := by simp [resetPump]
@[simp] theorem resetPump_sense (p : Side) (s : State) : (resetPump p s).sense = s.sense := by simp [resetPump]
@[simp] theorem resetPump_recorder (p : Side) (s : State) : (resetPump p s).recorder = s.recorder := by simp [resetPump]
@[simp] theorem resetPump_monitors (p : Side) (s : State) : (resetPump p s).monitors = s.monitors := by simp [resetPump]
@[simp] theorem resetPump_settings (p : Side) (s : State) : (resetPump p s).settings = s.settings := by simp [resetPump]
@[simp] theorem resetPump_store (p : Side) (s : State) : (resetPump p s).store = s.store := by simp [resetPump]
@[simp] theorem resetPump_pins (p : Side) (s : State) : (resetPump p s).pins = s.pins := by simp [resetPump]
@[simp] theorem resetPump_freeCount (p : Side) (s : State) : (resetPump p s).freeCount = s.freeCount := by simp [resetPump]
@[simp] theorem resetPump_pending (p : Side) (s : State) : (resetPump p s).pending = s.pending := by simp [resetPump]

@[simp] theorem setLimitLock_time (s : State) : (setLimitLock s).time = s.time := by simp [setLimitLock]
@[simp] theorem setLimitLock_pulse (s : State) : (setLimitLock s).pulse = s.pulse := by simp [setLimitLock]
@[simp] theorem setLimitLock_loop (s : State) : (setLimitLock s).loop = s.loop := by simp [setLimitLock]
@[simp] theorem setLimitLock_run (s : State) : (setLimitLock s).run = s.run := by simp [setLimitLock]
@[simp] theorem setLimitLock_conv (s : State) : (setLimitLock s).conv = s.conv := by simp [setLimitLock]
@[simp] theorem setLimitLock_dose (s : State) : (setLimitLock s).dose = s.dose := by simp [setLimitLock]
@[simp] theorem setLimitLock_pump (s : State) : (setLimitLock s).pump = s.pump := by simp [setLimitLock]
@[simp] theorem setLimitLock_sense (s : State) : (setLimitLock s).sense = s.sense := by simp [setLimitLock]
@[simp] theorem setLimitLock_table (s : State) : (setLimitLock s).table = s.table := by simp [setLimitLock]
@[simp] theorem setLimitLock_recorder (s : State) : (setLimitLock s).recorder = s.recorder := by simp [setLimitLock]
@[simp] theorem setLimitLock_store (s : State) : (setLimitLock s).store = s.store := by simp [setLimitLock]
@[simp] theorem setLimitLock_link (s : State) : (setLimitLock s).link = s.link := by simp [setLimitLock]
@[simp] theorem setLimitLock_pins (s : State) : (setLimitLock s).pins = s.pins := by simp [setLimitLock]
@[simp] theorem setLimitLock_freeCount (s : State) : (setLimitLock s).freeCount = s.freeCount := by simp [setLimitLock]
@[simp] theorem setLimitLock_pending (s : State) : (setLimitLock s).pending = s.pending := by simp [setLimitLock]

@[simp] theorem protectSection_time (i : SectionId) (s : State) : (protectSection i s).time = s.time := by simp [protectSection]
@[simp] theorem protectSection_pulse (i : SectionId) (s : State) : (protectSection i s).pulse = s.pulse := by simp [protectSection]
@[simp] theorem protectSection_loop (i : SectionId) (s : State) : (protectSection i s).loop = s.loop := by simp [protectSection]
@[simp] theorem protectSection_run (i : SectionId) (s : State) : (protectSection i s).run = s.run := by simp [protectSection]
@[simp] theorem protectSection_conv (i : SectionId) (s : State) : (protectSection i s).conv = s.conv := by simp [protectSection]
@[simp] theorem protectSection_dose (i : SectionId) (s : State) : (protectSection i s).dose = s.dose := by simp [protectSection]
@[simp] theorem protectSection_pump (i : SectionId) (s : State) : (protectSection i s).pump = s.pump := by simp [protectSection]
@[simp] theorem protectSection_sense (i : SectionId) (s : State) : (protectSection i s).sense = s.sense := by simp [protectSection]
@[simp] theorem protectSection_table (i : SectionId) (s : State) : (protectSection i s).table = s.table := by simp [protectSection]
@[simp] theorem protectSection_recorder (i : SectionId) (s : State) : (protectSection i s).recorder = s.recorder := by simp [protectSection]
@[simp] theorem protectSection_monitors (i : SectionId) (s : State) : (protectSection i s).monitors = s.monitors := by simp [protectSection]
@[simp] theorem protectSection_link (i : SectionId) (s : State) : (protectSection i s).link = s.link := by simp [protectSection]
@[simp] theorem protectSection_pins (i : SectionId) (s : State) : (protectSection i s).pins = s.pins := by simp [protectSection]
@[simp] theorem protectSection_freeCount (i : SectionId) (s : State) : (protectSection i s).freeCount = s.freeCount := by simp [protectSection]
@[simp] theorem protectSection_pending (i : SectionId) (s : State) : (protectSection i s).pending = s.pending := by simp [protectSection]

@[simp] theorem announceRuns_time (s : State) : (announceRuns s).time = s.time := by simp [announceRuns]
@[simp] theorem announceRuns_pulse (s : State) : (announceRuns s).pulse = s.pulse := by simp [announceRuns]
@[simp] theorem announceRuns_loop (s : State) : (announceRuns s).loop = s.loop := by simp [announceRuns]
@[simp] theorem announceRuns_run (s : State) : (announceRuns s).run = s.run := by simp [announceRuns]
@[simp] theorem announceRuns_conv (s : State) : (announceRuns s).conv = s.conv := by simp [announceRuns]
@[simp] theorem announceRuns_dose (s : State) : (announceRuns s).dose = s.dose := by simp [announceRuns]
@[simp] theorem announceRuns_pump (s : State) : (announceRuns s).pump = s.pump := by simp [announceRuns]
@[simp] theorem announceRuns_sense (s : State) : (announceRuns s).sense = s.sense := by simp [announceRuns]
@[simp] theorem announceRuns_table (s : State) : (announceRuns s).table = s.table := by simp [announceRuns]
@[simp] theorem announceRuns_recorder (s : State) : (announceRuns s).recorder = s.recorder := by simp [announceRuns]
@[simp] theorem announceRuns_monitors (s : State) : (announceRuns s).monitors = s.monitors := by simp [announceRuns]
@[simp] theorem announceRuns_settings (s : State) : (announceRuns s).settings = s.settings := by simp [announceRuns]
@[simp] theorem announceRuns_store (s : State) : (announceRuns s).store = s.store := by simp [announceRuns]
@[simp] theorem announceRuns_pins (s : State) : (announceRuns s).pins = s.pins := by simp [announceRuns]
@[simp] theorem announceRuns_freeCount (s : State) : (announceRuns s).freeCount = s.freeCount := by simp [announceRuns]
@[simp] theorem announceRuns_pending (s : State) : (announceRuns s).pending = s.pending := by simp [announceRuns]

@[simp] theorem setAux_time (l : Bool) (n : Nat) (s : State) : (setAux l n s).time = s.time := by unfold setAux; split <;> simp
@[simp] theorem setAux_pulse (l : Bool) (n : Nat) (s : State) : (setAux l n s).pulse = s.pulse := by unfold setAux; split <;> simp
@[simp] theorem setAux_loop (l : Bool) (n : Nat) (s : State) : (setAux l n s).loop = s.loop := by unfold setAux; split <;> simp
@[simp] theorem setAux_run (l : Bool) (n : Nat) (s : State) : (setAux l n s).run = s.run := by unfold setAux; split <;> simp
@[simp] theorem setAux_conv (l : Bool) (n : Nat) (s : State) : (setAux l n s).conv = s.conv := by unfold setAux; split <;> simp
@[simp] theorem setAux_dose (l : Bool) (n : Nat) (s : State) : (setAux l n s).dose = s.dose := by unfold setAux; split <;> simp
@[simp] theorem setAux_pump (l : Bool) (n : Nat) (s : State) : (setAux l n s).pump = s.pump := by unfold setAux; split <;> simp
@[simp] theorem setAux_sense (l : Bool) (n : Nat) (s : State) : (setAux l n s).sense = s.sense := by unfold setAux; split <;> simp
@[simp] theorem setAux_recorder (l : Bool) (n : Nat) (s : State) : (setAux l n s).recorder = s.recorder := by unfold setAux; split <;> simp
@[simp] theorem setAux_monitors (l : Bool) (n : Nat) (s : State) : (setAux l n s).monitors = s.monitors := by unfold setAux; split <;> simp
@[simp] theorem setAux_settings (l : Bool) (n : Nat) (s : State) : (setAux l n s).settings = s.settings := by unfold setAux; split <;> simp
@[simp] theorem setAux_store (l : Bool) (n : Nat) (s : State) : (setAux l n s).store = s.store := by unfold setAux; split <;> simp
@[simp] theorem setAux_link (l : Bool) (n : Nat) (s : State) : (setAux l n s).link = s.link := by unfold setAux; split <;> simp
@[simp] theorem setAux_pins (l : Bool) (n : Nat) (s : State) : (setAux l n s).pins = s.pins := by unfold setAux; split <;> simp
@[simp] theorem setAux_freeCount (l : Bool) (n : Nat) (s : State) : (setAux l n s).freeCount = s.freeCount := by unfold setAux; split <;> simp
@[simp] theorem setAux_pending (l : Bool) (n : Nat) (s : State) : (setAux l n s).pending = s.pending := by unfold setAux; split <;> simp

@[simp] theorem setPfw_time (h : Bool) (s : State) : (setPfw h s).time = s.time := by simp [setPfw]
@[simp] theorem setPfw_pulse (h : Bool) (s : State) : (setPfw h s).pulse = s.pulse := by simp [setPfw]
@[simp] theorem setPfw_loop (h : Bool) (s : State) : (setPfw h s).loop = s.loop := by simp [setPfw]
@[simp] theorem setPfw_run (h : Bool) (s : State) : (setPfw h s).run = s.run := by simp [setPfw]
@[simp] theorem setPfw_conv (h : Bool) (s : State) : (setPfw h s).conv = s.conv := by simp [setPfw]
@[simp] theorem setPfw_dose (h : Bool) (s : State) : (setPfw h s).dose = s.dose := by simp [setPfw]
@[simp] theorem setPfw_pump (h : Bool) (s : State) : (setPfw h s).pump = s.pump := by simp [setPfw]
@[simp] theorem setPfw_sense (h : Bool) (s : State) : (setPfw h s).sense = s.sense := by simp [setPfw]
@[simp] theorem setPfw_table (h : Bool) (s : State) : (setPfw h s).table = s.table := by simp [setPfw]
@[simp] theorem setPfw_recorder (h : Bool) (s : State) : (setPfw h s).recorder = s.recorder := by simp [setPfw]
@[simp] theorem setPfw_monitors (h : Bool) (s : State) : (setPfw h s).monitors = s.monitors := by simp [setPfw]
@[simp] theorem setPfw_settings (h : Bool) (s : State) : (setPfw h s).settings = s.settings := by simp [setPfw]
@[simp] theorem setPfw_store (h : Bool) (s : State) : (setPfw h s).store = s.store := by simp [setPfw]
@[simp] theorem setPfw_link (h : Bool) (s : State) : (setPfw h s).link = s.link := by simp [setPfw]
@[simp] theorem setPfw_freeCount (h : Bool) (s : State) : (setPfw h s).freeCount = s.freeCount := by simp [setPfw]
@[simp] theorem setPfw_pending (h : Bool) (s : State) : (setPfw h s).pending = s.pending := by simp [setPfw]

@[simp] theorem holdRise_pulse (s : State) : (holdRise s).pulse = s.pulse := by unfold holdRise; split <;> simp
@[simp] theorem holdRise_loop (s : State) : (holdRise s).loop = s.loop := by unfold holdRise; split <;> simp
@[simp] theorem holdRise_run (s : State) : (holdRise s).run = s.run := by unfold holdRise; split <;> simp
@[simp] theorem holdRise_conv (s : State) : (holdRise s).conv = s.conv := by unfold holdRise; split <;> simp
@[simp] theorem holdRise_dose (s : State) : (holdRise s).dose = s.dose := by unfold holdRise; split <;> simp
@[simp] theorem holdRise_pump (s : State) : (holdRise s).pump = s.pump := by unfold holdRise; split <;> simp
@[simp] theorem holdRise_sense (s : State) : (holdRise s).sense = s.sense := by unfold holdRise; split <;> simp
@[simp] theorem holdRise_table (s : State) : (holdRise s).table = s.table := by unfold holdRise; split <;> simp
@[simp] theorem holdRise_recorder (s : State) : (holdRise s).recorder = s.recorder := by unfold holdRise; split <;> simp
@[simp] theorem holdRise_monitors (s : State) : (holdRise s).monitors = s.monitors := by unfold holdRise; split <;> simp
@[simp] theorem holdRise_settings (s : State) : (holdRise s).settings = s.settings := by unfold holdRise; split <;> simp
@[simp] theorem holdRise_store (s : State) : (holdRise s).store = s.store := by unfold holdRise; split <;> simp
@[simp] theorem holdRise_link (s : State) : (holdRise s).link = s.link := by unfold holdRise; split <;> simp
@[simp] theorem holdRise_pins (s : State) : (holdRise s).pins = s.pins := by unfold holdRise; split <;> simp
@[simp] theorem holdRise_freeCount (s : State) : (holdRise s).freeCount = s.freeCount := by unfold holdRise; split <;> simp
@[simp] theorem holdRise_pending (s : State) : (holdRise s).pending = s.pending := by unfold holdRise; split <;> simp

end Sys2Proof.Machine
end

