-- ==== Sys2Proof/Laws/Commands.lean ====
section
/-! SUPPORT. What a command comes to, said once: timed events, requests, replies. -/

namespace Sys2Proof.Machine

/-- Every command answers a next state. -/
theorem exec_next (i : Instr) (s : State) : ∃ t, exec i s = .next t := by
  cases i <;> exact ⟨_, rfl⟩

/-- A step takes the front command with the rest of the queue. -/
theorem step_cons (s : State) (c : Instr) (rest : List Instr) (h : s.pending = c :: rest) :
    step s = exec c { s with pending := rest } := by
  simp [step, h]

theorem step_idle (s : State) (h : s.pending = []) : step s = .next (s.elapse 1) := by
  simp [step, h]

/-! ## Timed events -/

/-- An event whose guard holds takes place. -/
theorem event_taken (dt : Nat) (guard : State → Bool) (body : State → State) (s : State)
    (h : guard (s.elapse dt) = true) : event dt guard body s = .next (finish (body (s.elapse dt))) := by
  simp [event, h]

/-- An event whose guard fails does not occur: only time passes. -/
theorem event_not (dt : Nat) (guard : State → Bool) (body : State → State) (s : State)
    (h : guard (s.elapse dt) = false) : event dt guard body s = .next (s.elapse dt) := by
  simp [event, h]

/-- The two cases of an event. -/
theorem event_cases (dt : Nat) (guard : State → Bool) (body : State → State) (s t : State)
    (h : event dt guard body s = .next t) :
    (guard (s.elapse dt) = true ∧ t = finish (body (s.elapse dt)))
      ∨ (guard (s.elapse dt) = false ∧ t = s.elapse dt) := by
  cases hg : guard (s.elapse dt)
  · rw [event_not _ _ _ _ hg] at h
    cases h
    exact .inr ⟨rfl, rfl⟩
  · rw [event_taken _ _ _ _ hg] at h
    cases h
    exact .inl ⟨rfl, rfl⟩

/-! ## The end of an event -/

/-- What `finish` can do to the store: nothing, or the start of one write. -/
theorem serveStore_cases (s : State) :
    serveStore s = s ∨ (∃ i, serveStore s = startWrite i s)
      ∨ serveStore s = startWrite .resume (s.onStore fun st => { st with warningResume := false }) := by
  unfold serveStore
  split
  · exact .inl rfl
  · split
    · exact .inr (.inr rfl)
    · split
      · split
        · exact .inr (.inl ⟨_, rfl⟩)
        · exact .inl rfl
      · exact .inl rfl

/-- What `finish` can do to the link: nothing, the oldest reply sent, or the first pending notice sent. -/
theorem serveLink_cases (s : State) :
    serveLink s = s
      ∨ (∃ f rest, s.link.queue = f :: rest
          ∧ serveLink s = s.onLink fun l => { l with queue := rest, tx := some (sending f) })
      ∨ (∃ n rest, s.link.queue = [] ∧ s.link.notices = n :: rest
          ∧ serveLink s = s.onLink fun l =>
              { l with notices := rest, tx := some (sending (buildNotice n s)) }) := by
  unfold serveLink
  split
  · split
    · exact .inr (.inl ⟨_, _, by assumption, rfl⟩)
    · exact .inr (.inr ⟨_, _, by assumption, by assumption, rfl⟩)
    · exact .inl rfl
  · exact .inl rfl

/-- The store as an event's end leaves it is what serving the store leaves. -/
@[simp] theorem finish_store (s : State) : (finish s).store = (serveStore s).store := by simp [finish]

/-- No stored copy changes as an event ends. -/
theorem finish_stored (s : State) :
    (finish s).store.sections = s.store.sections ∧ (finish s).store.flags = s.store.flags
      ∧ (finish s).store.ring = s.store.ring ∧ (finish s).store.resume = s.store.resume := by
  rw [finish_store]
  rcases serveStore_cases s with h | ⟨i, h⟩ | h <;> rw [h] <;> exact ⟨rfl, rfl, rfl, rfl⟩

/-- The receiver is left alone as an event ends. -/
@[simp] theorem serveLink_receiver (s : State) : (serveLink s).link.receiver = s.link.receiver := by
  rcases serveLink_cases s with h | ⟨_, _, _, h⟩ | ⟨_, _, _, _, h⟩ <;> rw [h] <;> rfl

@[simp] theorem finish_receiver (s : State) : (finish s).link.receiver = s.link.receiver := by simp [finish]

/-! ## Replies -/

/-- A reply just queued is the newest after the link has been served. -/
theorem newestReply_serveLink (s : State) (f : Frame) (h : s.link.queue.getLast? = some f) :
    newestReply (serveLink s) = some f := by
  rcases serveLink_cases s with e | ⟨g, rest, hq, e⟩ | ⟨_, _, hq, _, _⟩
  · rw [e]
    simp [newestReply, h]
  · rw [e]
    cases rest with
    | nil =>
      rw [hq] at h
      simp at h
      simp [newestReply, sending, h]
    | cons x xs =>
      have last : (x :: xs).getLast? = some f := by
        rw [hq] at h
        simpa using h
      simp only [newestReply, State.onLink_link, last]
  · rw [hq] at h
    cases h

theorem newestReply_finish (s : State) (f : Frame) (h : s.link.queue.getLast? = some f) :
    newestReply (finish s) = some f := newestReply_serveLink _ _ (by simpa using h)

/-- The reply of a dispatched request is the newest. -/
theorem newestReply_queued (s : State) (f : Frame) : newestReply (finish (queueReply f s)) = some f :=
  newestReply_finish _ _ (by simp [queueReply])

/-- A request taken by a part that can take it. -/
theorem request_taken (dt : Nat) (kind tag : Byte) (handle : State → Answer) (s : State)
    (hl : s.live = true) (hq : (s.elapse dt).link.queue.length < 4) :
    request dt kind tag handle s =
      let a := handle (dropFrame (s.elapse dt))
      .next (finish (queueReply ⟨replyKind a.outcome kind, tag, replyPayload a.outcome a.data⟩
        (finish a.state))) := by
  have hq' : ¬ 4 ≤ (dropFrame (s.elapse dt)).link.queue.length := by simpa [dropFrame] using hq
  simp only [request, State.elapse_live, hl, if_true, dispatch, if_neg hq']

/-- A request found by a part with a full queue is discarded. -/
theorem request_discarded (dt : Nat) (kind tag : Byte) (handle : State → Answer) (s : State)
    (hl : s.live = true) (hq : 4 ≤ (s.elapse dt).link.queue.length) :
    request dt kind tag handle s = .next (dropFrame (s.elapse dt)) := by
  have hq' : 4 ≤ (dropFrame (s.elapse dt)).link.queue.length := by simpa [dropFrame] using hq
  simp only [request, State.elapse_live, hl, if_true, dispatch, if_pos hq']

/-- In RUNNING the WARMING check passes. -/
theorem unlessWarming_running (handle : State → Answer) (s : State) (h : s.time.phase = .running) :
    unlessWarming handle s = handle s := by
  simp [unlessWarming, h]

/-- In WARMUP it refuses. -/
theorem unlessWarming_warmup (handle : State → Answer) (s : State) (h : s.time.phase = .warmup) :
    unlessWarming handle s = refuse .warming s := by
  simp [unlessWarming, h]

theorem withLength_ok (n : Nat) (payload : List Byte) (handle : State → Answer) (s : State)
    (h : payload.length = n) : withLength n payload handle s = handle s := by
  simp [withLength, h]

theorem withLength_bad (n : Nat) (payload : List Byte) (handle : State → Answer) (s : State)
    (h : payload.length ≠ n) : withLength n payload handle s = refuse .badLength s := by
  simp [withLength, h]

end Sys2Proof.Machine
end

