-- ==== Sys2Proof/Laws/Word.lean ====
section
/-! SUPPORT. Reading the fixed-size containers after they are written, mapped or tabulated. -/

namespace Sys2Proof

@[simp] theorem Side.other_other (i : Side) : i.other.other = i := by cases i <;> rfl

@[simp] theorem Side.other_ne (i : Side) : i.other ≠ i := by cases i <;> decide

@[simp] theorem Two.get_both {α : Type} (x : α) (i : Side) : (Two.both x).get i = x := by cases i <;> rfl

@[simp] theorem Two.get_set_same {α : Type} (t : Two α) (i : Side) (x : α) : (t.set i x).get i = x := by
  cases i <;> rfl

@[simp] theorem Two.get_set_other {α : Type} (t : Two α) (i : Side) (x : α) :
    (t.set i x).get i.other = t.get i.other := by cases i <;> rfl

theorem Two.get_set {α : Type} (t : Two α) (i j : Side) (x : α) :
    (t.set i x).get j = if j = i then x else t.get j := by cases i <;> cases j <;> rfl

@[simp] theorem Two.get_map {α β : Type} (f : α → β) (t : Two α) (i : Side) : (t.map f).get i = f (t.get i) := by
  cases i <;> rfl

@[simp] theorem Two.get_modify_same {α : Type} (t : Two α) (i : Side) (f : α → α) :
    (t.modify i f).get i = f (t.get i) := by simp [Two.modify]

@[simp] theorem Four.get_all {α : Type} (x : α) (r : RunId) : (Four.all x).get r = x := by
  fin_cases r <;> rfl

@[simp] theorem Four.get_tabulate {α : Type} (f : RunId → α) (r : RunId) : (Four.tabulate f).get r = f r := by
  fin_cases r <;> rfl

@[simp] theorem Four.get_map {α β : Type} (f : α → β) (t : Four α) (r : RunId) :
    (t.map f).get r = f (t.get r) := by fin_cases r <;> rfl

@[simp] theorem Four.get_set_same {α : Type} (t : Four α) (r : RunId) (x : α) : (t.set r x).get r = x := by
  fin_cases r <;> rfl

theorem Four.get_set {α : Type} (t : Four α) (r i : RunId) (x : α) :
    (t.set r x).get i = if i = r then x else t.get i := by
  fin_cases r <;> fin_cases i <;> rfl

@[simp] theorem Four.get_modify_same {α : Type} (t : Four α) (r : RunId) (f : α → α) :
    (t.modify r f).get r = f (t.get r) := by simp [Four.modify]

theorem Four.get_modify {α : Type} (t : Four α) (r i : RunId) (f : α → α) :
    (t.modify r f).get i = if i = r then f (t.get i) else t.get i := by
  unfold Four.modify
  rw [Four.get_set]
  split <;> simp_all

/-- Two containers that agree at every place are equal. -/
theorem Four.ext_get {α : Type} (t u : Four α) (h : ∀ r, t.get r = u.get r) : t = u := by
  cases t
  cases u
  have h0 := h 0
  have h1 := h 1
  have h2 := h 2
  have h3 := h 3
  simp only [Four.get] at h0 h1 h2 h3
  simp [h0, h1, h2, h3]

@[simp] theorem Sixteen.get_set_same {α : Type} (t : Sixteen α) (m : Fin 16) (x : α) : (t.set m x).get m = x := by
  fin_cases m <;> rfl

theorem Sixteen.get_set {α : Type} (t : Sixteen α) (m i : Fin 16) (x : α) :
    (t.set m x).get i = if i = m then x else t.get i := by
  fin_cases m <;> fin_cases i <;> rfl

namespace Machine

@[simp] theorem PerSection.get_set_same {α : Type} (t : PerSection α) (i : SectionId) (x : α) :
    (t.set i x).get i = x := by
  cases i <;> simp [PerSection.set, PerSection.get]

theorem PerSection.get_set {α : Type} (t : PerSection α) (i j : SectionId) (x : α) :
    (t.set i x).get j = if j = i then x else t.get j := by
  cases i <;> cases j <;> simp [PerSection.set, PerSection.get, Four.get_set]

@[simp] theorem PerSection.get_all {α : Type} (x : α) (i : SectionId) : (PerSection.all x).get i = x := by
  cases i <;> simp [PerSection.all, PerSection.get]

@[simp] theorem channelOf_setChannel_same (c : ChannelId) (x : Channel) (l : LoopFront) :
    channelOf (setChannel c x l) c = x := by
  cases c <;> simp [channelOf, setChannel]

/-- Setting one channel leaves the others. -/
theorem channelOf_setChannel (c d : ChannelId) (x : Channel) (l : LoopFront) :
    channelOf (setChannel c x l) d = if d = c then x else channelOf l d := by
  cases c <;> cases d <;> simp [channelOf, setChannel, Four.get_set]

end Machine

end Sys2Proof
end

