-- ==== Sys2Proof/Laws/Outcomes.lean ====
section
/-! SUPPORT. What a taken event and an answered request leave, said once, with the notices given and the items listed. -/

namespace Sys2Proof.Machine

theorem finish_eq (s : State) : finish s = { s with store := (finish s).store, link := (finish s).link } := by
  have h : ∀ a b : State, a.time = b.time → a.pulse = b.pulse → a.loop = b.loop → a.run = b.run → a.conv = b.conv →
      a.dose = b.dose → a.pump = b.pump → a.sense = b.sense → a.table = b.table → a.recorder = b.recorder →
      a.monitors = b.monitors → a.settings = b.settings → a.store = b.store → a.link = b.link → a.pins = b.pins →
      a.freeCount = b.freeCount → a.pending = b.pending → a = b := by
    intro a b
    cases a
    cases b
    simp_all
  apply h <;> simp

/-! ## Supply -/

/-- A part that waits starts when supply is present and PFW is high; any other is left alone. -/
theorem startWhenReady_cases (s : State) :
    (s.time.phase = .off ∧ s.pins.supply = true ∧ s.pins.pfwHigh = true ∧ startWhenReady s = startPower s)
      ∨ ((s.time.phase ≠ .off ∨ s.pins.supply = false ∨ s.pins.pfwHigh = false) ∧ startWhenReady s = s) := by
  unfold startWhenReady
  split
  · simp_all
  · right
    refine ⟨?_, rfl⟩
    by_contra h
    simp_all

/-! ## Notices -/

theorem addNotice_self (n : Notice) (l : List Notice) : (addNotice n l).contains n = true := by
  induction l with
  | nil => simp [addNotice]
  | cons m rest ih =>
    unfold addNotice
    split
    · simp_all
    · split <;> simp_all

theorem addNotice_keeps (n m : Notice) (l : List Notice) (h : l.contains m = true) :
    (addNotice n l).contains m = true := by
  induction l with
  | nil => simp at h
  | cons k rest ih =>
    unfold addNotice
    split
    · exact h
    · split
      · simp_all
      · simp only [List.contains_cons, Bool.or_eq_true] at h ⊢
        exact h.imp_right ih

/-- The frame built for a pair is the notice of its class and subject. -/
theorem noticeFrame_built (n : Notice) (s : State) (h : n.subjectInRange = true) :
    noticeFrame n.cls n.subject (buildNotice n s) = true := by
  obtain ⟨c, m⟩ := n
  cases c <;> simp_all [noticeFrame, buildNotice, noticePayload, Notice.subjectInRange, bytesLE, byteOf]

/-- A notice raised while its class is enabled is given, whatever state it is compared with. -/
theorem noticeGiven_raise (c : NoticeClass) (n : Nat) (u s : State)
    (h : s.settings.active.station.enables.get c = true) : noticeGiven c n u (raise c n s) = true := by
  have := addNotice_self ⟨c, n⟩ s.link.notices
  simp [noticeGiven, raise, h, this, -List.contains_eq_mem]

/-- A notice given stays given when another is raised. -/
theorem noticeGiven_raise_keeps (c d : NoticeClass) (n m : Nat) (u s : State) (h : noticeGiven c n u s = true) :
    noticeGiven c n u (raise d m s) = true := by
  unfold raise
  split
  · simp only [noticeGiven, Bool.or_eq_true, State.onLink_link] at h ⊢
    exact h.imp_left (addNotice_keeps _ _ _)
  · exact h

theorem noticeGiven_queueReply (c : NoticeClass) (n : Nat) (f : Frame) (u s : State)
    (h : noticeGiven c n u s = true) : noticeGiven c n u (queueReply f s) = true := by
  simpa [noticeGiven, queueReply] using h

/-- A notice given stays given when the link is served: its frame goes on the line when its pair is picked. The line that is
free there was free where the comparison begins. -/
theorem noticeGiven_serveLink (c : NoticeClass) (n : Nat) (u s : State) (hn : Notice.subjectInRange ⟨c, n⟩ = true)
    (hu : s.link.tx = none → u.link.tx = none) (h : noticeGiven c n u s = true) :
    noticeGiven c n u (serveLink s) = true := by
  unfold serveLink
  split
  · rename_i hc
    have htx : s.link.tx = none := by
      simp only [Bool.and_eq_true, Option.isNone_iff_eq_none] at hc
      exact hc.2
    have hin : s.link.notices.contains ⟨c, n⟩ = true := by simpa [noticeGiven, htx] using h
    split
    · simp [noticeGiven, hin, -List.contains_eq_mem]
    · rename_i m rest _ hm
      rw [hm, List.contains_cons, Bool.or_eq_true] at hin
      rcases hin with e | e
      · have : (⟨c, n⟩ : Notice) = m := by simpa using e
        subst this
        have := noticeFrame_built ⟨c, n⟩ s hn
        simp [noticeGiven, sending, hu htx, this]
      · simp [noticeGiven, e, -List.contains_eq_mem]
    · exact h
  · exact h

theorem noticeGiven_finish (c : NoticeClass) (n : Nat) (u s : State) (hn : Notice.subjectInRange ⟨c, n⟩ = true)
    (hu : s.link.tx = none → u.link.tx = none) (h : noticeGiven c n u s = true) :
    noticeGiven c n u (finish s) = true := by
  apply noticeGiven_serveLink _ _ _ _ hn
  · simpa using hu
  · simpa [noticeGiven] using h

/-- The line is not made free as an event ends. -/
theorem finish_tx_none (s : State) (h : (finish s).link.tx = none) : s.link.tx = none := by
  have h' : (serveLink (serveStore s)).link.tx = none := h
  rcases serveLink_cases (serveStore s) with e | ⟨_, _, _, e⟩ | ⟨_, _, _, _, e⟩ <;> rw [e] at h'
  · simpa using h'
  · simp at h'
  · simp at h'

/-- A notice given where a request has left the blocks is given once it has been answered. -/
theorem noticeGiven_answered (c : NoticeClass) (n : Nat) (f : Frame) (u v : State)
    (hn : Notice.subjectInRange ⟨c, n⟩ = true) (hu : v.link.tx = none → u.link.tx = none)
    (h : noticeGiven c n u v = true) : noticeGiven c n u (answered f v) = true := by
  unfold answered
  apply noticeGiven_finish _ _ _ _ hn
  · intro e
    exact hu (finish_tx_none (dropFrame v) e)
  · apply noticeGiven_queueReply
    apply noticeGiven_finish _ _ _ _ hn
    · simpa [dropFrame] using hu
    · simpa [noticeGiven, dropFrame] using h

/-! ## The receiver -/

/-- Bytes taken in two runs are taken as in one (R180). -/
theorem takeBytes_append (a b : List LineByte) (r : Receiver) :
    takeBytes r (a ++ b)
      = ((takeBytes (takeBytes r a).1 b).1, (takeBytes r a).2 ++ (takeBytes (takeBytes r a).1 b).2) := by
  induction a generalizing r with
  | nil => simp [takeBytes]
  | cons x a ih => simp [takeBytes, ih]

/-! ## Items of the store write list -/

/-- An item is in the list or is being written. -/
def Listed (i : StoreItem) (s : State) : Prop :=
  s.store.list.mark i = s.store.list ∨ s.store.writing.map (·.content.item) = some i

theorem itemContent_item (s : State) (i : StoreItem) : (itemContent s i).item = i := by
  cases i with
  | sectionCopy j => cases j <;> rfl
  | _ => rfl

/-- The unstored records are those newer than the stored-through sequence (R146). -/
theorem unstoredRecords_spec (l : List PeriodRecord) (q : Option Time) :
    unstoredRecords l q = l.take (unstoredRecords l q).length
      ∧ (∀ x ∈ unstoredRecords l q, some x.sequence ≠ q)
      ∧ (∀ x, l[(unstoredRecords l q).length]? = some x → some x.sequence = q) := by
  unfold unstoredRecords
  induction l with
  | nil => simp
  | cons y l ih =>
    rw [List.takeWhile_cons]
    by_cases h : some y.sequence = q
    · simp only [h, ne_eq, not_true_eq_false, decide_false, Bool.false_eq_true, if_false]
      refine ⟨rfl, by simp, fun x hx => ?_⟩
      simp only [List.length_nil, List.getElem?_cons_zero, Option.some.injEq] at hx
      rw [← hx, h]
    · obtain ⟨a, b, c⟩ := ih
      simp only [h, ne_eq, not_false_eq_true, decide_true, if_true, List.length_cons, List.take_succ_cons,
        List.getElem?_cons_succ]
      refine ⟨by rw [← a], fun x hx => ?_, c⟩
      rcases List.mem_cons.mp hx with rfl | hx
      · exact h
      · exact b x hx

/-- The content of the RESUME item is memory as it stands (R99, R146, R173). -/
theorem resumeHolds_content (s : State) : ResumeHolds s (resumeContent s) := by
  refine ⟨?_, unstoredRecords_spec _ _⟩
  simp only [resumeContent, driveAge, State.now, beq_eq_decide]

/-- The content of every item is memory as it stands (R172). -/
theorem itemHolds_content (i : StoreItem) (s : State) : ItemHolds i s (itemContent s i) := by
  cases i with
  | resume => exact resumeHolds_content s
  | sectionCopy j => cases j <;> simp [ItemHolds, itemContent]
  | _ => simp [ItemHolds, itemContent]

/-- The store and the link are no part of what an item holds. -/
theorem itemHolds_finish (i : StoreItem) (s : State) (c : StoreContent) (h : ItemHolds i s c) : ItemHolds i (finish s) c := by
  rw [finish_eq]
  exact h

theorem writeStarted_startWrite (i : StoreItem) (s : State) : WriteStarted i s (startWrite i s) :=
  ⟨_, rfl, itemHolds_content i s, rfl, rfl⟩

/-- A write put in the store makes its item's copy valid and keeps the other copies (R172). -/
theorem put_copies (c : StoreContent) (st : Store) :
    CopyWritten c (st.put c) ∧ OtherCopiesKept c.item st (st.put c) := by
  cases c <;> simp [CopyWritten, OtherCopiesKept, StoreContent.item, Store.put]
  rename_i r x
  exact fun k h => by simp [Four.get_set, Ne.symm h]

/-- An item left failing fails its check and the other copies stay (R173). -/
theorem spoil_copies (i : StoreItem) (st : Store) : CopyFails i (st.spoil i) ∧ OtherCopiesKept i st (st.spoil i) := by
  rcases i with _ | _ | _ | j
  · simp [CopyFails, OtherCopiesKept, Store.spoil]
  · simp [CopyFails, OtherCopiesKept, Store.spoil]
  · simp [CopyFails, OtherCopiesKept, Store.spoil]
  · cases j <;> simp [CopyFails, OtherCopiesKept, Store.spoil]
    rename_i r
    exact fun k h => by simp [Four.get_set, Ne.symm h]

theorem serveStore_listed (i : StoreItem) (s : State) (h : Listed i s) (hd : i ≠ .resume) :
    Listed i (serveStore s) := by
  have key : ∀ (j : StoreItem) (x : State), Listed i x → x.store.writing = none →
      Listed i (startWrite j x) := by
    intro j x hx hn
    rcases hx with e | e
    · by_cases hij : i = j
      · subst hij
        right
        simp [startWrite, itemContent_item]
      · left
        simp only [startWrite, State.onStore_store]
        generalize x.store.list = l at e
        cases l
        rename_i l1 l2 l3 l4
        cases l4
        cases i <;> cases j <;>
          simp_all [WriteList.mark, WriteList.unmark, PerSection.set, Four.set]
        rename_i p q
        rename_i l4r _ _ _
        cases l4r
        cases p <;> cases q <;> simp_all
        rename_i a b
        fin_cases a <;> fin_cases b <;> simp_all
    · rw [hn] at e
      cases e
  unfold serveStore
  split
  · exact h
  · rename_i hw
    have hn : s.store.writing = none := by simpa using hw
    split
    · exact key _ _ h hn
    · split
      · split
        · exact key _ _ h hn
        · exact h
      · exact h

theorem finish_listed (i : StoreItem) (s : State) (h : Listed i s) (hd : i ≠ .resume) : Listed i (finish s) := by
  have := serveStore_listed i s h hd
  simpa [Listed] using this

/-! ## Events and requests -/

/-- A timed event whose guard holds: what its body leaves, but for the store and the link being served. -/
theorem event_leaves (dt : Nat) (guard : State → Bool) (body : State → State) (s u : State)
    (hu : s.elapse dt = u) (h : guard u = true) :
    ∃ t : State, event dt guard body s = .next t ∧ t = finish (body u)
      ∧ t = { body u with store := t.store, link := t.link } := by
  subst hu
  exact ⟨_, event_taken _ _ _ _ h, rfl, finish_eq _⟩

/-- The frame being received plays no part in raising a notice. -/
theorem dropFrame_raise (c : NoticeClass) (n : Nat) (s : State) :
    dropFrame (raise c n s) = raise c n (dropFrame s) := by
  unfold raise
  split <;> simp_all [dropFrame, State.onLink]

theorem dropFrame_idem (s : State) : dropFrame (dropFrame s) = dropFrame s := rfl

/-- A request answered by a part that can take it: what its handler leaves, the frame dropped, is served, answered and served. -/
theorem request_answered (dt : Nat) (kind tag : Byte) (handle : State → Answer) (s u v : State) (o : OutcomeCode)
    (d : List Byte) (hu : s.elapse dt = u) (hl : u.live = true) (hq : u.link.queue.length < 4)
    (ha : handle (dropFrame u) = ⟨o, d, dropFrame v⟩) :
    request dt kind tag handle s = .next (answered ⟨replyKind o kind, tag, replyPayload o d⟩ v) := by
  subst hu
  rw [request_taken dt kind tag handle s (by simpa using hl) hq, ha]
  rfl

/-- What an answered request leaves, said once: nothing but the store and the link differs from what it left, its reply is the
newest, the receiver is in HUNT, and no stored copy has changed. -/
theorem answered_leaves (f : Frame) (v : State) :
    answered f v = { v with store := (answered f v).store, link := (answered f v).link }
      ∧ newestReply (answered f v) = some f ∧ (answered f v).link.receiver = huntReceiver
      ∧ (answered f v).store.sections = v.store.sections ∧ (answered f v).store.flags = v.store.flags
      ∧ (answered f v).store.ring = v.store.ring ∧ (answered f v).store.resume = v.store.resume := by
  have kept := finish_stored (queueReply f (finish (dropFrame v)))
  have kept' := finish_stored (dropFrame v)
  refine ⟨?_, newestReply_queued _ _, ?_, ?_⟩
  · unfold answered
    rw [finish_eq, show ∀ x, queueReply f (finish x) = { x with
        store := (queueReply f (finish x)).store, link := (queueReply f (finish x)).link } from ?_]
    · rfl
    · intro x
      rw [finish_eq x]
      rfl
  · simp [answered, queueReply, dropFrame]
  · exact ⟨kept.1.trans kept'.1, kept.2.1.trans kept'.2.1, kept.2.2.1.trans kept'.2.2.1,
      kept.2.2.2.trans kept'.2.2.2⟩

theorem answered_listed (i : StoreItem) (f : Frame) (v : State) (h : Listed i v) (hi : i ≠ .resume) :
    Listed i (answered f v) := by
  apply finish_listed _ _ _ hi
  have := finish_listed i (dropFrame v) (by simpa [Listed, dropFrame] using h) hi
  simpa [Listed, queueReply] using this

end Sys2Proof.Machine
end

