-- ==== Sys2Proof/Laws/Boundary.lean ====
section
/-! SUPPORT. What a period close leaves, what a boundary's work comes to, whichever command makes it, and the frame on the line
left alone by both. -/

namespace Sys2Proof.Machine

/-! ## The frame on the line is left alone by whatever raises notices -/

@[simp] theorem raise_tx (c : NoticeClass) (n : Nat) (s : State) : (raise c n s).link.tx = s.link.tx := by
  unfold raise
  split <;> simp

@[simp] theorem raiseRuns_tx (test : RunId → Bool) (s : State) : (raiseRuns test s).link.tx = s.link.tx :=
  foldl_keeps (·.link.tx) _ (fun s r => by split <;> simp [raiseRun]) _ s

@[simp] theorem monitorNotices_tx (m : Fin 16) (was is : MonitorState) (s : State) :
    (monitorNotices m was is s).link.tx = s.link.tx := by
  unfold monitorNotices
  (repeat' split) <;> simp

@[simp] theorem evaluate_tx (m : Fin 16) (v : Nat) (s : State) : (evaluate m v s).link.tx = s.link.tx := by
  unfold evaluate
  split <;> simp

@[simp] theorem debtToMonitor_tx (s : State) : (debtToMonitor s).link.tx = s.link.tx := by simp [debtToMonitor]

@[simp] theorem accrue_tx (v : Nat) (s : State) : (accrue v s).link.tx = s.link.tx := by
  unfold accrue
  dsimp only
  split <;> simp

@[simp] theorem rateMonitors_tx (b s : State) : (rateMonitors b s).link.tx = s.link.tx :=
  foldl_keeps (·.link.tx) _ (fun s r => by split <;> simp) _ s

@[simp] theorem closeInterval_tx (s : State) : (closeInterval s).link.tx = s.link.tx := by
  simp [closeInterval, closeRuns]

@[simp] theorem settleRuns_tx (s : State) : (settleRuns s).link.tx = s.link.tx := by simp [settleRuns]

@[simp] theorem dropIntegrity_tx (old : ActiveSections) (s : State) : (dropIntegrity old s).link.tx = s.link.tx := by
  simp [dropIntegrity]

@[simp] theorem retuneMonitors_tx (old new : MonitorsSection) (s : State) :
    (retuneMonitors old new s).link.tx = s.link.tx :=
  foldl_keeps (·.link.tx) _ (fun s m => by simp [retuneMonitor]) _ s

@[simp] theorem applyStaged_tx (s : State) : (applyStaged s).link.tx = s.link.tx := by
  unfold applyStaged
  dsimp only
  (repeat' split) <;> simp

@[simp] theorem closePeriod_tx (c : CloseCause) (s : State) : (closePeriod c s).link.tx = s.link.tx := by
  simp [closePeriod, closePeriodAs]

@[simp] theorem lengthClose_tx (s : State) : (lengthClose s).link.tx = s.link.tx := by
  unfold lengthClose
  split <;> simp

/-- A boundary leaves the frame on the line alone, whichever close it makes. -/
theorem boundaryWith_tx (close : State → State) (h : ∀ s, (close s).link.tx = s.link.tx) (s : State) :
    (boundaryWith close s).link.tx = s.link.tx := by
  simp [boundaryWith, h]

/-! ## A period close, and its items served -/

/-- The record a close builds (R139). -/
def closeRecord (cause : CloseCause) (s : State) : PeriodRecord :=
  buildRecord ⟨cause, s.time.periodCount, (s.now - s.time.periodOpen).toNat⟩ s.settings.build.runs (s.run.map (·.state))
    s.dose.trim s.dose.account s.recorder

@[simp] theorem closePeriod_time (c : CloseCause) (s : State) :
    (closePeriod c s).time = { s.time with periodCount := 0, periodOpen := s.now } := by
  simp [closePeriod, closePeriodAs, clearStrays, addItem, State.now]

@[simp] theorem closePeriod_recorder (c : CloseCause) (s : State) :
    (closePeriod c s).recorder = openPeriod s.dose.mode s.dose.account (placeRecord (closeRecord c s) s.recorder) := by
  simp [closePeriod, closePeriodAs, clearStrays, addItem, closeRecord]

@[simp] theorem closePeriod_pump (c : CloseCause) (s : State) :
    (closePeriod c s).pump = s.pump.map fun x => { x with strays := 0 } := by
  simp [closePeriod, closePeriodAs, clearStrays, addItem]

@[simp] theorem closePeriod_store (c : CloseCause) (s : State) :
    (closePeriod c s).store = (s.store.add .ring).add .resume := by
  simp [closePeriod, closePeriodAs, clearStrays, addItem]

/-- A close raises the PERIOD notice (R143). -/
theorem closePeriod_notice (c : CloseCause) (u s : State) (h : s.settings.active.station.enables.period = true) :
    noticeGiven .period 0 u (closePeriod c s) = true := by
  unfold closePeriod closePeriodAs
  dsimp only
  generalize hx : addItem .resume (addItem .ring (clearStrays (s.onRecorder _))) = x
  have he : x.settings.active.station.enables.period = true := by
    rw [← hx]
    simpa [addItem, clearStrays] using h
  simpa [noticeGiven] using noticeGiven_raise .period 0 u x he

/-- RESUME listed in a part that runs is added (R172): its write starts as the event ends when no item is in progress. -/
theorem resumeAdded_finish (u b : State) (hl : b.live = true) (hr : b.store.list.resume = true)
    (hw : b.store.writing.map (·.content) = u.store.writing.map (·.content)) : ResumeAdded u (finish b) := by
  have hfirst : b.store.list.first? = some .resume := by simp [WriteList.first?, hr]
  constructor
  · intro hu
    have hn : b.store.writing = none := by simpa [hu] using hw
    have hs : (serveStore b).store.list.resume = false ∧ WriteStarted .resume b (serveStore b) := by
      unfold serveStore
      cases hw' : b.store.warningResume
      · simp only [hn, hfirst, hl, Option.isSome_none, Bool.false_eq_true, if_false, if_true]
        exact ⟨rfl, writeStarted_startWrite _ _⟩
      · simp only [hn, Option.isSome_none, Bool.false_eq_true, if_false, if_true]
        exact ⟨rfl, writeStarted_startWrite _ _⟩
    obtain ⟨hm, w, h1, h2, h3, h4⟩ := hs
    exact ⟨by rw [finish_store]; exact hm, w, by rw [finish_store]; exact h1, itemHolds_finish _ _ _ h2, h3, h4⟩
  · intro w hu
    rw [finish_store]
    unfold serveStore
    rw [hu] at hw
    cases hb : b.store.writing with
    | none => simp [hb] at hw
    | some y => simp_all

/-- RING stays listed as the event ends when RESUME, which goes before it, is listed too (R172). -/
theorem ring_listed_finish (b : State) (hr : b.store.list.resume = true) (hg : b.store.list.ring = true) :
    (finish b).store.list.ring = true := by
  rw [finish_store]
  unfold serveStore
  have hfirst : b.store.list.first? = some .resume := by simp [WriteList.first?, hr]
  split
  · exact hg
  · split
    · exact hg
    · split
      · rw [hfirst]
        exact hg
      · exact hg

/-! ## The boundary, whichever command makes it -/

/-- The close a command's boundary makes. -/
def closeOf (c : Instr) : State → State :=
  match c with
  | .boundary _ => lengthClose
  | _ => closePeriod .forced

theorem closeOf_tx (c : Instr) (s : State) : (closeOf c s).link.tx = s.link.tx := by
  unfold closeOf
  split <;> simp

/-- What a state `b` comes to when it is served: nothing but the store and the link differs, a notice given since `u` stays given,
and an item listed is listed or being written. -/
structure Served (u b t : State) : Prop where
  kept : t = { b with store := t.store, link := t.link }
  given : ∀ k n, Notice.subjectInRange ⟨k, n⟩ = true → noticeGiven k n u b = true → noticeGiven k n u t = true
  listed : ∀ i, i ≠ .resume → Listed i b → Listed i t

theorem served_finish (u b : State) (h : b.link.tx = none → u.link.tx = none) : Served u b (finish b) where
  kept := finish_eq b
  given k n hn hg := noticeGiven_finish k n u b hn h hg
  listed i hi hl := finish_listed i b hl hi

theorem served_reply (u b : State) (f : Frame) (h : b.link.tx = none → u.link.tx = none) :
    Served u b (finish (queueReply f (finish b))) where
  kept := by
    rw [finish_eq (queueReply f (finish b)), show queueReply f (finish b) = { b with
      store := (queueReply f (finish b)).store, link := (queueReply f (finish b)).link } from ?_]
    rw [finish_eq b]
    rfl
  given k n hn hg := noticeGiven_finish k n u _ hn (fun e => h (finish_tx_none b e))
    (noticeGiven_queueReply k n f u _ (noticeGiven_finish k n u b hn h hg))
  listed i hi hl := by
    apply finish_listed _ _ _ hi
    have := finish_listed i b hl hi
    simpa [Listed, queueReply] using this

/-- PERIOD_CLOSE at an age of 1 ms or more makes the boundary of a forced close. -/
theorem handlePeriodClose_boundary (u : State) (hp : u.time.phase = .running) (ha : u.age ≠ 0) :
    ∃ d, handlePeriodClose [] u = ⟨.ok, d, boundaryWith (closePeriod .forced) u⟩ := by
  unfold handlePeriodClose
  rw [unlessWarming_running _ _ hp, withLength_ok 0 [] _ _ rfl]
  have : forcedClose u = boundaryWith (closePeriod .forced) u := if_neg ha
  exact ⟨_, by rw [this]; rfl⟩

/-- A command that makes a boundary answers what the boundary's work comes to when served: the work is done on the part as it
stands, a request's frame dropped. -/
theorem boundary_leaves (c : Instr) (s u : State) (h : MakesBoundary c s u) :
    ∃ v t : State, exec c s = .next t
      ∧ v = { u with link := v.link } ∧ v.link.tx = u.link.tx ∧ v.link.notices = u.link.notices
      ∧ Served u (boundaryWith (closeOf c) v) t := by
  rcases h with ⟨after, rfl, hu, hp, hd⟩ | ⟨after, tag, rfl, hu, ht, ha⟩
      | ⟨after, id, w, e, rfl, hu, hp, ha, he, hk, hd, rfl⟩
  · refine ⟨u, finish (timedBoundary u), ?_, rfl, rfl, rfl, ?_⟩
    · have := event_taken after boundaryDue timedBoundary s (by rw [hu]; simp only [boundaryDue, hp]; simpa [ms] using hd)
      rwa [hu] at this
    · apply served_finish
      intro e
      rwa [boundaryWith_tx _ (closeOf_tx _)] at e
  · have hr : u.time.phase = .running ∧ u.link.queue.length < 4 := by simpa [State.takes] using ht
    have hlive : s.live = true := by
      have : u.live = true := by simp [State.live, hr.1]
      rw [← hu] at this
      simpa using this
    obtain ⟨d, hh⟩ := handlePeriodClose_boundary (dropFrame u) hr.1 ha
    have hx := request_taken after 0x12#8 tag (handlePeriodClose []) s hlive (by rw [hu]; exact hr.2)
    rw [hu, hh] at hx
    have served := served_reply u (boundaryWith (closeOf (.periodClose after tag [])) (dropFrame u))
      ⟨replyKind .ok 0x12#8, tag, replyPayload .ok d⟩ (by
        intro e
        rwa [boundaryWith_tx _ (closeOf_tx _)] at e)
    refine ⟨dropFrame u, _, hx, rfl, rfl, rfl, ?_⟩
    rw [show closePeriod .forced = closeOf (.periodClose after tag []) from rfl]
    exact served
  · generalize hf : ({ w with table := { w.table with places := w.table.places.set id.val none } } : State) = u
    have hlive : w.live = true := by simp [State.live, hp]
    have hx : exec (.closePeriodEntryDue after id) s = .next (finish (forcedClose u)) := by
      have := event_taken after (entryDue .closePeriod id) (fun s => match s.table.at id.val with
        | some e => if (s.onTable (·.free id.val)).time.phase = .running then
            forcedClose (s.onTable (·.free id.val)) else s.onTable (·.free id.val)
        | none => s) s (by rw [hu]; simp [entryDue, he, hk, hd, hlive])
      rw [hu, he] at this
      have hp' : (w.onTable (·.free id.val)).time.phase = .running := hp
      simp only [hp', if_true] at this
      rwa [← hf]
    have hb : forcedClose u = boundaryWith (closePeriod .forced) u := if_neg (by rw [← hf]; exact ha)
    refine ⟨u, _, hx, rfl, rfl, rfl, ?_⟩
    rw [hb]
    apply served_finish
    intro e
    rwa [boundaryWith_tx _ (closeOf_tx _)] at e

/-! ## What a staged copy finds and leaves (R24, R25, R157) -/

/-- A judgement changes the consecutive counts and the alarm as R25 gives. -/
theorem judged_judge (c : RunSection) (p : PulseRun) (h : c.bCheck = true) :
    Judged True c p (judge (integrityEvent c p.count) p) := by
  have e : integrityEvent c p.count = decide (c.tolerance < max p.count.a p.count.b - min p.count.a p.count.b) := by
    unfold integrityEvent
    congr 2
    omega
  rw [e]
  unfold Judged judge
  by_cases he : c.tolerance < max p.count.a p.count.b - min p.count.a p.count.b <;>
    cases ha : p.integrityAlarm <;> simp [he, h] <;> split <;> simp_all

/-- A monitor takes its new settings as R157 gives. -/
theorem retuned_spec (a b : MonitorSettings) (x : MonitorState) :
    Retuned a b x (if b.enabled then MonitorState.formed b.mode (retuned a b x) else clearedMonitor) := by
  unfold Retuned retuned MonitorState.formed
  cases ha : a.enabled <;> cases hb : b.enabled <;> cases hma : a.mode <;> cases hmb : b.mode <;>
    simp [eventOf, clearedMonitor]

end Sys2Proof.Machine
end

