-- ==== Sys2Proof/Laws/PerInstr.lean ====
section
/-! SUPPORT. The statements made command by command, one lemma for each constructor of `Instr`. -/

namespace Sys2Proof.Laws.FrameFits

/-- A well-formed command that is a request has a frame the line can carry: its length field N lies in 2..250 (R179). -/
def Statement (i : Instr) : Prop :=
  i.wf = true → ∀ f, i.frame? = some f → 2 ≤ f.payload.length + 2 ∧ f.payload.length + 2 ≤ 250

theorem payload_short (payload : List Byte) (h : payloadFits payload = true) : payload.length ≤ 248 :=
  of_decide_eq_true h

theorem none_fits (i : Instr) (h : i.frame? = none) : Statement i := by
  intro _ f hf
  rw [h] at hf
  cases hf

theorem some_fits (i : Instr) (kind tag : Byte) (payload : List Byte)
    (h : i.frame? = some ⟨kind, tag, payload⟩) (w : i.wf = true → payload.length ≤ 248) :
    Statement i := by
  intro hw f hf
  rw [h] at hf
  cases hf
  have short := w hw
  exact ⟨Nat.le_add_left _ _, Nat.add_le_add_right short 2⟩

theorem powerOn (after : Nat) :
    Statement (.powerOn after) := none_fits _ rfl

theorem powerFailWarning (after : Nat) :
    Statement (.powerFailWarning after) := none_fits _ rfl

theorem pfwRise (after : Nat) :
    Statement (.pfwRise after) := none_fits _ rfl

theorem restartBegin (after : Nat) :
    Statement (.restartBegin after) := none_fits _ rfl

theorem warmupEnd (after : Nat) :
    Statement (.warmupEnd after) := none_fits _ rfl

theorem boundary (after : Nat) :
    Statement (.boundary after) := none_fits _ rfl

theorem pulseEdge (after : Nat) (run : RunId) (channel : Side) :
    Statement (.pulseEdge after run channel) := none_fits _ rfl

theorem pulseHoldOffEnd (after : Nat) (run : RunId) (channel : Side) :
    Statement (.pulseHoldOffEnd after run channel) := none_fits _ rfl

theorem conversionCompletion (after : Nat) (current : Nat) :
    Statement (.conversionCompletion after current) := none_fits _ rfl

theorem senseEdge (after : Nat) (pump : Side) :
    Statement (.senseEdge after pump) := none_fits _ rfl

theorem senseHoldOffEnd (after : Nat) (pump : Side) :
    Statement (.senseHoldOffEnd after pump) := none_fits _ rfl

theorem driveEnd (after : Nat) (pump : Side) :
    Statement (.driveEnd after pump) := none_fits _ rfl

theorem recentDriveEnd (after : Nat) :
    Statement (.recentDriveEnd after) := none_fits _ rfl

theorem trimHoldOffEnd (after : Nat) :
    Statement (.trimHoldOffEnd after) := none_fits _ rfl

theorem strokeEntryDue (after : Nat) (id : Fin 8) :
    Statement (.strokeEntryDue after id) := none_fits _ rfl

theorem confirmEntryDue (after : Nat) (id : Fin 8) :
    Statement (.confirmEntryDue after id) := none_fits _ rfl

theorem auxOnEntryDue (after : Nat) (id : Fin 8) :
    Statement (.auxOnEntryDue after id) := none_fits _ rfl

theorem auxOffEntryDue (after : Nat) (id : Fin 8) :
    Statement (.auxOffEntryDue after id) := none_fits _ rfl

theorem closePeriodEntryDue (after : Nat) (id : Fin 8) :
    Statement (.closePeriodEntryDue after id) := none_fits _ rfl

theorem timerNoticeEntryDue (after : Nat) (id : Fin 8) :
    Statement (.timerNoticeEntryDue after id) := none_fits _ rfl

theorem storeWriteComplete (after : Nat) :
    Statement (.storeWriteComplete after) := none_fits _ rfl

theorem receiveTimeout (after : Nat) (bytes : BytesThenGap) :
    Statement (.receiveTimeout after bytes) := none_fits _ rfl

theorem frameCheckFail (after : Nat) (bytes : List LineByte) :
    Statement (.frameCheckFail after bytes) := none_fits _ rfl

theorem frameSent (after : Nat) :
    Statement (.frameSent after) := none_fits _ rfl

theorem unknownKindRequest (after : Nat) (kind tag : Byte) (payload : List Byte) :
    Statement (.unknownKindRequest after kind tag payload) := some_fits _ _ _ payload rfl (fun h => by
    simp only [Instr.wf, Bool.and_eq_true] at h
    exact payload_short payload h.2)

theorem ident (after : Nat) (tag : Byte) (payload : List Byte) :
    Statement (.ident after tag payload) := some_fits _ _ _ payload rfl (payload_short payload)

theorem stationStatus (after : Nat) (tag : Byte) (payload : List Byte) (custody : SwitchLevel) :
    Statement (.stationStatus after tag payload custody) := some_fits _ _ _ payload rfl (payload_short payload)

theorem runStatus (after : Nat) (tag : Byte) (payload : List Byte) :
    Statement (.runStatus after tag payload) := some_fits _ _ _ payload rfl (payload_short payload)

theorem doseStatus (after : Nat) (tag : Byte) (payload : List Byte) :
    Statement (.doseStatus after tag payload) := some_fits _ _ _ payload rfl (payload_short payload)

theorem monitorStatus (after : Nat) (tag : Byte) (payload : List Byte) :
    Statement (.monitorStatus after tag payload) := some_fits _ _ _ payload rfl (payload_short payload)

theorem periodRead (after : Nat) (tag : Byte) (payload : List Byte) :
    Statement (.periodRead after tag payload) := some_fits _ _ _ payload rfl (payload_short payload)

theorem tableRead (after : Nat) (tag : Byte) (payload : List Byte) :
    Statement (.tableRead after tag payload) := some_fits _ _ _ payload rfl (payload_short payload)

theorem sectionRead (after : Nat) (tag : Byte) (payload : List Byte) :
    Statement (.sectionRead after tag payload) := some_fits _ _ _ payload rfl (payload_short payload)

theorem runOpen (after : Nat) (tag : Byte) (payload : List Byte) :
    Statement (.runOpen after tag payload) := some_fits _ _ _ payload rfl (payload_short payload)

theorem runClose (after : Nat) (tag : Byte) (payload : List Byte) :
    Statement (.runClose after tag payload) := some_fits _ _ _ payload rfl (payload_short payload)

theorem periodClose (after : Nat) (tag : Byte) (payload : List Byte) :
    Statement (.periodClose after tag payload) := some_fits _ _ _ payload rfl (payload_short payload)

theorem gasQuality (after : Nat) (tag : Byte) (payload : List Byte) :
    Statement (.gasQuality after tag payload) := some_fits _ _ _ payload rfl (payload_short payload)

theorem analyserReading (after : Nat) (tag : Byte) (payload : List Byte) :
    Statement (.analyserReading after tag payload) := some_fits _ _ _ payload rfl (payload_short payload)

theorem doseMode (after : Nat) (tag : Byte) (payload : List Byte) :
    Statement (.doseMode after tag payload) := some_fits _ _ _ payload rfl (payload_short payload)

theorem manualStroke (after : Nat) (tag : Byte) (payload : List Byte) :
    Statement (.manualStroke after tag payload) := some_fits _ _ _ payload rfl (payload_short payload)

theorem pumpReset (after : Nat) (tag : Byte) (payload : List Byte) :
    Statement (.pumpReset after tag payload) := some_fits _ _ _ payload rfl (payload_short payload)

theorem eventClear (after : Nat) (tag : Byte) (payload : List Byte) :
    Statement (.eventClear after tag payload) := some_fits _ _ _ payload rfl (payload_short payload)

theorem limitLock (after : Nat) (tag : Byte) (payload : List Byte) :
    Statement (.limitLock after tag payload) := some_fits _ _ _ payload rfl (payload_short payload)

theorem schedule (after : Nat) (tag : Byte) (payload : List Byte) :
    Statement (.schedule after tag payload) := some_fits _ _ _ payload rfl (payload_short payload)

theorem cancel (after : Nat) (tag : Byte) (payload : List Byte) :
    Statement (.cancel after tag payload) := some_fits _ _ _ payload rfl (payload_short payload)

theorem sectionWrite (after : Nat) (tag : Byte) (payload : List Byte) :
    Statement (.sectionWrite after tag payload) := some_fits _ _ _ payload rfl (payload_short payload)

theorem sectionProtect (after : Nat) (tag : Byte) (payload : List Byte) :
    Statement (.sectionProtect after tag payload) := some_fits _ _ _ payload rfl (payload_short payload)

theorem protectClear (after : Nat) (tag : Byte) (payload : List Byte) (custody : SwitchLevel) :
    Statement (.protectClear after tag payload custody) := some_fits _ _ _ payload rfl (payload_short payload)

theorem restart (after : Nat) (tag : Byte) (payload : List Byte) :
    Statement (.restart after tag payload) := some_fits _ _ _ payload rfl (payload_short payload)

theorem stopBitError (after : Nat) (bytes : List LineByte) :
    Statement (.stopBitError after bytes) := none_fits _ rfl

theorem lossOfSupply (after : Nat) :
    Statement (.lossOfSupply after) := none_fits _ rfl

end Sys2Proof.Laws.FrameFits
end

