-- ==== Sys2Proof/Tests/Slice0.lean ====
section
/-! SUPPORT. Tests: ill-formed commands refused, the manual's worked figures, and a state and operands that meet the
hypotheses of each statement, clause by clause. -/

namespace Sys2Proof.Tests

-- One test after another: a test that the kernel evaluates holds a thread while it waits for those before it.
set_option Elab.async false

open Machine

/-! ## Small states -/

/-- The part running, at the first instant of its first interval. -/
def running : State :=
  { State.reset with
    time := { State.reset.time with
      phase := .running, stationTime := 2000, captureClock := 2000000, intervalIndex := 1, intervalStart := 2000 } }

/-- The state a command leaves. -/
def left (r : Result) : State :=
  match r with
  | .next t => t
  | _ => State.reset

def off : State := { State.reset with time := { State.reset.time with phase := .off } }

def halted : State := { running with time := { running.time with phase := .halt } }

def withEntry (e : Entry) : State :=
  { running with table := { running.table with places := running.table.places.set 3 (some e) } }

def withPump (p : Side) (x : Pump) (s : State) : State := { s with pump := s.pump.set p x }

def withRun (r : RunId) (st : RunState) (s : State) : State :=
  { s with run := s.run.set r { s.run.get r with state := st } }

def withDose (mode : DosingMode) (st : DosingState) (account inFlight : Nat) (s : State) : State :=
  { s with dose := { s.dose with mode := mode, state := st, account := account, massInFlight := inFlight } }

def defined (s : State) : State := { s with settings := { s.settings with defaulted := .all false } }

def strokeEntry : Entry := { owner := .dosing, kind := .stroke, target := 0, due := 2000 }

def confirmEntry : Entry := { owner := .dosing, kind := .confirm, target := 0, due := 2000 }

def linkEntry (k : EntryKind) (target : Nat) : Entry :=
  { owner := .link, kind := k, target := target, due := 2000 }

/-- Pump A in a drive that ends now. -/
def driving : Pump := { freshPump .driving with line := true, driveEnd := some 2000 }

/-- A stroke of pump A awaits its proof. -/
def awaiting : State := withPump .a (freshPump .await) (withDose .auto .confirmWait 300000 250000 (withEntry confirmEntry))

/-- Bytes one after another with the same gap before each. -/
def spaced (gap : Nat) (bytes : List Byte) : List LineByte := bytes.map fun b => ⟨gap, b⟩

/-! ## Ill-formed commands (R179, R180, R181) -/

theorem test_wf_receive_timeout_needs_open_frame : (Instr.receiveTimeout 0 ⟨[], 20001⟩).wf = false := by decide

/-- A gap of exactly 20 ms is allowed and makes no timeout. -/
theorem test_wf_receive_timeout_open_frame : (Instr.receiveTimeout 0 ⟨spaced 20000 [0xB7#8, 0x05#8], 20001⟩).wf = true
    ∧ (Instr.receiveTimeout 0 ⟨spaced 20000 [0xB7#8, 0x05#8], 20000⟩).wf = false := by decide

theorem test_wf_receive_timeout_holds_no_request :
    (Instr.receiveTimeout 0 ⟨spaced 521 (frameBytes ⟨0x01#8, 0#8, []⟩), 20001⟩).wf = false := by decide +kernel

theorem test_wf_frame_check_fail_needs_failure : (Instr.frameCheckFail 0 (spaced 0 [0xB7#8])).wf = false := by decide

/-- A length of 251 is out of range, one of 2 is not. -/
theorem test_wf_frame_check_fail_length :
    (Instr.frameCheckFail 0 (spaced 0 [0xB7#8, 251#8])).wf = true ∧ (Instr.frameCheckFail 0 (spaced 0 [0xB7#8, 2#8])).wf = false
      ∧ (Instr.frameCheckFail 0 (spaced 0 [0xB7#8, 1#8])).wf = true := by decide

theorem test_wf_stop_bit_error_holds_no_request :
    (Instr.stopBitError 0 (spaced 521 (frameBytes ⟨0x02#8, 9#8, []⟩))).wf = false ∧ (Instr.stopBitError 0 []).wf = true := by
  decide +kernel

theorem test_wf_unknown_kind : (Instr.unknownKindRequest 0 0x01#8 0#8 []).wf = false
    ∧ (Instr.unknownKindRequest 0 0x09#8 0#8 []).wf = true := by decide

/-- A payload of 249 bytes makes N 251, which no frame has; one of 248 fits. -/
theorem test_wf_payload : (Instr.ident 0 0#8 (List.replicate 249 0#8)).wf = false
    ∧ (Instr.ident 0 0#8 (List.replicate 248 0#8)).wf = true := by decide +kernel

theorem test_no_bits : decodeTableWord 8 0 = none := by decide

/-! ## Time (R3) -/

/-- R3's example: an interval begun at 4,294,967,000 has its boundary due at 704, across the wrap. -/
theorem test_due_across_wrap : (4294967000 : Time) + 1000 = 704 ∧ reached 704 4294967100 = false
    ∧ reached 704 704 = true := by decide

/-! ## Scaling (R31, R33), the worked figures of chapter 2 -/

def gaugeRun : RunSection := { factoryRun with pType := .gauge, pUrv := 8000000 }

def gaugeSections : ActiveSections :=
  { factorySections with
    station := { factoryStation with atmospheric := 101000 }
    run := factorySections.run.set 0 gaugeRun }

theorem test_scale_pressure : reading gaugeSections (.p 0) 13798 = some (.valid, 5000000) := by decide

theorem test_scale_temperature : reading gaugeSections (.t 0) 11273 = some (.valid, 28315) := by decide

theorem test_scale_clamped : reading gaugeSections (.p 0) 3850 = some (.clampedLow, 101000)
    ∧ reading gaugeSections (.t 0) 20400 = some (.clampedHigh, 34315) ∧ reading gaugeSections (.t 0) 3500 = none := by
  decide

/-! ## The interval close, the worked figures of chapter 4 -/

def winterGrid : CompressSection :=
  { pressures := ⟨1000000, 2500000, 4000000, 5500000, 7000000⟩
    temperatures := ⟨26315, 27815, 29315, 30815⟩
    values :=
      ⟨⟨1026000, 1023000, 1020000, 1018000⟩, ⟨1068000, 1060000, 1053000, 1047000⟩,
        ⟨1104000, 1092000, 1082000, 1073000⟩, ⟨1135000, 1119000, 1106000, 1095000⟩,
        ⟨1160000, 1141000, 1125000, 1112000⟩⟩ }

theorem test_ratio_worked : ratioF winterGrid 5000000 28315 = 1106000 ∧ ratioF winterGrid 7400000 29315 = 1125000
    ∧ outOfTable winterGrid 7400000 29315 = true := by decide

theorem test_base_volume_clamped_lookup : baseVolume factoryStation 100000 7400000 29315 1125000 = 8076001 := by
  decide

/-- A grid line belongs to the lower cell (R62). -/
theorem test_grid_line : pressureIndex winterGrid 4000000 = 1 ∧ temperatureIndex winterGrid 29315 = 1 := by decide

/-- Eight times 900 µs apart, the newest 400 µs before the close 1 s from now. -/
def winterRing : List Time :=
  [2993300, 2994200, 2995100, 2996000, 2996900, 2997800, 2998700, 2999600]

def winter : State :=
  let s := withRun 0 .metering running
  { s with
    settings := { s.settings with
      active := { s.settings.active with
        station := { factoryStation with atmospheric := 101000 }
        run := s.settings.active.run.set 0 { gaugeRun with vpp := 250, mf := 1002500 }
        compress := winterGrid }
      heatingValue := 38500 }
    pulse := s.pulse.set 0 { freshPulse with count := ⟨1111, 0⟩, ring := ⟨winterRing, []⟩ }
    loop := { s.loop with
      p := s.loop.p.set 0 ⟨.valid, some 5000000, some 5000000, 0⟩
      t := s.loop.t.set 0 ⟨.valid, some 28315, some 28315, 0⟩ }
    recorder := { s.recorder with
      totals := s.recorder.totals.set 0 { freshTotals with base := 123456789012, baseResidue := 700 } } }

def winterClosed : State := left (exec (.boundary 1000000) winter)

theorem test_interval_results : winterClosed.conv.last.r0
    = some { gross := 278444, base := 15464947, energy := 595400460, ratio := 1106000, outOfTable := false } := by
  decide +kernel

theorem test_interval_residue : winterClosed.conv.residue.r0 = 375000 := by decide +kernel

theorem test_interval_rate : winterClosed.run.r0.last.map (·.rate) = some 1000000 := by decide +kernel

theorem test_interval_total : winterClosed.recorder.totals.r0.base = 123456804477
    ∧ winterClosed.recorder.totals.r0.baseResidue = 647 := by decide +kernel

/-- The trickle of chapter 4: 180 L/h, then the staleness rate, then 0 past the timeout; a ring of one time gives 0. -/
def trickleRing : List Time :=
  [0, 20000000, 40000000, 60000000, 80000000, 100000000, 120000000, 140000000]

theorem test_trickle : grossRate factoryRun trickleRing 140300000 = 180 ∧ grossRate factoryRun trickleRing 160300000 = 177
    ∧ grossRate factoryRun trickleRing 199300000 = 60 ∧ grossRate factoryRun trickleRing 200300000 = 0
    ∧ grossRate factoryRun [20000000] 20000001 = 0 := by decide

/-! ## The dose account and the trim, the worked figures of chapter 5 -/

/-- At 501,000 the account of 120,000 takes 185,579 µg and a stroke is scheduled; Q is 364,000,000. -/
theorem test_accrual : ((accrue 15464947 (withDose .auto .armed 120000 0 running)).dose.account,
    (accrue 15464947 (withDose .auto .armed 120000 0 running)).dose.residue,
    (accrue 15464947 (withDose .auto .armed 120000 0 running)).dose.state) = (305579, 364000000, .strokeWait) := by
  decide +kernel

theorem test_owed_with_trim : owedDividend 15464947 { running with dose := { running.dose with trim := 10156 } }
    = 188474402078400 := by decide

theorem test_trim : updatedTrim 10000 1200 1050 = 10156 ∧ updatedTrim 10156 1200 1300 = 10051
    ∧ updatedTrim 12400 1200 600 = 12500 := by decide

theorem test_trim_flags : trimFlag 4000 (withDose .auto .armed 0 0 running) = .implausible
    ∧ trimFlag 3600 (withDose .auto .armed 0 0 running) = .applied ∧ trimFlag 1050 running = .notAuto := by decide

/-! ## Monitors (R152, R154): equal to a limit does not set -/

theorem test_monitor_band :
    let c : MonitorSettings := { enabled := true, mode := .follow, low := 100, high := 200, critical := 300, hysteresis := 10 }
    (evaluated false c 200 clearedMonitor).high = false ∧ (evaluated false c 201 clearedMonitor).high = true
      ∧ (evaluated false c 191 { clearedMonitor with high := true }).high = true
      ∧ (evaluated false c 190 { clearedMonitor with high := true }).high = false := by decide

/-! ## Start -/

/-- POWER_ON of a factory-fresh part leaves the reset state. -/
theorem test_power_on_is_reset : left (exec (.powerOn 7) off) = State.reset := by
  decide +kernel

/-- The drive of a manual stroke takes its window from the active ODORANT copy. -/
theorem test_manual_stroke_reply :
    newestReply (left (exec (.manualStroke 0 7#8 [0x00#8]) (withDose .manual .idle 0 0 running)))
      = some ⟨0x96#8, 7#8, [0#8, 0#8] ++ bytesLE 4 2150 ++ bytesLE 4 3000⟩ := by decide +kernel

/-! ## The link (R179) -/

/-- The check of the nine digits, the known figure of this polynomial and initial value. -/
theorem test_crc_known : crc16 [0x31, 0x32, 0x33, 0x34, 0x35, 0x36, 0x37, 0x38, 0x39] = 0x29B1#16 := by decide +kernel

/-- A record of four runs is 243 bytes, and its reply frame has N = 246 (R189). -/
theorem test_record_length :
    (recordData (buildRecord ⟨.length, 60, 60000⟩ 4 (.all .out) 10000 0 freshRecorder)).length = 243
      ∧ (frameBody ⟨0x86#8, 0#8, 0#8 :: recordData (buildRecord ⟨.length, 60, 60000⟩ 4 (.all .out) 10000 0 freshRecorder)⟩).head?
        = some 246#8 := by decide +kernel

theorem test_report_lengths : (stationStatusData running).length = 50 ∧ (runStatusData 0 running).length = 109
    ∧ (doseStatusData running).length = 102 ∧ (monitorStatusData running).length = 114 := by decide +kernel

/-! ## The hypotheses of the statements are met, clause by clause -/

/-- Run 0 with its B check on, its counts, its alarm and its consecutive counts set. -/
def judged (a b events clean : Nat) (alarm : Bool) : State :=
  let s := withRun 0 .metering running
  { s with
    settings := { s.settings with active := { s.settings.active with
      run := s.settings.active.run.set 0 { factoryRun with bCheck := true } } }
    pulse := s.pulse.set 0
      { freshPulse with
        count := ⟨a, b⟩, consecutiveEvents := events, consecutiveClean := clean, integrityAlarm := alarm } }

def watched : State :=
  { running with settings := { running.settings with active := { running.settings.active with
      monitors := (running.settings.active.monitors.set 15 ⟨true, .latch, 500, 2000, 300, 50⟩).set 14
        ⟨true, .follow, 100, 500, 900, 50⟩ } } }

theorem meets_StepTakesFrontCommand :
    { running with pending := [.boundary 0] }.pending = .boundary 0 :: [] ∧ running.pending = [] := by decide

/-- An event ends with the store idle and an item listed, with the warning's RESUME write due, with a reply waiting, and with
a pair pending. -/
theorem meets_EventEndServes :
    (let listed : State := { running with store := { running.store with list := emptyWriteList.mark .ring } }
     listed.live = true ∧ listed.store.writing = none ∧ listed.store.warningResume = false
       ∧ listed.store.list.first? = some .ring)
      ∧ (let warned : State := { halted with store := { halted.store with warningResume := true } }
         warned.store.writing = none ∧ warned.store.warningResume = true ∧ warned.live = false)
      ∧ (let waiting : State := { running with link := { running.link with
           queue := [⟨0x81#8, 0#8, []⟩], notices := [⟨.run, 3⟩] } }
         waiting.time.restartDue = false ∧ waiting.link.tx = none ∧ (Notice.subjectInRange ⟨.run, 3⟩) = true) := by
  decide

theorem meets_TimePasses : off.time.phase = .off ∧ running.time.phase ≠ .off ∧ halted.time.phase = .halt
    ∧ running.live = true := by decide

/-- A valid resume record with no ring stored, and with a ring stored whose newest is the last close. -/
def resumable : State := { off with store := { off.store with resume := .valid (resumeContent running) } }

def recorded : State := left (exec (.periodClose 0 0#8 []) running)

/-- R99, R146: the resume record holds the records newer than the stored-through sequence and the drive age. -/
theorem test_resume_record :
    (let s : State := { recorded with
       recorder := { recorded.recorder with
         ring := recorded.recorder.ring.map (fun x => { x with sequence := 2 }) ++ recorded.recorder.ring
         storedThrough := (recorded.recorder.ring.map (·.sequence)).head? }
       dose := { recorded.dose with recentDrive := true, lastDrive := some 1500 } }
     (resumeContent s).unstored.map (·.sequence) = [2] ∧ (resumeContent s).driveAge = some 500
       ∧ (resumeContent recorded).driveAge = none ∧ (resumeContent recorded).unstored.length = 1) := by decide +kernel

def resumableRing : State := { off with store := { off.store with
  resume := .valid { resumeContent recorded with unstored := [] }, ring := .valid recorded.recorder.ring } }

/-- Stored STATION, run 0 and FLAGS items, with no valid resume record: without a ring, and with one. -/
def storedItems : State := { off with store := { off.store with
  sections := { off.store.sections with
    station := .valid { factoryStation with atmospheric := 101000 }
    run := off.store.sections.run.set 0 (.valid gaugeRun) }
  flags := .valid (.all true) } }

def storedRing : State := { storedItems with store := { storedItems.store with
  resume := .failing, ring := .valid recorded.recorder.ring } }

/-- Both rows of R149 without a resume record, and what is loaded of the settings. -/
theorem meets_PowerOnLoadsStore_settings :
    storedItems.time.phase = .off ∧ storedItems.pins.pfwHigh = true
      ∧ storedItems.store.sections.station = .valid { factoryStation with atmospheric := 101000 }
      ∧ storedItems.store.sections.run.get 0 = .valid gaugeRun ∧ storedItems.store.sections.run.get 1 = .absent
      ∧ storedItems.store.sections.odorant = .absent ∧ storedItems.store.flags = .valid (.all true)
      ∧ storedItems.store.ring = .absent ∧ storedItems.store.resume = .absent
      ∧ storedRing.store.resume = .failing ∧ storedRing.store.ring = .valid recorded.recorder.ring := by decide +kernel

/-- R149: a valid ring and an invalid resume record: the ring is kept, no POWER record is put on it. -/
theorem test_power_on_ring_only :
    (let t := left (exec (.powerOn 0) storedRing)
     t.recorder.ring = recorded.recorder.ring ∧ t.recorder.lastSequence = recorded.recorder.lastSequence
       ∧ t.settings.heatingValue = 38000 ∧ t.settings.defaulted.station = false
       ∧ t.settings.defaulted.odorant = true ∧ t.settings.protection.station = true) := by decide +kernel

theorem meets_PowerOnLoadsStore : resumable.time.phase = .off ∧ resumable.pins.pfwHigh = true
    ∧ resumable.store.resume = .valid (resumeContent running) ∧ resumable.store.ring = .absent
    ∧ resumableRing.time.phase = .off
    ∧ resumableRing.store.resume = .valid { resumeContent recorded with unstored := [] }
    ∧ consecutive recorded.recorder.ring = true
    ∧ recorded.recorder.ring.head?.map (·.sequence) = recorded.recorder.lastSequence
    ∧ recorded.recorder.ring.length = 1 := by decide +kernel

/-- R148: 48 unstored records past a gap give a ring that is tested without the stored record beyond the newest 48. -/
theorem test_gap_beyond_ring :
    (let records : List PeriodRecord := (List.range 49).map fun n =>
       { buildRecord ⟨.length, 60, 60000⟩ 1 (.all .out) 10000 0 freshRecorder with
         sequence := BitVec.ofNat 32 (if n < 48 then 100 - n else 7) }
     (loadRing (.valid (records.drop 48)) (.valid { resumeContent running with
       unstored := records.take 48, lastSequence := some 100 })).storedThrough = some 7) := by decide +kernel

/-- The flags being written. -/
def writing : State :=
  { running with store := { running.store with
      writing := some { content := .flags (.all false), left := 0, stale := false } } }

/-- A warning with the store idle and with a write in progress; the edges in HALT, while the part runs, and with power off,
supply present or absent, PFW low. -/
theorem meets_PfwEdgesTaken : (running.elapse 5).live = true ∧ (running.elapse 5).store.writing = none
    ∧ (writing.elapse 5).live = true ∧ (writing.elapse 5).store.writing.isSome = true
    ∧ (halted.elapse 1).time.phase = .halt ∧ (halted.elapse 1).live = false
    ∧ (off.elapse 1).time.phase = .off ∧ (off.elapse 1).pins.supply = true
    ∧ ({ off with pins := { off.pins with supply := false, pfwHigh := false } } : State).pins.supply = false := by decide

/-- A part that waits for PFW: POWER_ON with PFW low leaves it off, and the rise starts it. -/
theorem test_power_on_waits_for_pfw :
    (let low : State := { off with pins := ⟨false, false, .closed⟩ }
     let waits := left (exec (.powerOn 0) low)
     waits.time.phase = .off ∧ waits.pins = ⟨true, false, .closed⟩
       ∧ (left (exec (.pfwRise 0) waits)).time.phase = .warmup
       ∧ (left (exec (.pfwRise 0) (left (exec (.lossOfSupply 0) waits)))).time.phase = .off) := by decide +kernel

theorem meets_RestartAnsweredAndBegun :
    running.takes = true
      ∧ (let a : State := { running with time := { running.time with restartDue := true } }
         (a.elapse 0).time.phase = .running ∧ (a.elapse 0).time.restartDue = true)
      ∧ (let b : State := { halted with time := { halted.time with riseHeld := true } }
         (b.elapse 0).time.phase = .halt ∧ (b.elapse 0).time.riseHeld = true ∧ (b.elapse 0).store.writing = none
           ∧ (b.elapse 0).store.warningResume = false)
      ∧ (let a : State := { winter with time := { winter.time with restartDue := true } }
         (a.elapse 5000).time.phase = .running ∧ (a.elapse 5000).age = 5 ∧ Computed (a.elapse 5000) 0)
      ∧ (winter.run.get 0).state ≠ .out ∧ winter.fitted 0 = true := by decide

/-- R163, R172, R176: an unstored FLAGS item being written at a restart is listed again and its write clears the mark. -/
theorem test_restart_keeps_write_good :
    (let s : State := { writing with
       time := { writing.time with restartDue := true }, settings := { writing.settings with flagsUnstored := true } }
     let t := left (exec (.restartBegin 0) s)
     t.store.list.flags = true ∧ t.store.writing.map (·.stale) = some false
       ∧ (left (exec (.storeWriteComplete 0) t)).settings.flagsUnstored = false) := by decide +kernel

/-- The copy of run 2 being written, and that of STATION. -/
def writingCopy (c : StoreContent) : State :=
  { running with store := { running.store with writing := some { content := c, left := 0, stale := false } } }

/-- A write of a section's copy completes, or is cut short: that copy alone changes. -/
theorem test_section_copies :
    (let a := left (exec (.storeWriteComplete 0) (writingCopy (.run 2 gaugeRun)))
     let b := left (exec (.lossOfSupply 0) (writingCopy (.run 2 gaugeRun)))
     a.store.sections = { factoryStore.sections with run := factoryStore.sections.run.set 2 (.valid gaugeRun) }
       ∧ b.store.sections = { factoryStore.sections with run := factoryStore.sections.run.set 2 .failing }
       ∧ (left (exec (.storeWriteComplete 0) (writingCopy (.station factoryStation)))).store.sections
         = { factoryStore.sections with station := .valid factoryStation }) := by decide +kernel

theorem meets_LossOfSupplyKeepsStore : running.time.phase ≠ .off ∧ running.store.writing = none
    ∧ writing.time.phase ≠ .off ∧ writing.store.writing.isSome = true ∧ writing.live = true
    ∧ (writingCopy (.run 2 gaugeRun)).store.writing.map (·.content.item) = some (.sectionCopy (.run 2))
    ∧ halted.time.phase = .halt ∧ off.time.phase = .off ∧ off.pins.supply = true := by decide

/-- The three commands that make a boundary: the interval timer's at its time, and the forced closes at an age of 1 ms. -/
theorem meets_MakesBoundary : MakesBoundary (.boundary 1000000) winter (winter.elapse 1000000)
    ∧ MakesBoundary (.periodClose 1000 7#8 []) winter (winter.elapse 1000)
    ∧ MakesBoundary (.closePeriodEntryDue 1000 3) (withEntry (linkEntry .closePeriod 0)) (running.elapse 1000) := by
  refine ⟨.inl ⟨_, rfl, rfl, ?_, ?_⟩, .inr (.inl ⟨_, _, rfl, rfl, ?_, ?_⟩),
    .inr (.inr ⟨_, _, _, linkEntry .closePeriod 0, rfl, rfl, ?_, ?_, ?_, ?_, ?_, ?_⟩)⟩ <;> decide +kernel

/-- A boundary that leaves the period open, one of the timer that closes it, and a forced one. -/
theorem meets_closesPeriod : closesPeriod (.boundary 1000000) (winter.elapse 1000000) = false
    ∧ closesPeriod (.boundary 1000000)
        (({ winter with time := { winter.time with periodCount := 3599 } } : State).elapse 1000000) = true
    ∧ closesPeriod (.periodClose 1000 7#8 []) (winter.elapse 1000) = true := by decide

/-- A close with the store idle and with an item in progress, the PERIOD class enabled and not, stray edges counted, pump B fitted
and not, and a staged heating value. -/
theorem meets_PeriodClosed : running.store.writing = none ∧ writing.store.writing.isSome = true
    ∧ running.settings.active.station.enables.period = true ∧ running.age = 0 ∧ running.takes = true
    ∧ (left (exec (.periodClose 0 7#8 []) writing)).store.list.resume = true
    ∧ (left (exec (.periodClose 0 7#8 []) running)).store.list.ring = true
    ∧ (left (exec (.periodClose 0 7#8 [])
        (withPump .a { freshPump .ready with strays := 2 } running))).pump.a.strays = 0
    ∧ running.pumpIsFitted .b = true
    ∧ ({ running with settings := { running.settings with build := { factoryBuild with pumps := 1 } } }).pumpIsFitted .b
        = false
    ∧ (left (exec (.boundary 1000000) { running with settings := { running.settings with
        stagedHeatingValue := some 39000 } })).store.writing.map (·.content.item) = some .resume := by decide +kernel

/-- An interval short of the period length, and one that reaches it. -/
theorem meets_BoundaryEndsInterval :
    (let u := running.elapse 1000000
     u.time.phase = .running ∧ reached (u.time.intervalStart + 1000) u.now = true ∧ 0 < u.settings.build.runs
       ∧ u.time.periodCount + 1 < u.settings.active.station.periodLength)
      ∧ (let s : State := { running with time := { running.time with periodCount := 3599 } }
         let u := s.elapse 1000000
         u.time.phase = .running ∧ reached (u.time.intervalStart + 1000) u.now = true
           ∧ u.settings.active.station.periodLength = u.time.periodCount + 1) := by decide

/-- A STARTING run with a settle count of 2, and with 1, its channels good. -/
def starting (settle : Nat) : State :=
  { winter with run := winter.run.set 0 { winter.run.get 0 with state := .starting, settle := settle } }

theorem test_settling :
    ((left (exec (.boundary 1000000) (starting 2))).run.get 0).state = .starting
      ∧ ((left (exec (.boundary 1000000) (starting 1))).run.get 0).state = .metering
      ∧ 1 < ((starting 2).run.get 0).settle ∧ ((starting 1).run.get 0).settle ≤ 1 := by decide +kernel

def stagedOdorant : State :=
  { running with settings := { running.settings with
      staged := { running.settings.staged with odorant := some factoryOdorant } } }

/-- A RUN copy that turns the B check off, and a MONITORS copy that disables one monitor, changes the mode of another and
leaves a third. -/
theorem meets_BoundaryAppliesStaged :
    (stagedOdorant.elapse 1000000).time.phase = .running
      ∧ reached ((stagedOdorant.elapse 1000000).time.intervalStart + 1000) (stagedOdorant.elapse 1000000).now = true
      ∧ (stagedMarks (stagedOdorant.elapse 1000000).settings.staged).odorant = true
      ∧ stagedOdorant.settings.staged.monitors = none
      ∧ (let s := judged 10 7 2 0 true
         (s.settings.active.run.get 0).bCheck = true ∧ factoryRun.bCheck = false ∧ (s.pulse.get 0).integrityAlarm = true)
      ∧ (let was := watched.settings.active.monitors
         let is := (was.set 15 factoryMonitor).set 4 { (was.get 4) with mode := .criticalOnly }
         (was.get 15).enabled = true ∧ (is.get 15).enabled = false ∧ (is.get 4).mode ≠ (was.get 4).mode) := by decide

/-- A MONITORS copy staged, with M0 and M14 enabled in the copy active during the interval, and an ODORANT copy or not. -/
def watchedStaged (is : MonitorsSection) (copy : Option OdorantSection) : State :=
  withDose .auto .armed 300000 0 { winter with settings := { winter.settings with
    active := { winter.settings.active with
      monitors := (winter.settings.active.monitors.set 0 ⟨true, .criticalOnly, 100, 500000, 9000000, 50⟩).set 14
        ⟨true, .follow, 50, 500, 900, 20⟩ }
    staged := { noneStaged with monitors := some is, odorant := copy } } }

/-- A copy that turns M0, whose HIGH the close's rate of 1,000,000 L/h sets, to LATCH, and keeps M14. -/
def latching : MonitorsSection :=
  (Sixteen.set (.all factoryMonitor) 0 ⟨true, .latch, 100, 2000000, 9000000, 50⟩).set 14
    ⟨true, .follow, 50, 500, 900, 20⟩

/-- R96, R150, R157: the close evaluates M0 and M14 by the old copies; then the new MONITORS copy sets the latch of M0 with a
LIMIT notice, and the new cap of ODORANT does not evaluate M14 again. -/
theorem test_staged_copies_at_boundary :
    (let s := watchedStaged latching none
     let t := left (exec (.boundary 1000000) s)
     t.monitors.each.get 0 = ⟨false, true, false, true, true, some 1000000⟩
       ∧ ((t.monitors.each.get 14).last = some 97 ∧ (t.monitors.each.get 14).event = false)
       ∧ noticeGiven .limit 0 (s.elapse 1000000) t = true)
      ∧ (let t := left (exec (.boundary 1000000) (watchedStaged latching (some { factoryOdorant with debtLimit := 1 })))
         t.dose.account = 250000 ∧ (t.monitors.each.get 14).last = some 97)
      ∧ (let t := left (exec (.boundary 1000000) (watchedStaged (.all factoryMonitor) none))
         t.monitors.each.get 0 = clearedMonitor ∧ t.monitors.each.get 14 = clearedMonitor) := by decide +kernel

/-- The evaluations at a boundary with staged copies: M0 of a computed run, M14 enabled, and a disabled M0. -/
theorem meets_MonitorLeft :
    (let u := (watchedStaged latching (some { factoryOdorant with debtLimit := 1 })).elapse 1000000
     u.time.phase = .running ∧ reached (u.time.intervalStart + 1000) u.now = true ∧ standing 0 u = .evaluated
       ∧ u.settings.staged.monitors = some latching ∧ u.settings.staged.odorant.isSome = true
       ∧ (u.settings.active.monitors.get 14).enabled = true ∧ Computed u 0
       ∧ (latching.get 0).mode = .latch ∧ (u.settings.active.monitors.get 0).mode ≠ .latch) := by decide

/-- A request taken at age 0 and at age 1 ms, and a CLOSE_PERIOD entry due. -/
theorem meets_ForcedCloses : (running.elapse 0).takes = true ∧ (running.elapse 0).age = 0
    ∧ (running.elapse 1000).age = 1
    ∧ ((withEntry (linkEntry .closePeriod 0)).elapse 0).table.at 3 = some (linkEntry .closePeriod 0)
    ∧ reached (linkEntry .closePeriod 0).due running.now = true := by decide

/-- A run computed and a run not computed at a boundary, for the statements about the interval close. -/
theorem meets_interval_close :
    (let u := winter.elapse 1000000
     u.time.phase = .running ∧ reached (u.time.intervalStart + 1000) u.now = true ∧ u.fitted 0 = true
       ∧ (u.run.get 0).state ≠ .out ∧ (u.run.get 1).state = .out ∧ (u.run.get 1).closedInInterval = false
       ∧ u.fitted 1 = true
       ∧ u.settings.staged.odorant = none ∧ u.settings.staged.run.get 0 = none ∧ u.settings.staged.monitors = none
       ∧ u.time.periodCount + 1 < u.settings.active.station.periodLength)
      ∧ (let s : State := { winter with time := { winter.time with periodCount := 3599 } }
         (s.elapse 1000000).settings.active.station.periodLength ≤ (s.elapse 1000000).time.periodCount + 1) := by decide

/-- A whole stroke owed to a READY pump, with and without a recent drive; an ODORANT copy whose cap is below the account. -/
theorem meets_SchedulingAndOdorantCopy :
    (let v := withDose .auto .armed 300000 0 running
     v.dose.mode = .auto ∧ v.dose.state = .armed ∧ (v.pump.get v.dose.duty).state = .ready
       ∧ v.odorant.strokeMass ≤ v.dose.account ∧ v.table.at 0 = none ∧ v.table.places.length = 8
       ∧ v.dose.recentDrive = false)
      ∧ (let c : OdorantSection := { factoryOdorant with debtLimit := 1 }
         let s := withDose .auto .armed 300000 0 { running with settings := { running.settings with
           staged := { running.settings.staged with odorant := some c } } }
         (s.elapse 1000000).time.phase = .running ∧ (s.elapse 1000000).settings.staged.odorant = some c
           ∧ reached ((s.elapse 1000000).time.intervalStart + 1000) (s.elapse 1000000).now = true
           ∧ c.debtLimit * c.strokeMass < 300000 ∧ c.valid = true) := by decide

/-- The third event sets the alarm, a difference equal to the tolerance is clean, the 60th clean interval ends the alarm. -/
theorem test_integrity :
    (left (exec (.boundary 1000000) (judged 10 7 2 0 false))).pulse.r0.integrityAlarm = true
      ∧ (left (exec (.boundary 1000000) (judged 10 8 2 0 false))).pulse.r0.integrityAlarm = false
      ∧ (left (exec (.boundary 1000000) (judged 10 8 0 59 true))).pulse.r0.integrityAlarm = false
      ∧ (left (exec (.boundary 1000000) (judged 10 8 0 58 true))).pulse.r0.integrityAlarm = true := by decide +kernel

/-- A RUN copy staged for run 0, with its B check on or off. -/
def judgedStaged (bCheck : Bool) (s : State) : State :=
  { s with settings := { s.settings with staged := { noneStaged with
      run := noneStaged.run.set 0 (some { factoryRun with bCheck := bCheck, tolerance := 200 }) } } }

/-- R25: the interval is judged by the old copy; a copy that turns the B check off then clears the alarm that the third event has
set, and one that leaves it on keeps it. -/
theorem test_integrity_with_staged_copy :
    (left (exec (.boundary 1000000) (judgedStaged true (judged 10 7 2 0 false)))).pulse.r0.integrityAlarm = true
      ∧ (let s := judgedStaged false (judged 10 7 2 0 false)
         let t := left (exec (.boundary 1000000) s)
         t.pulse.r0.integrityAlarm = false ∧ t.pulse.r0.consecutiveEvents = 0
           ∧ noticeGiven .run 0 (s.elapse 1000000) t = true) := by decide +kernel

theorem meets_IntegrityJudged : ((judged 10 7 2 0 false).elapse 1000000).time.phase = .running
    ∧ ((judged 10 7 2 0 false).elapse 1000000).fitted 0 = true
    ∧ (((judged 10 7 2 0 false).elapse 1000000).run.get 0).state ≠ .out
    ∧ ((judged 10 7 2 0 false).settings.active.run.get 0).tolerance < max 10 7 - min 10 7
    ∧ ((judged 10 7 2 0 false).pulse.get 0).consecutiveEvents + 1 = 3
    ∧ ((judged 10 8 0 59 true).pulse.get 0).consecutiveClean + 1 = 60
    ∧ ((judgedStaged false (judged 10 8 0 59 true)).settings.staged.run.get 0).map (·.bCheck) = some false
    ∧ ((judgedStaged true (judged 10 7 2 0 false)).settings.staged.run.get 0).map (·.bCheck) = some true
    ∧ ((judged 10 8 0 59 true).pulse.get 0).integrityAlarm = true
    ∧ ¬ (2 < max 10 8 - min 10 8) := by decide

/-- A channel fails: HOLD with a last good value, and FALLBACK. -/
theorem meets_IntervalEntry_substitutes :
    (let s : State := { winter with loop := { winter.loop with p := winter.loop.p.set 0 ⟨.failed, some 3, some 7, 0⟩ } }
     ((s.loop.p.get 0).state = .failed ∧ (s.settings.active.run.get 0).policy = .hold
       ∧ (s.loop.p.get 0).lastGood = some 7) ∧ (s.loop.t.get 0).state ≠ .failed
       ∧ (s.loop.t.get 0).latest = some 28315 ∧ (s.loop.p.get 1).lastGood = none) := by decide

/-- A pressure and a temperature inside a cell, and at the bottom of the grid (R63). -/
theorem meets_RatioWithinGrid :
    winterGrid.pressures.nth 2 < 5000000 ∧ 5000000 ≤ winterGrid.pressures.nth 3
      ∧ winterGrid.temperatures.nth 1 < 28315 ∧ 28315 ≤ winterGrid.temperatures.nth 2
      ∧ winterGrid.pressures.nth 0 = 1000000 ∧ winterGrid.temperatures.nth 0 = 26315 := by decide

theorem meets_grid : winterGrid.valid = true ∧ 7000000 ≤ winterGrid.pressures.c4 ∧ 30815 ≤ winterGrid.temperatures.r3 := by
  decide

/-- An age of 0, an age equal to the timeout, an age above it, and a ring of one time. -/
theorem meets_GrossRateFromRing :
    (let c := factoryRun
     trickleRing.head? = some 0 ∧ trickleRing.getLast? = some 140000000 ∧ 2 ≤ trickleRing.length
       ∧ ((140000000 : Time) - 140000000).toNat = 0
       ∧ ((200000000 : Time) - 140000000).toNat = c.zeroFlowTimeout * 1000000
       ∧ c.zeroFlowTimeout * 1000000 < ((200000001 : Time) - 140000000).toNat
       ∧ ([5] : List Time).length < 2) := by decide

/-- An edge at the instant its hold-off of 50 µs ends, and one a µs before. -/
def heldOff : State :=
  { running with pulse := running.pulse.set 0 { freshPulse with holdOff := ⟨some 1999950, none⟩ } }

theorem meets_PulseEdgeRouted : (heldOff.elapse 0).live = true ∧ (heldOff.elapse 0).fitted 0 = true
    ∧ ((heldOff.elapse 0).pulse.get 0).holdOff.get .a = some 1999950
    ∧ 50 ≤ ((heldOff.elapse 0).time.captureClock - 1999950).toNat
    ∧ ((heldOff.elapse 0).time.captureClock - 1999951).toNat < 50
    ∧ (heldOff.pulse.get 0).holdOff.get .b = none := by decide

/-- Commands whose events cannot happen: before their instant, in HALT, for what is not fitted, and with nothing in progress. -/
theorem meets_Happens_not :
    ¬ Happens (running.elapse 999999) (.boundary 999999) ∧ ¬ Happens (State.reset.elapse 1999999) (.warmupEnd 1999999)
      ∧ ¬ Happens (halted.elapse 5) (.senseEdge 5 .a) ∧ ¬ Happens (halted.elapse 5) (.pulseEdge 5 0 .a)
      ∧ ¬ Happens (running.elapse 0) (.conversionCompletion 0 4000)
      ∧ ¬ Happens ((withEntry { strokeEntry with due := 2001 }).elapse 0) (.strokeEntryDue 0 3)
      ∧ ¬ Happens ({ running with sense := ⟨some 1, none⟩ }.elapse 0) (.senseEdge 0 .a)
      ∧ ¬ Happens (running.elapse 0) (.storeWriteComplete 0) ∧ ¬ Happens (halted.elapse 0) (.ident 0 0#8 [])
      ∧ ¬ Happens (running.elapse 0) (.receiveTimeout 0 ⟨[⟨0, 0xB7#8⟩], 20000⟩) := by
  refine ⟨?_, ?_, ?_, ?_, ?_, ?_, ?_, ?_, ?_, ?_⟩
  · unfold Happens; decide
  · unfold Happens; decide
  · unfold Happens; decide
  · exact fun h => absurd h.1 (by decide)
  · rintro ⟨_, c, h⟩
    cases h
  · rintro ⟨_, e, h, _, d⟩
    have : (withEntry { strokeEntry with due := 2001 }).table.at 3 = some { strokeEntry with due := 2001 } := by decide
    cases this.symm.trans h
    revert d
    decide
  · unfold Happens; decide
  · rintro ⟨_, w, h, _⟩
    cases h
  · unfold Happens; decide
  · exact fun h => absurd h.2 (by decide)

/-- R35: an edge inside the 5 ms of its line's hold-off neither counts nor lengthens it; R6: no boundary before its time. -/
theorem test_early_commands_do_nothing :
    (let held : State := { running with sense := ⟨some 1, none⟩ }
     left (exec (.senseEdge 0 .a) held) = held.elapse 0)
      ∧ left (exec (.boundary 999000) running) = running.elapse 999000 := by decide +kernel

/-- At 2,000 ms the warm-up end is reached, at 1,999 ms not yet; and each mark at its end. -/
theorem meets_TimedEndsTaken : ((State.reset.elapse 2000000).time.phase = .warmup
    ∧ reached (State.reset.elapse 2000000).time.warmupEnd (State.reset.elapse 2000000).now = true
    ∧ 0 < (State.reset.elapse 2000000).settings.build.runs
    ∧ reached (State.reset.elapse 1999999).time.warmupEnd (State.reset.elapse 1999999).now = false)
    ∧ (let s : State := { running with
         dose := { running.dose with recentDrive := true, lastDrive := some 2000, trimHoldOff := some 2000 }
         sense := ⟨some 5000, none⟩ }
       (heldOff.elapse 0).time.phase ≠ .off ∧ 50 ≤ ((heldOff.elapse 0).time.captureClock - 1999950).toNat
         ∧ (s.elapse 5000).sense.get .a = some 0
         ∧ (s.elapse 60000000).dose.lastDrive = some 2000
         ∧ reached ((2000 : Time) + 60000) (s.elapse 60000000).now = true
         ∧ reached ((2000 : Time) + 60000) (s.elapse 59999999).now = false
         ∧ (s.elapse 0).dose.trimHoldOff = some 2000 ∧ reached 2000 (s.elapse 0).now = true) := by decide

/-- Each zone at its ends. -/
theorem meets_ReadingByZone : (rangeOf factorySections .tank).1 ≤ (rangeOf factorySections .tank).2
    ∧ reading factorySections .tank 4000 = some (.valid, 0) ∧ reading factorySections .tank 20000 = some (.valid, 10000)
    ∧ reading factorySections .tank 3999 = some (.clampedLow, 0) ∧ reading factorySections .tank 3799 = none
    ∧ reading factorySections .tank 20500 = some (.clampedHigh, 10000) ∧ reading factorySections .tank 20501 = none := by
  decide

def converting (c : ChannelId) (s : State) : State := { s with loop := { s.loop with converter := .converting c 25000 } }

theorem meets_ConversionCompletes : (State.reset.elapse 25000).live = true
    ∧ (State.reset.elapse 25000).loop.converter = .converting (.p 0) 0
    ∧ ((converting .tank running).elapse 25000).loop.converter = .converting .tank 0
    ∧ ((converting .hdr running).elapse 25000).loop.converter = .converting .hdr 0
    ∧ ((converting (.t 1) running).elapse 25000).loop.converter = .converting (.t 1) 0 ∧ running.fitted 2 = true
    ∧ ((converting (.t 3) running).elapse 25000).loop.converter = .converting (.t 3) 0 ∧ running.fitted 3 = true
    ∧ ((converting .tank State.reset).elapse 25000).time.phase = .warmup
    ∧ 0 < State.reset.settings.build.runs := by decide

/-- A METERING run whose T has failed, and one whose T is good, as a P completes; an OUT run. -/
theorem meets_RunFollowsChannels :
    (let s := converting (.p 0) (withRun 0 .metering running)
     (s.elapse 25000).loop.converter = .converting (.p 0) 0 ∧ ((s.elapse 25000).run.get 0).state = .metering
       ∧ ((s.elapse 25000).run.get 1).state = .out
       ∧ ((left (exec (.conversionCompletion 25000 12000) s)).run.get 0).state = .degraded
       ∧ ((left (exec (.conversionCompletion 25000 12000) (converting (.p 0) winter))).run.get 0).state = .metering) := by
  decide +kernel

/-- Monitors 3, 7 and 12 enabled. -/
def watching : State :=
  { running with settings := { running.settings with active := { running.settings.active with
      monitors := ((running.settings.active.monitors.set 3 ⟨true, .follow, 100, 500, 900, 50⟩).set 7
        ⟨true, .follow, 100, 500, 900, 50⟩).set 12 ⟨true, .follow, 100, 500, 900, 50⟩ } } }

/-- Each standing (R151), and the line ALARM on for each of its causes and off in HALT (R158). -/
theorem meets_standing_and_alarm : standing 0 watching = .disabled ∧ standing 3 watching = .runOut
    ∧ standing 3 { watching with settings := { watching.settings with build := { factoryBuild with runs := 3 } } }
        = .notFitted
    ∧ standing 12 { watching with loop := { watching.loop with hdr := ⟨.failed, some 3, some 7, 0⟩ } } = .inputFailed
    ∧ standing 12 { watching with loop := { watching.loop with hdr := ⟨.valid, some 3, some 3, 0⟩ } } = .evaluated
    ∧ standing 7 (withRun 3 .metering { watching with loop :=
        { watching.loop with p := watching.loop.p.set 3 ⟨.clampedLow, some 3, some 7, 0⟩ } }) = .evaluated
    ∧ standing 7 (withRun 3 .metering { watching with loop :=
        { watching.loop with p := watching.loop.p.set 3 ⟨.failed, some 3, some 7, 0⟩ } }) = .inputFailed
    ∧ running.alarm = false ∧ (withPump .b (freshPump .failed) running).alarm = true
    ∧ (withPump .b (freshPump .failed) halted).alarm = false ∧ (withDose .auto .fault 0 0 running).alarm = true
    ∧ ({ running with monitors := { running.monitors with
        each := running.monitors.each.set 9 { clearedMonitor with event := true } } }).alarm = true := by
  decide +kernel

theorem meets_monitor_evaluation : standing 15 watched = .evaluated ∧ standing 14 watched = .evaluated
    ∧ ((watched.settings.active.monitors.get 15).valid (lowSense 15)) = true
    ∧ ((watched.settings.active.monitors.get 14).valid (lowSense 14)) = true
    ∧ watched.settings.active.station.enables.critical = true := by decide

/-- A sense edge that confirms: the pump in AWAIT, and in DRIVING, in CONFIRM_WAIT and in MANUAL_WAIT. -/
theorem meets_SenseEdgeConfirms : (awaiting.elapse 0).live = true ∧ (awaiting.elapse 0).pumpIsFitted .a = true
    ∧ (awaiting.elapse 0).sense.get .a = none ∧ ((awaiting.elapse 0).pump.get .a).state = .await
    ∧ (awaiting.elapse 0).table.any (isConfirmOf .a) = true ∧ (awaiting.elapse 0).dose.state = .confirmWait
    ∧ ((withPump .a driving awaiting).pump.get .a).state = .driving
    ∧ (withDose .manual .manualWait 0 250000 awaiting).table.any (isConfirmOf .a) = true := by decide

/-- A sense edge that is stray, below the limit and at it, on the duty pump with the other READY and not READY. -/
theorem meets_SenseEdgeStray :
    (running.elapse 0).live = true ∧ (running.elapse 0).sense.get .a = none ∧ (running.pump.get .a).state = .ready
      ∧ (running.pump.get .a).strays + 1 < running.odorant.strayLimit
      ∧ running.odorant.strayLimit ≤ ((withPump .a { freshPump .ready with strays := 2 } running).pump.get .a).strays + 1
      ∧ running.dose.duty = .a ∧ (running.pump.get .b).state = .ready
      ∧ ((withPump .b (freshPump .failed) running).pump.get .b).state ≠ .ready
      ∧ (withPump .a driving running).table.any (isConfirmOf .a) = false := by decide

theorem meets_DriveEnds :
    (let s := withPump .a driving running
     (s.elapse 0).live = true ∧ ((s.elapse 0).pump.get .a).driveEnd = some 2000 ∧ reached 2000 (s.elapse 0).now = true
       ∧ ((s.elapse 0).pump.get .a).state = .driving ∧ ((s.elapse 0).pump.get .a).confirmedInDrive = false
       ∧ ((withPump .b { driving with confirmedInDrive := true } s).pump.get .b).confirmedInDrive = true
       ∧ ((withPump .a { driving with state := .failed } s).pump.get .a).driveEnd = some 2000) := by decide

theorem meets_StrokeEntryStartsDrive :
    (let s := withDose .auto .strokeWait 300000 250000 (withEntry strokeEntry)
     (s.elapse 0).live = true ∧ (s.elapse 0).table.at 3 = some strokeEntry ∧ strokeEntry.owner = .dosing
       ∧ strokeEntry.kind = .stroke ∧ reached strokeEntry.due (s.elapse 0).now = true
       ∧ side? strokeEntry.target = some .a ∧ ((s.elapse 0).pump.get .a).state = .ready
       ∧ driveEnded .b (s.elapse 0) = false
       ∧ ((withPump .b { driving with state := .failed } s).pump.get .b).driveEnd = some 2000
       ∧ reached 2000 (s.elapse 0).now = true
       ∧ ((withPump .a (freshPump .failed) s).pump.get .a).state ≠ .ready) := by decide

/-- R104: a STROKE entry due at the instant the other pump's drive ends, that drive first. -/
theorem test_stroke_entry_ends_other_drive :
    (let s := withPump .b { driving with state := .failed } (withDose .auto .strokeWait 300000 250000 (withEntry strokeEntry))
     let t := left (exec (.strokeEntryDue 0 3) s)
     t.pump.b.line = false ∧ t.pump.b.driveEnd = none ∧ t.pump.a.line = true ∧ t.pump.a.state = .driving) := by
  decide +kernel

/-- A miss below the limit and at it, on the duty pump with the other READY and not READY, and of a manual stroke. -/
theorem meets_ConfirmEntryMissesStroke :
    (awaiting.elapse 0).table.at 3 = some confirmEntry ∧ confirmEntry.kind = .confirm
      ∧ reached confirmEntry.due (awaiting.elapse 0).now = true ∧ side? confirmEntry.target = some .a
      ∧ ((awaiting.elapse 0).pump.get .a).state = .await ∧ driveEnded .a (awaiting.elapse 0) = false
      ∧ driveEnded .a ((withPump .a driving awaiting).elapse 0) = true ∧ driving.confirmedInDrive = false
      ∧ driveEnded .a ((withPump .a (freshPump .ready) awaiting).elapse 0) = false
      ∧ (awaiting.pump.get .a).misses + 1 < awaiting.odorant.missLimit
      ∧ awaiting.odorant.missLimit ≤ (({ freshPump .await with misses := 2 } : Pump)).misses + 1
      ∧ awaiting.dose.duty = .a ∧ (awaiting.pump.get .b).state = .ready
      ∧ ((withPump .b (freshPump .failed) awaiting).pump.get .b).state ≠ .ready
      ∧ (withDose .manual .manualWait 0 250000 awaiting).dose.state = .manualWait
      ∧ driveEnded .a ((withPump .a { driving with state := .failed } awaiting).elapse 0) = true
      ∧ driveEnded .a ((withPump .a { driving with confirmedInDrive := true } awaiting).elapse 0) = true := by decide

/-- A CONFIRM entry whose pump has FAILED misses nothing: the drive that has reached its end is ended, the entry is gone. -/
theorem test_confirm_entry_of_failed_pump :
    (let s := withPump .a { driving with state := .failed } awaiting
     let t := left (exec (.confirmEntryDue 0 3) s)
     t.pump.a = { freshPump .failed with line := false } ∧ t.table.at 3 = none ∧ t.dose = s.dose
       ∧ t.recorder = s.recorder) := by decide +kernel

theorem meets_AuxAndTimerEntries :
    ((withEntry (linkEntry .auxOn 1)).elapse 0).table.at 3 = some (linkEntry .auxOn 1) ∧ aux? 1 = some .a
      ∧ ((withEntry (linkEntry .auxOff 2)).elapse 0).table.at 3 = some (linkEntry .auxOff 2) ∧ aux? 2 = some .b
      ∧ ((withEntry (linkEntry .timerNotice 255)).elapse 0).live = true
      ∧ reached (linkEntry .auxOn 1).due (running.elapse 0).now = true := by decide

/-- SCHEDULE with the shortest and the longest delay, the table with five LINK entries of six; CANCEL of a LINK entry. -/
theorem meets_ScheduleAndCancel :
    (running.elapse 0).takes = true ∧ linkTarget .auxOn 2 = true ∧ linkTarget .timerNotice 255 = true
      ∧ (let s : State := { running with table := { running.table with places :=
          [some (linkEntry .auxOn 1), some (linkEntry .auxOn 1), some (linkEntry .auxOn 1), some (linkEntry .auxOn 1),
            some (linkEntry .auxOn 1), none, none, none] } }
         s.table.count isLink = 5 ∧ s.table.places.length = 8 ∧ s.table.count (fun _ => true) < 8
           ∧ s.table.at 4 = some (linkEntry .auxOn 1) ∧ (linkEntry .auxOn 1).owner = .link)
      ∧ (let s : State := { running with table := { running.table with places :=
          [some (linkEntry .auxOn 1), some (linkEntry .auxOn 1), some (linkEntry .auxOn 1), some (linkEntry .auxOn 1),
            some (linkEntry .auxOn 1), some (linkEntry .auxOn 1), some confirmEntry, none] } }
         s.takes = true ∧ 6 ≤ s.table.count isLink ∧ s.table.at 6 = some confirmEntry ∧ confirmEntry.owner = .dosing
           ∧ s.table.at 7 = none) := by decide

theorem meets_StoreWriteCompletes : (writing.elapse 0).time.phase ≠ .off
    ∧ (writing.elapse 0).store.writing = some { content := .flags (.all false), left := 0, stale := false }
    ∧ (writing.elapse 0).live = true ∧ (writing.elapse 0).store.warningResume = false
    ∧ (writing.elapse 0).store.list.first? = none
    ∧ ((writingCopy (.station factoryStation)).elapse 0).store.writing.map (·.content) = some (.station factoryStation) := by
  decide

theorem meets_ReceptionFaultsDropFrame : (running.elapse 0).live = true
    ∧ (running.elapse 0).link.receiver = huntReceiver ∧ noRequest (spaced 20000 [0xB7#8, 5#8, 1#8]) = true := by decide

/-- A gap of 20 ms after a start byte lets the frame go on; one of more makes the next byte the first of a new frame. -/
theorem test_gap_of_20_ms :
    insideFrame [⟨0, 0xB7#8⟩, ⟨20000, 2#8⟩] = true ∧ insideFrame [⟨0, 0xB7#8⟩, ⟨20001, 2#8⟩] = false
      ∧ (takeBytes huntReceiver [⟨0, 0xB7#8⟩, ⟨520, 2#8⟩, ⟨20001, 0xB7#8⟩]).1 = ⟨.length, []⟩
      ∧ takeBytes huntReceiver (spaced 520 [0xB7#8, 9#8]
          ++ ⟨20001, 0xB7#8⟩ :: (spaced 20000 (frameBytes ⟨0x01#8, 7#8, []⟩)).drop 1)
        = (huntReceiver, [⟨0x01#8, 7#8, []⟩]) := by decide +kernel

/-- RECEIVE_TIMEOUT drops the frame of an arbitrary state after more than 20 ms, and not after 20 ms. -/
theorem test_timeout_needs_gap :
    (let s : State := { running with link := { running.link with receiver := ⟨.length, []⟩ } }
     (left (exec (.receiveTimeout 0 ⟨[], 20001⟩) s)).link.receiver = huntReceiver
       ∧ (left (exec (.receiveTimeout 0 ⟨[], 20000⟩) s)).link.receiver = ⟨.length, []⟩) := by decide +kernel

/-- The RESTART reply sent in full, a reply waiting behind another frame, and a notice waiting. -/
def sent (f : Frame) (s : State) : State := { s with link := { s.link with tx := some { frame := f, left := 0 } } }

theorem meets_FrameSentServesNext :
    ((sent ⟨0x81#8, 0#8, []⟩ running).elapse 0).live = true
      ∧ ((sent ⟨0x81#8, 0#8, []⟩ running).elapse 0).link.tx = some ⟨⟨0x81#8, 0#8, []⟩, 0⟩
      ∧ running.time.restartDue = false
      ∧ ({ running with time := { running.time with restartPending := true } }).time.restartPending = true := by
  decide

theorem meets_WarmingRefused :
    (Instr.runOpen 0 5#8 []).wf = true ∧ (Instr.runOpen 0 5#8 []).frame? = some ⟨0x10#8, 5#8, []⟩
      ∧ (0x10#8 : Byte).toNat ∈ requestKinds ∧ (State.reset.elapse (Instr.runOpen 0 5#8 []).after).time.phase = .warmup
      ∧ (State.reset.elapse 0).link.queue.length < 4 ∧ (State.reset.elapse 0).live = true := by decide

theorem meets_UnknownAndDiscarded :
    (0x09#8 : Byte).toNat ∉ requestKinds ∧ (State.reset.elapse 0).live = true
      ∧ (Instr.ident 0 5#8 []).frame? = some ⟨0x01#8, 5#8, []⟩
      ∧ (let s : State := { running with link := { running.link with queue := List.replicate 4 ⟨0x81#8, 0#8, []⟩ } }
         (s.elapse 0).live = true ∧ 4 ≤ (s.elapse 0).link.queue.length)
      ∧ (halted.elapse 0).live = false := by decide

/-- A RUN_OPEN with a payload of two bytes in RUNNING, an IDENT with a payload of one in WARMUP, and a run not fitted. -/
theorem meets_FormRefused :
    (Instr.runOpen 0 5#8 [0#8, 0#8]).wf = true ∧ fixedLength (0x10#8 : Byte).toNat = some 1
      ∧ (Instr.ident 0 5#8 [0#8]).wf = true ∧ fixedLength (0x01#8 : Byte).toNat = some 0
      ∧ (running.elapse 0).time.phase = .running ∧ (State.reset.elapse 0).time.phase = .warmup
      ∧ (running.elapse 0).takes = true
      ∧ ({ running with settings := { running.settings with build := { factoryBuild with runs := 3 } } }).fitted 3
        = false := by decide

/-- What the statements about requests ask of the state, with a place left in the reply queue. -/
theorem meets_requests : (running.elapse 0).takes = true ∧ (running.elapse 0).link.queue.length < 4
    ∧ (running.elapse 0).fitted 3 = true ∧ (running.elapse 0).pumpIsFitted .b = true := by decide

/-- Each branch of the reports: figures present and none. -/
theorem meets_reports : winterClosed.conv.station.isSome = true ∧ running.conv.station = none
    ∧ (winterClosed.run.get 0).last.isSome = true ∧ (running.run.get 0).last = none
    ∧ (winterClosed.conv.last.get 0).isSome = true ∧ (running.conv.last.get 0) = none
    ∧ (withEntry strokeEntry).table.at 3 = some strokeEntry := by decide +kernel

theorem meets_RecordAndSectionReads : recorded.takes = true ∧ (recorded.recorder.ring[0]?).isSome = true
    ∧ recorded.recorder.ring.length ≤ 47 ∧ sectionId? 6 = some .compress
    ∧ stagedRecord .odorant false stagedOdorant.settings.staged = some (encodeOdorant factoryOdorant)
    ∧ stagedRecord .station false stagedOdorant.settings.staged = none
    ∧ stagedOdorant.settings.staged.monitors = none := by decide +kernel

/-- A run to open, one to close, one DEFAULTED, one not fitted. -/
theorem meets_RunOpensAndCloses : (defined running).takes = true ∧ (defined running).fitted 3 = true
    ∧ ((defined running).run.get 3).state = .out ∧ (defined running).settings.defaulted.run.get 3 = false
    ∧ (winter.run.get 0).state ≠ .out ∧ running.settings.defaulted.run.get 0 = true
    ∧ ({ running with settings := { running.settings with build := { factoryBuild with runs := 3 } } }).fitted 3 = false := by
  decide

/-- One trim flag each. -/
theorem meets_ReadingsTaken : running.takes = true ∧ running.dose.mode ≠ .auto
    ∧ (withDose .auto .armed 0 0 running).dose.mode = .auto ∧ 3 * running.odorant.target < 3601
    ∧ ¬ (3 * running.odorant.target < 3600) ∧ (withDose .auto .armed 0 0 running).dose.trimHoldOff = none
    ∧ (watched.settings.active.monitors.get 15).enabled = true := by decide

theorem meets_DoseModeChanges : (defined running).takes = true ∧ (defined running).dose.mode ≠ .auto
    ∧ (defined running).dose.state ≠ .confirmWait ∧ (defined running).settings.defaulted.odorant = false
    ∧ ((defined running).pump.get (defined running).dose.duty).state = .ready
    ∧ (withDose .auto .strokeWait 250000 250000 running).dose.state = .strokeWait
    ∧ awaiting.dose.state = .confirmWait ∧ running.settings.defaulted.odorant = true := by decide

theorem meets_PumpRequests :
    (let s := withDose .manual .idle 0 0 running
     (s.elapse 0).takes = true ∧ (s.elapse 0).pumpIsFitted .b = true ∧ s.dose.mode = .manual
       ∧ s.dose.state ≠ .manualWait ∧ s.pump.a.line = false
       ∧ s.pump.b.line = false ∧ (s.pump.get .b).state = .ready
       ∧ s.table.count (fun _ => true) < s.table.places.length
       ∧ (withPump .a driving s).pump.a.line = true ∧ (s.pump.get .a).state = .ready
       ∧ ((withPump .a (freshPump .failed) s).pump.get .a).state ≠ .ready ∧ running.dose.mode ≠ .manual
       ∧ ({ s with settings := { s.settings with build := { factoryBuild with pumps := 1 } } }).pumpIsFitted .b = false)
      ∧ (let s := withDose .auto .fault 0 0 (withPump .a (freshPump .failed) running)
         (s.elapse 0).takes = true ∧ (s.pump.get .a).state = .failed ∧ (s.pump.get .a).line = false
           ∧ (s.pump.get .b).state ≠ .failed ∧ s.dose.state = .fault
           ∧ (({ driving with state := .failed } : Pump)).line = true) := by decide

/-- A monitor in LATCH that acts, and the lock clear and set. -/
theorem meets_MonitorRequests : watched.takes = true ∧ (watched.settings.active.monitors.get 15).enabled = true
    ∧ monitorRun 15 = none ∧ (watched.settings.active.monitors.get 15).mode = .latch
    ∧ watched.monitors.limitLock = false := by decide

theorem meets_SectionWriteStages : running.storeBusy = false ∧ writing.storeBusy = true ∧ factoryStation.valid = true
    ∧ factoryRun.valid = true ∧ factoryOdorant.valid = true ∧ factoryCompress.valid = true
    ∧ monitorsValid (.all factoryMonitor) = true ∧ monitorsFit (.all factoryMonitor) = true
    ∧ running.settings.protection.get .monitors = false ∧ sectionId? 7 = some .monitors
    ∧ (encodeRun factoryRun).length = SectionId.recordLength (.run 0)
    ∧ stageRecord (.run 0) (List.replicate 42 0#8) running.settings = none := by decide +kernel

theorem meets_ProtectionSetAndCleared :
    (let s : State := { running with settings := { running.settings with protection := .all true } }
     s.settings.protection.get .odorant = true ∧ s.settings.protection.toList.any id = true
       ∧ running.settings.protection.get .odorant = false ∧ sectionId? 5 = some .odorant) := by decide

theorem meets_FramesAndRecordsReadBack : payloadFits (List.replicate 248 0xB7#8) = true ∧ payloadFits [] = true
    ∧ (spaced 20000 (frameBytes ⟨0x01#8, 0#8, []⟩)).map (·.byte) = frameBytes ⟨0x01#8, 0#8, []⟩
    ∧ (∀ x ∈ (spaced 20000 (frameBytes ⟨0x01#8, 0#8, []⟩)).drop 1, x.gap ≤ 20000)
    ∧ (encodeStation factoryStation).length = 25 ∧ decodeStation (encodeStation factoryStation) = some factoryStation
    ∧ winterGrid.valid = true ∧ gaugeRun.valid = true ∧ monitorsValid watched.settings.active.monitors = true
    ∧ monitorsFit watched.settings.active.monitors = true := by decide +kernel

/-- The longest frame and the shortest are received. -/
theorem test_frame_received :
    takeBytes huntReceiver (spaced 521 (frameBytes ⟨0x06#8, 0xB7#8, [0xB7#8, 2#8]⟩))
        = (huntReceiver, [⟨0x06#8, 0xB7#8, [0xB7#8, 2#8]⟩])
      ∧ takeBytes huntReceiver (spaced 20000 (0#8 :: 0xB7#8 :: 1#8 :: frameBytes ⟨0x01#8, 0#8, []⟩))
        = (huntReceiver, [⟨0x01#8, 0#8, []⟩]) := by decide +kernel

/-- The RUN record of R189, written out by hand from its table for a gauge run of factory values. -/
theorem test_run_record_by_hand : LaysOutRun gaugeRun (encodeRun gaugeRun)
    ∧ (encodeRun gaugeRun).take 17 = [0xE8, 0x03, 0, 0, 0x40, 0x42, 0x0F, 0, 1, 0, 0, 0, 0, 0, 0x12, 0x7A, 0]
    ∧ flagsByte .odorant stagedOdorant.settings = 9 := by
  refine ⟨?_, by decide +kernel, by decide⟩
  unfold LaysOutRun carries
  decide +kernel

theorem test_records_round_trip : decodeStation (encodeStation factoryStation) = some factoryStation
    ∧ decodeRun (encodeRun gaugeRun) = some gaugeRun ∧ decodeOdorant (encodeOdorant factoryOdorant) = some factoryOdorant
    ∧ decodeCompress (encodeCompress winterGrid) = some winterGrid := by decide +kernel

/-- States that hold the invariants and take a step. -/
theorem meets_invariants : winter.dosesBalance = true ∧ winter.accountBounded = true ∧ winter.figuresInRange = true
    ∧ winter.recordsInOrder = true ∧ awaiting.tableInOrder = true ∧ recorded.linkInOrder = true
    ∧ winter.settingsValid = true ∧ (judged 10 7 2 0 false).pulsesInOrder = true
    ∧ ({ running with monitors := { running.monitors with limitLock := true } }).monitorsLocked = true := by
  decide +kernel

theorem meets_StoredCopiesAndRepliesKept :
    (Instr.boundary 0).frame? = none ∧ (Instr.ident 0 0#8 []).frame? ≠ none
      ∧ { halted with pending := [.powerOn 0] }.time.phase = .halt
      ∧ { off with pending := [.powerOn 0] }.time.phase ≠ .halt := by decide

/-- The reset state's own statement: a factory-fresh part without power. -/
theorem meets_ResetState : off.time.phase = .off ∧ off.pins.pfwHigh = true ∧ off.store = factoryStore := by decide

end Sys2Proof.Tests
end

section
/-! PROOFS. The grid cell of R62 and the gross rate of R67 to R70. -/

namespace Sys2Proof.Proofs.VolumeAndEnergy

open Sys2Proof.Machine

/-! ## The grid cell (R62) -/

/-- `i` is the lowest of the cells `0..cells - 1` for which `v` is at most the cell's upper line (R62). -/
def LowestCell (line : Nat → Nat) (cells v i : Nat) : Prop :=
  i < cells ∧ v ≤ line (i + 1) ∧ ∀ k, k < i → line (k + 1) < v

theorem LowestCell.unique {line : Nat → Nat} {cells v i j : Nat}
    (hi : LowestCell line cells v i) (hj : LowestCell line cells v j) : i = j := by
  obtain ⟨_, underI, passedI⟩ := hi
  obtain ⟨_, underJ, passedJ⟩ := hj
  rcases Nat.lt_trichotomy i j with below | same | above
  · exact absurd (passedJ i below) (Nat.not_lt.mpr underI)
  · exact same
  · exact absurd (passedI j above) (Nat.not_lt.mpr underJ)

/-- On rising lines a grid line lies at the top of the cell below it. -/
theorem lowestCell_upperLine {line : Nat → Nat} {cells k : Nat}
    (rising : StrictMonoOn line (Set.Iic cells)) (hk : k < cells) : LowestCell line cells (line (k + 1)) k := by
  refine ⟨hk, Nat.le_refl _, fun j hj => rising ?_ ?_ (Nat.succ_lt_succ hj)⟩
  · exact Nat.le_trans (Nat.succ_le_succ hj.le) hk
  · exact hk

theorem lowestCell_bottomLine {line : Nat → Nat} {cells : Nat}
    (rising : StrictMonoOn line (Set.Iic cells)) (some_cell : 0 < cells) : LowestCell line cells (line 0) 0 :=
  ⟨some_cell, (rising (Nat.zero_le _) some_cell Nat.zero_lt_one).le, fun _ hk => absurd hk (Nat.not_lt_zero _)⟩

theorem pressureIndex_lowestCell (g : CompressSection) {p : Nat} (hp : p ≤ g.pressures.c4) :
    LowestCell g.pressures.nth 4 p (pressureIndex g p) := by
  unfold pressureIndex
  split_ifs with h1 h2 h3
  · exact ⟨by decide, h1, fun k hk => absurd hk (Nat.not_lt_zero k)⟩
  · refine ⟨by decide, h2, fun k hk => ?_⟩
    interval_cases k
    exact Nat.not_le.mp h1
  · refine ⟨by decide, h3, fun k hk => ?_⟩
    interval_cases k
    · exact Nat.not_le.mp h1
    · exact Nat.not_le.mp h2
  · refine ⟨by decide, hp, fun k hk => ?_⟩
    interval_cases k
    · exact Nat.not_le.mp h1
    · exact Nat.not_le.mp h2
    · exact Nat.not_le.mp h3

theorem temperatureIndex_lowestCell (g : CompressSection) {t : Nat} (ht : t ≤ g.temperatures.r3) :
    LowestCell g.temperatures.nth 3 t (temperatureIndex g t) := by
  unfold temperatureIndex
  split_ifs with h1 h2
  · exact ⟨by decide, h1, fun k hk => absurd hk (Nat.not_lt_zero k)⟩
  · refine ⟨by decide, h2, fun k hk => ?_⟩
    interval_cases k
    exact Nat.not_le.mp h1
  · refine ⟨by decide, ht, fun k hk => ?_⟩
    interval_cases k
    · exact Nat.not_le.mp h1
    · exact Nat.not_le.mp h2

/-! A valid COMPRESS section has rising grid lines (R164). -/

theorem nth_rising_of_five {t : Five Nat} (h : strictlyRising t.toList = true) : StrictMonoOn t.nth (Set.Iic 4) := by
  simp only [strictlyRising, Five.toList, Bool.and_eq_true, decide_eq_true_eq] at h
  obtain ⟨h01, h12, h23, h34, _⟩ := h
  refine strictMonoOn_Iic_of_lt_succ fun i hi => ?_
  interval_cases i
  · exact h01
  · exact h12
  · exact h23
  · exact h34

theorem nth_rising_of_four {t : Four Nat} (h : strictlyRising t.toList = true) : StrictMonoOn t.nth (Set.Iic 3) := by
  simp only [strictlyRising, Four.toList, Bool.and_eq_true, decide_eq_true_eq] at h
  obtain ⟨h01, h12, h23, _⟩ := h
  refine strictMonoOn_Iic_of_lt_succ fun j hj => ?_
  interval_cases j
  · exact h01
  · exact h12
  · exact h23

theorem valid_rising {g : CompressSection} (h : g.valid = true) :
    strictlyRising g.pressures.toList = true ∧ strictlyRising g.temperatures.toList = true := by
  simp only [CompressSection.valid, Bool.and_eq_true] at h
  obtain ⟨⟨⟨⟨_, pressures⟩, _⟩, temperatures⟩, _⟩ := h
  exact ⟨pressures, temperatures⟩

/-- Settles O16: both indices are the lowest cell, which is unique, and each grid line has the cell below it as its lowest. -/
theorem gridCellIsLowest : Obligations.GridCellIsLowest := by
  intro g p t valid
  obtain ⟨pressures, temperatures⟩ := valid_rising valid
  have pRising := nth_rising_of_five pressures
  have tRising := nth_rising_of_four temperatures
  have pTop : ∀ k ≤ 4, g.pressures.nth k ≤ g.pressures.c4 := fun k hk =>
    pRising.monotoneOn hk (Set.mem_Iic.mpr le_rfl) hk
  have tTop : ∀ k ≤ 3, g.temperatures.nth k ≤ g.temperatures.r3 := fun k hk =>
    tRising.monotoneOn hk (Set.mem_Iic.mpr le_rfl) hk
  refine ⟨pressureIndex_lowestCell g, temperatureIndex_lowestCell g, fun k hk => ?_, fun k hk => ?_, ?_, ?_⟩
  · exact (pressureIndex_lowestCell g (pTop _ hk)).unique (lowestCell_upperLine pRising hk)
  · exact (temperatureIndex_lowestCell g (tTop _ hk)).unique (lowestCell_upperLine tRising hk)
  · exact (pressureIndex_lowestCell g (pTop 0 (by decide))).unique (lowestCell_bottomLine pRising (by decide))
  · exact (temperatureIndex_lowestCell g (tTop 0 (by decide))).unique (lowestCell_bottomLine tRising (by decide))

/-! ## The gross rate (R67 to R70) -/

theorem ringAge_of_newest {ring : List Time} {newest : Time} (capture : Time) (h : ring.getLast? = some newest) :
    ringAge ring capture = some (capture - newest).toNat := by
  simp [ringAge, h]

theorem ringStale_of_age {timeout age : Nat} {ring : List Time} {capture : Time} (h : ringAge ring capture = some age) :
    ringStale timeout ring capture = decide (timeout * 1000000 < age) := by
  simp [ringStale, h]

theorem ringRate_of_ends {ring : List Time} {oldest newest : Time} (vpp : Nat)
    (first : ring.head? = some oldest) (last : ring.getLast? = some newest) :
    ringRate vpp ring = (ring.length - 1) * vpp * 3600000 / (newest - oldest).toNat := by
  simp [ringRate, ringSpan, first, last]

theorem grossRate_le_top32 (c : RunSection) (ring : List Time) (capture : Time) : grossRate c ring capture ≤ top32 := by
  unfold grossRate
  split_ifs
  · exact Nat.zero_le _
  · exact Nat.zero_le _
  · split
    · exact Nat.zero_le _
    · exact Nat.min_le_left _ _
    · exact Nat.min_le_left _ _

theorem grossRate_of_few_times (c : RunSection) {ring : List Time} (capture : Time) (few : ring.length < 2) :
    grossRate c ring capture = 0 := by
  simp [grossRate, few]

section Newest

variable {c : RunSection} {ring : List Time} {capture : Time} {age : Nat}

theorem grossRate_of_timeout_passed (hage : ringAge ring capture = some age)
    (passed : c.zeroFlowTimeout * 1000000 < age) : grossRate c ring capture = 0 := by
  simp [grossRate, ringStale_of_age hage, passed]

theorem grossRate_of_age_zero (hage : ringAge ring capture = some 0) (times : 2 ≤ ring.length) :
    grossRate c ring capture = min (ringRate c.vpp ring) top32 := by
  simp [grossRate, ringStale_of_age hage, Nat.not_lt.mpr times, hage, Nat.min_comm]

theorem grossRate_of_age_pos (hage : ringAge ring capture = some age)
    (within : age ≤ c.zeroFlowTimeout * 1000000) (times : 2 ≤ ring.length) (positive : 0 < age) :
    grossRate c ring capture = min (min (ringRate c.vpp ring) (c.vpp * 3600000 / age)) top32 := by
  obtain ⟨n, rfl⟩ := Nat.exists_eq_succ_of_ne_zero positive.ne'
  simp [grossRate, ringStale_of_age hage, Nat.not_lt.mpr within, Nat.not_lt.mpr times, hage, Nat.min_comm]

end Newest

/-- Settles O18: the cases of an age past the timeout, of 0 and in between, each from its equation of `grossRate`. -/
theorem grossRateFromRing : Obligations.GrossRateFromRing := by
  intro c ring capture
  refine ⟨grossRate_le_top32 c ring capture, grossRate_of_few_times c capture, fun oldest newest first last => ?_⟩
  intro age rate
  have hage : ringAge ring capture = some age := ringAge_of_newest capture last
  have hrate : ringRate c.vpp ring = rate := ringRate_of_ends c.vpp first last
  rw [← hrate]
  refine ⟨grossRate_of_timeout_passed hage, fun _ times zero => ?_, fun within times positive => ?_⟩
  · exact grossRate_of_age_zero (zero ▸ hage) times
  · exact grossRate_of_age_pos hage within times positive

end Sys2Proof.Proofs.VolumeAndEnergy
end

section
/-! PROOFS. How an evaluation updates the conditions of a limit monitor (R150, R152). -/

namespace Sys2Proof.Proofs.LimitMonitors

open Sys2Proof.Machine

/-! ## A condition and its hysteresis (R152) -/

section Hold

variable {setTest clearTest : Prop} [Decidable setTest] [Decidable clearTest] {was : Bool}

theorem hold_of_set (set : setTest) : hold (decide setTest) (decide clearTest) was = true := by
  simp [hold, set]

theorem hold_of_clear (unset : ¬ setTest) (clear : clearTest) :
    hold (decide setTest) (decide clearTest) was = false := by
  simp [hold, unset, clear]

theorem hold_of_neither (unset : ¬ setTest) (uncleared : ¬ clearTest) :
    hold (decide setTest) (decide clearTest) was = was := by
  simp [hold, unset, uncleared]

end Hold

section Conditions

variable {c : MonitorSettings} {v : Nat} {was : Bool}

theorem lowCondition_below (below : v < c.low) : lowCondition c v was = true := hold_of_set below

theorem lowCondition_aboveBand (above : c.low + c.hysteresis ≤ v) : lowCondition c v was = false :=
  hold_of_clear (Nat.not_lt.mpr (Nat.le_of_add_right_le above)) above

theorem lowCondition_inBand (within : c.low ≤ v) (near : v < c.low + c.hysteresis) :
    lowCondition c v was = was :=
  hold_of_neither (Nat.not_lt.mpr within) (Nat.not_le.mpr near)

theorem highCondition_above (above : c.high < v) : highCondition c v was = true := hold_of_set above

theorem highCondition_belowBand (below : v + c.hysteresis ≤ c.high) : highCondition c v was = false :=
  hold_of_clear (Nat.not_lt.mpr (Nat.le_of_add_right_le below)) below

theorem highCondition_inBand (within : v ≤ c.high) (near : c.high < v + c.hysteresis) :
    highCondition c v was = was :=
  hold_of_neither (Nat.not_lt.mpr within) (Nat.not_le.mpr near)

theorem lowSense_iff (m : Fin 16) : lowSense m = true ↔ m = 13 ∨ m = 15 := by
  simp [lowSense]

/-- In the low sense CRITICAL is a LOW with the critical limit for its limit. -/
theorem criticalCondition_lowSense {m : Fin 16} (sense : m = 13 ∨ m = 15) :
    criticalCondition (lowSense m) c v was = lowCondition { c with low := c.critical } v was := by
  rw [(lowSense_iff m).mpr sense]
  rfl

/-- In the high sense CRITICAL is a HIGH with the critical limit for its limit. -/
theorem criticalCondition_highSense {m : Fin 16} (sense : ¬ (m = 13 ∨ m = 15)) :
    criticalCondition (lowSense m) c v was = highCondition { c with high := c.critical } v was := by
  rw [Bool.eq_false_iff.mpr (mt (lowSense_iff m).mp sense)]
  rfl

end Conditions

/-! ## What an evaluation leaves of a monitor -/

section Evaluated

variable (low : Bool) (c : MonitorSettings) (v : Nat) (m : MonitorState)

@[simp] theorem evaluated_low : (evaluated low c v m).low = lowCondition c v m.low := rfl
@[simp] theorem evaluated_high : (evaluated low c v m).high = highCondition c v m.high := rfl
@[simp] theorem evaluated_critical :
    (evaluated low c v m).critical = criticalCondition low c v m.critical := rfl
@[simp] theorem evaluated_last : (evaluated low c v m).last = some v := rfl

end Evaluated

/-! ## What an evaluation leaves of the state -/

theorem raise_onlyLink (c : NoticeClass) (n : Nat) (s : State) : ∃ l, raise c n s = { s with link := l } := by
  unfold raise
  split
  · exact ⟨_, rfl⟩
  · exact ⟨s.link, rfl⟩

theorem monitorNotices_onlyLink (m : Fin 16) (was is : MonitorState) (s : State) :
    ∃ l, monitorNotices m was is s = { s with link := l } := by
  have critical : ∃ l, (if is.critical && !was.critical then raise .critical m.val s else s)
      = { s with link := l } := by
    split
    · exact raise_onlyLink ..
    · exact ⟨s.link, rfl⟩
  obtain ⟨l, hl⟩ := critical
  simp only [monitorNotices, hl]
  split
  · obtain ⟨l', hl'⟩ := raise_onlyLink .limit m.val { s with link := l }
    exact ⟨l', hl'⟩
  · exact ⟨l, rfl⟩

theorem evaluate_eq (m : Fin 16) (v : Nat) (s : State) :
    evaluate m v s = { s with monitors := (evaluate m v s).monitors, link := (evaluate m v s).link } := by
  unfold evaluate
  split
  · dsimp only
    generalize evaluated _ _ _ _ = new
    obtain ⟨l, hl⟩ := monitorNotices_onlyLink m (s.monitors.each.get m) new (setMonitor m new s)
    rw [hl]
    rfl
  · rfl

/-- An evaluation that is made changes its own monitor, and nothing else of the monitors. -/
theorem evaluate_monitors {m : Fin 16} {s : State} (made : standing m s = .evaluated) (v : Nat) :
    (evaluate m v s).monitors =
      { s.monitors with
        each := s.monitors.each.set m
          (evaluated (lowSense m) (s.settings.active.monitors.get m) v (s.monitors.each.get m)) } := by
  simp [evaluate, made, setMonitor]

/-- Settles O26: what an evaluation leaves is `evaluated`, whose conditions go by the cases of R152; CRITICAL is a LOW or
a HIGH at the critical limit, by the sense of the monitor. -/
theorem monitorConditions : Obligations.MonitorConditions := by
  intro s m v made t c old new lowCritical
  have hmon := evaluate_monitors made v
  have hnew : new = evaluated (lowSense m) c v old := by simp [new, t, c, old, hmon]
  have others : ∀ i, i ≠ m → t.monitors.each.get i = s.monitors.each.get i := fun i other => by
    simp [t, hmon, Sixteen.get_set, other]
  have lock : t.monitors.limitLock = s.monitors.limitLock := by simp [t, hmon]
  refine ⟨evaluate_eq m v s, lock, others, ?_⟩
  rw [hnew, evaluated_last, evaluated_low, evaluated_high, evaluated_critical]
  refine ⟨rfl, lowCondition_below, lowCondition_aboveBand, lowCondition_inBand,
    highCondition_above, highCondition_belowBand, highCondition_inBand,
    fun sense above => (criticalCondition_highSense sense).trans (highCondition_above above),
    fun sense below => (criticalCondition_highSense sense).trans (highCondition_belowBand below),
    fun sense within near => (criticalCondition_highSense sense).trans (highCondition_inBand within near),
    fun sense below => (criticalCondition_lowSense sense).trans (lowCondition_below below),
    fun sense above => (criticalCondition_lowSense sense).trans (lowCondition_aboveBand above),
    fun sense within near => (criticalCondition_lowSense sense).trans (lowCondition_inBand within near)⟩

end Sys2Proof.Proofs.LimitMonitors
end

section
/-! PROOFS. Each command as the timed event, the table entry or the request it is (log entry 1). -/

namespace Sys2Proof.Proofs.Arms

open Sys2Proof Sys2Proof.Machine

theorem exec_powerOn (after : Nat) (s : State) :
    exec (.powerOn after) s = event after (fun s => s.time.phase == .off || s.time.phase == .halt) powerUp s := rfl

theorem exec_powerFailWarning (after : Nat) (s : State) :
    exec (.powerFailWarning after) s = event after (fun _ => true)
      (fun s => setPfw false (if s.live then powerFail s else s)) s := rfl

theorem exec_pfwRise (after : Nat) (s : State) :
    exec (.pfwRise after) s = event after (fun _ => true) (fun s => startWhenReady (holdRise (setPfw true s))) s := rfl

theorem exec_restartBegin (after : Nat) (s : State) :
    exec (.restartBegin after) s = event after restartReady restartPart s := rfl

theorem exec_warmupEnd (after : Nat) (s : State) :
    exec (.warmupEnd after) s = event after warmupDone enterRunning s := rfl

theorem exec_boundary (after : Nat) (s : State) :
    exec (.boundary after) s = event after boundaryDue timedBoundary s := rfl

theorem exec_pulseEdge (after : Nat) (r : RunId) (ch : Side) (s : State) :
    exec (.pulseEdge after r ch) s = event after (pulseTaken r ch) (pulseEdge r ch) s := rfl

theorem exec_pulseHoldOffEnd (after : Nat) (r : RunId) (ch : Side) (s : State) :
    exec (.pulseHoldOffEnd after r ch) s = event after (pulseHoldOffDone r ch) (endPulseHoldOff r ch) s := rfl

theorem exec_conversionCompletion (after current : Nat) (s : State) :
    exec (.conversionCompletion after current) s = event after (fun s => (conversionDone s).isSome)
      (fun s => match conversionDone s with
        | some c => completion c current s
        | none => s) s := rfl

theorem exec_senseEdge (after : Nat) (p : Side) (s : State) :
    exec (.senseEdge after p) s = event after (senseTaken p) (senseEdge p) s := rfl

theorem exec_senseHoldOffEnd (after : Nat) (p : Side) (s : State) :
    exec (.senseHoldOffEnd after p) s = event after (senseHoldOffDone p) (fun s => s.onSense (·.set p none)) s := rfl

theorem exec_driveEnd (after : Nat) (p : Side) (s : State) :
    exec (.driveEnd after p) s = event after (fun s => s.live && driveEnded p s) (endDrive p) s := rfl

theorem exec_recentDriveEnd (after : Nat) (s : State) :
    exec (.recentDriveEnd after) s = event after recentDriveDone
      (fun s => s.onDose fun d => { d with recentDrive := false }) s := rfl

theorem exec_trimHoldOffEnd (after : Nat) (s : State) :
    exec (.trimHoldOffEnd after) s = event after trimHoldOffDone
      (fun s => s.onDose fun d => { d with trimHoldOff := none }) s := rfl

theorem exec_storeWriteComplete (after : Nat) (s : State) :
    exec (.storeWriteComplete after) s = event after writeDone
      (fun s => match s.store.writing with
        | some w => completeWrite w s
        | none => s) s := rfl

theorem exec_receiveTimeout (after : Nat) (bytes : BytesThenGap) (s : State) :
    exec (.receiveTimeout after bytes) s = event after (fun s => s.live && gapExceeded bytes.gap)
      (receptionFault bytes.bytes) s := rfl

theorem exec_frameCheckFail (after : Nat) (bytes : List LineByte) (s : State) :
    exec (.frameCheckFail after bytes) s = event after State.live (receptionFault bytes) s := rfl

theorem exec_stopBitError (after : Nat) (bytes : List LineByte) (s : State) :
    exec (.stopBitError after bytes) s = event after State.live (receptionFault bytes) s := rfl

theorem exec_frameSent (after : Nat) (s : State) :
    exec (.frameSent after) s = event after frameDone endFrame s := rfl

theorem exec_lossOfSupply (after : Nat) (s : State) :
    exec (.lossOfSupply after) s = event after (fun s => s.time.phase != .off || s.pins.supply) supplyLost s := rfl

theorem exec_strokeEntryDue (after : Nat) (id : Fin 8) (s : State) :
    exec (.strokeEntryDue after id) s = carryOut .stroke (fun target s => match side? target with
      | some p => autoDrive p s
      | none => s) after id s := rfl

theorem exec_confirmEntryDue (after : Nat) (id : Fin 8) (s : State) :
    exec (.confirmEntryDue after id) s = carryOut .confirm (fun target s => match side? target with
      | some p => deadline p s
      | none => s) after id s := rfl

theorem exec_auxOnEntryDue (after : Nat) (id : Fin 8) (s : State) :
    exec (.auxOnEntryDue after id) s = carryOut .auxOn (setAux true) after id s := rfl

theorem exec_auxOffEntryDue (after : Nat) (id : Fin 8) (s : State) :
    exec (.auxOffEntryDue after id) s = carryOut .auxOff (setAux false) after id s := rfl

theorem exec_closePeriodEntryDue (after : Nat) (id : Fin 8) (s : State) :
    exec (.closePeriodEntryDue after id) s = carryOut .closePeriod 
      (fun _ s => if s.time.phase = .running then forcedClose s else s) after id s := rfl

theorem exec_timerNoticeEntryDue (after : Nat) (id : Fin 8) (s : State) :
    exec (.timerNoticeEntryDue after id) s = carryOut .timerNotice (fun target s => raise .timer target s) after id s := rfl

theorem exec_ident (after : Nat) (tag : Byte) (payload : List Byte) (s : State) :
    exec (.ident after tag payload) s = request after 0x01#8 tag (handleIdent payload) s := rfl

theorem exec_stationStatus (after : Nat) (tag : Byte) (payload : List Byte) (custody : SwitchLevel) (s : State) :
    exec (.stationStatus after tag payload custody) s =
      request after 0x02#8 tag (handleStationStatus payload) (showCustody custody s) := rfl

theorem exec_runStatus (after : Nat) (tag : Byte) (payload : List Byte) (s : State) :
    exec (.runStatus after tag payload) s = request after 0x03#8 tag (handleRunStatus payload) s := rfl

theorem exec_doseStatus (after : Nat) (tag : Byte) (payload : List Byte) (s : State) :
    exec (.doseStatus after tag payload) s = request after 0x04#8 tag (handleDoseStatus payload) s := rfl

theorem exec_monitorStatus (after : Nat) (tag : Byte) (payload : List Byte) (s : State) :
    exec (.monitorStatus after tag payload) s = request after 0x05#8 tag (handleMonitorStatus payload) s := rfl

theorem exec_periodRead (after : Nat) (tag : Byte) (payload : List Byte) (s : State) :
    exec (.periodRead after tag payload) s = request after 0x06#8 tag (handlePeriodRead payload) s := rfl

theorem exec_tableRead (after : Nat) (tag : Byte) (payload : List Byte) (s : State) :
    exec (.tableRead after tag payload) s = request after 0x07#8 tag (handleTableRead payload) s := rfl

theorem exec_sectionRead (after : Nat) (tag : Byte) (payload : List Byte) (s : State) :
    exec (.sectionRead after tag payload) s = request after 0x08#8 tag (handleSectionRead payload) s := rfl

theorem exec_runOpen (after : Nat) (tag : Byte) (payload : List Byte) (s : State) :
    exec (.runOpen after tag payload) s = request after 0x10#8 tag (handleRunOpen payload) s := rfl

theorem exec_runClose (after : Nat) (tag : Byte) (payload : List Byte) (s : State) :
    exec (.runClose after tag payload) s = request after 0x11#8 tag (handleRunClose payload) s := rfl

theorem exec_periodClose (after : Nat) (tag : Byte) (payload : List Byte) (s : State) :
    exec (.periodClose after tag payload) s = request after 0x12#8 tag (handlePeriodClose payload) s := rfl

theorem exec_gasQuality (after : Nat) (tag : Byte) (payload : List Byte) (s : State) :
    exec (.gasQuality after tag payload) s = request after 0x13#8 tag (handleGasQuality payload) s := rfl

theorem exec_analyserReading (after : Nat) (tag : Byte) (payload : List Byte) (s : State) :
    exec (.analyserReading after tag payload) s = request after 0x14#8 tag (handleAnalyserReading payload) s := rfl

theorem exec_doseMode (after : Nat) (tag : Byte) (payload : List Byte) (s : State) :
    exec (.doseMode after tag payload) s = request after 0x15#8 tag (handleDoseMode payload) s := rfl

theorem exec_manualStroke (after : Nat) (tag : Byte) (payload : List Byte) (s : State) :
    exec (.manualStroke after tag payload) s = request after 0x16#8 tag (handleManualStroke payload) s := rfl

theorem exec_pumpReset (after : Nat) (tag : Byte) (payload : List Byte) (s : State) :
    exec (.pumpReset after tag payload) s = request after 0x17#8 tag (handlePumpReset payload) s := rfl

theorem exec_eventClear (after : Nat) (tag : Byte) (payload : List Byte) (s : State) :
    exec (.eventClear after tag payload) s = request after 0x18#8 tag (handleEventClear payload) s := rfl

theorem exec_limitLock (after : Nat) (tag : Byte) (payload : List Byte) (s : State) :
    exec (.limitLock after tag payload) s = request after 0x19#8 tag (handleLimitLock payload) s := rfl

theorem exec_schedule (after : Nat) (tag : Byte) (payload : List Byte) (s : State) :
    exec (.schedule after tag payload) s = request after 0x1A#8 tag (handleSchedule payload) s := rfl

theorem exec_cancel (after : Nat) (tag : Byte) (payload : List Byte) (s : State) :
    exec (.cancel after tag payload) s = request after 0x1B#8 tag (handleCancel payload) s := rfl

theorem exec_sectionWrite (after : Nat) (tag : Byte) (payload : List Byte) (s : State) :
    exec (.sectionWrite after tag payload) s = request after 0x20#8 tag (handleSectionWrite payload) s := rfl

theorem exec_sectionProtect (after : Nat) (tag : Byte) (payload : List Byte) (s : State) :
    exec (.sectionProtect after tag payload) s = request after 0x21#8 tag (handleSectionProtect payload) s := rfl

theorem exec_protectClear (after : Nat) (tag : Byte) (payload : List Byte) (custody : SwitchLevel) (s : State) :
    exec (.protectClear after tag payload custody) s =
      request after 0x22#8 tag (handleProtectClear payload) (showCustody custody s) := rfl

theorem exec_restart (after : Nat) (tag : Byte) (payload : List Byte) (s : State) :
    exec (.restart after tag payload) s = request after 0x2F#8 tag (handleRestart payload) s := rfl

theorem exec_unknownKindRequest (after : Nat) (kind tag : Byte) (payload : List Byte) (s : State) :
    exec (.unknownKindRequest after kind tag payload) s = request after kind tag handleUnknownKind s := rfl

end Sys2Proof.Proofs.Arms
end

section
/-! PROOFS. What a step can do, said once: the work of a taken event, the work of a request, and the predicates that every step
keeps because each piece of work keeps them. -/

namespace Sys2Proof.Proofs.Steps

open Sys2Proof Sys2Proof.Machine Sys2Proof.Proofs.Arms

/-! ## The work of an event (log entry 3) -/

/-- The work of a command that is no request and brings no bytes, once its guard holds at `u`. -/
inductive EventWork (u : State) : Instr → State → Prop
  | powerOn (after : Nat) (h : u.time.phase = .off ∨ u.time.phase = .halt) :
      EventWork u (.powerOn after) (powerUp u)
  | powerFailWarning (after : Nat) :
      EventWork u (.powerFailWarning after) (setPfw false (if u.live then powerFail u else u))
  | pfwRise (after : Nat) : EventWork u (.pfwRise after) (startWhenReady (holdRise (setPfw true u)))
  | restartBegin (after : Nat) (h : restartReady u = true) : EventWork u (.restartBegin after) (restartPart u)
  | warmupEnd (after : Nat) (h : warmupDone u = true) : EventWork u (.warmupEnd after) (enterRunning u)
  | boundary (after : Nat) (h : boundaryDue u = true) : EventWork u (.boundary after) (timedBoundary u)
  | pulseEdge (after : Nat) (r : RunId) (ch : Side) (h : pulseTaken r ch u = true) :
      EventWork u (.pulseEdge after r ch) (pulseEdge r ch u)
  | pulseHoldOffEnd (after : Nat) (r : RunId) (ch : Side) (h : pulseHoldOffDone r ch u = true) :
      EventWork u (.pulseHoldOffEnd after r ch) (endPulseHoldOff r ch u)
  | conversionCompletion (after current : Nat) (c : ChannelId) (h : conversionDone u = some c) :
      EventWork u (.conversionCompletion after current) (completion c current u)
  | senseEdge (after : Nat) (p : Side) (h : senseTaken p u = true) :
      EventWork u (.senseEdge after p) (senseEdge p u)
  | senseHoldOffEnd (after : Nat) (p : Side) (h : senseHoldOffDone p u = true) :
      EventWork u (.senseHoldOffEnd after p) (u.onSense (·.set p none))
  | driveEnd (after : Nat) (p : Side) (h : u.live = true ∧ driveEnded p u = true) :
      EventWork u (.driveEnd after p) (endDrive p u)
  | recentDriveEnd (after : Nat) (h : recentDriveDone u = true) :
      EventWork u (.recentDriveEnd after) (u.onDose fun d => { d with recentDrive := false })
  | trimHoldOffEnd (after : Nat) (h : trimHoldOffDone u = true) :
      EventWork u (.trimHoldOffEnd after) (u.onDose fun d => { d with trimHoldOff := none })
  | strokeEntry (after : Nat) (id : Fin 8) (e : Entry) (h : u.table.at id.val = some e) (k : e.kind = .stroke) :
      EventWork u (.strokeEntryDue after id) (match side? e.target with
        | some p => autoDrive p (u.onTable (·.free id.val))
        | none => u.onTable (·.free id.val))
  | confirmEntry (after : Nat) (id : Fin 8) (e : Entry) (h : u.table.at id.val = some e) (k : e.kind = .confirm) :
      EventWork u (.confirmEntryDue after id) (match side? e.target with
        | some p => deadline p (u.onTable (·.free id.val))
        | none => u.onTable (·.free id.val))
  | auxOnEntry (after : Nat) (id : Fin 8) (e : Entry) (h : u.table.at id.val = some e) (k : e.kind = .auxOn) :
      EventWork u (.auxOnEntryDue after id) (setAux true e.target (u.onTable (·.free id.val)))
  | auxOffEntry (after : Nat) (id : Fin 8) (e : Entry) (h : u.table.at id.val = some e) (k : e.kind = .auxOff) :
      EventWork u (.auxOffEntryDue after id) (setAux false e.target (u.onTable (·.free id.val)))
  | closePeriodEntry (after : Nat) (id : Fin 8) (e : Entry) (h : u.table.at id.val = some e)
      (k : e.kind = .closePeriod) :
      EventWork u (.closePeriodEntryDue after id)
        (if u.time.phase = .running then forcedClose (u.onTable (·.free id.val)) else u.onTable (·.free id.val))
  | timerNoticeEntry (after : Nat) (id : Fin 8) (e : Entry) (h : u.table.at id.val = some e)
      (k : e.kind = .timerNotice) :
      EventWork u (.timerNoticeEntryDue after id) (raise .timer e.target (u.onTable (·.free id.val)))
  | storeWriteComplete (after : Nat) (w : StoreWrite) (h : u.store.writing = some w) :
      EventWork u (.storeWriteComplete after) (completeWrite w u)
  | frameSent (after : Nat) (h : frameDone u = true) : EventWork u (.frameSent after) (endFrame u)
  | lossOfSupply (after : Nat) : EventWork u (.lossOfSupply after) (supplyLost u)

/-! ## The work of a request (R181) -/

/-- What a request, whatever its kind and payload, can leave of the state it finds, before its reply is queued. -/
inductive RequestWork (u : State) : State → Prop
  | nothing : RequestWork u u
  | runOpened (r : RunId) : RequestWork u (openRun r u)
  | runClosed (r : RunId) : RequestWork u (closeRun r u)
  | periodClosed : RequestWork u (forcedClose u)
  | heatingStaged (cv : Nat) (h : inRange 30000 50000 cv = true) :
      RequestWork u (u.onSettings fun g => { g with stagedHeatingValue := some cv })
  | readingTaken (m : Nat) : RequestWork u (takeReading m (evaluate 15 m u))
  | modeChanged (m : DosingMode) (hc : u.dose.state ≠ .confirmWait) (hm : u.dose.state ≠ .manualWait)
      (hne : m ≠ u.dose.mode) : RequestWork u (changeMode m u)
  | manualStroke (p : Side) (hm : u.dose.mode = .manual) (hs : u.dose.state ≠ .manualWait) :
      RequestWork u (manualDrive p u)
  | pumpReset (p : Side) : RequestWork u (resetPump p u)
  | eventCleared (m : Fin 16) : RequestWork u (clearEvent m u)
  | locked (h : u.monitors.limitLock = false) : RequestWork u (setLimitLock u)
  | scheduled (e : Entry) (ho : e.owner = .link) (ht : linkTarget e.kind e.target = true)
      (hn : u.table.count isLink < 6) : RequestWork u (u.onTable (·.place e))
  | cancelled (id : Fin 8) (e : Entry) (h : u.table.at id.val = some e) (hl : isLink e = true) :
      RequestWork u (u.onTable (·.free id.val))
  | sectionStaged (i : SectionId) (bs : List Byte) (g : StagedSections) (hl : i = .monitors → u.monitors.limitLock = false)
      (h : stageRecord i bs u.settings = some g) :
      RequestWork u (u.onSettings fun x => { x with staged := g })
  | sectionProtected (i : SectionId) : RequestWork u (protectSection i u)
  | protectionCleared : RequestWork u (addItem .flags (u.onSettings fun g =>
      { g with protection := .all false, flagsUnstored := true }))
  | restartAsked : RequestWork u (u.onTime fun t => { t with restartPending := true })

section Handlers

/-- What a handler does is the work of a request, whatever state it finds. -/
def Works (handle : State → Answer) : Prop := ∀ u, RequestWork u (handle u).state

theorem works_unlessWarming {handle : State → Answer} (h : Works handle) : Works (unlessWarming handle) := by
  intro u
  unfold unlessWarming
  split
  · exact .nothing
  · exact h u

theorem works_withLength {n : Nat} {payload : List Byte} {handle : State → Answer} (h : Works handle) :
    Works (withLength n payload handle) := by
  intro u
  unfold withLength
  split
  · exact h u
  · exact .nothing

theorem works_withRun {payload : List Byte} {handle : RunId → State → Answer} (h : ∀ r, Works (handle r)) :
    Works (withRun payload handle) := by
  refine works_unlessWarming (works_withLength fun u => ?_)
  split
  · exact .nothing
  · split
    · exact h _ u
    · exact .nothing

theorem works_withPump {payload : List Byte} {handle : Side → State → Answer} (h : ∀ p, Works (handle p)) :
    Works (withPump payload handle) := by
  refine works_unlessWarming (works_withLength fun u => ?_)
  split
  · exact .nothing
  · split
    · exact h _ u
    · exact .nothing

/-- A handler that only reads. -/
theorem works_reading {data : State → List Byte} : Works fun u => accept (data u) u := fun _ => .nothing

theorem works_runOpen (payload : List Byte) : Works (handleRunOpen payload) := by
  refine works_withRun fun r u => ?_
  split
  · exact .nothing
  · split
    · exact .nothing
    · exact .runOpened r

theorem works_runClose (payload : List Byte) : Works (handleRunClose payload) := by
  refine works_withRun fun r u => ?_
  split
  · exact .nothing
  · exact .runClosed r

theorem works_periodRead (payload : List Byte) : Works (handlePeriodRead payload) := by
  refine works_unlessWarming (works_withLength fun u => ?_)
  dsimp only
  split
  · exact .nothing
  · split <;> exact .nothing

theorem works_sectionRead (payload : List Byte) : Works (handleSectionRead payload) := by
  refine works_unlessWarming fun u => ?_
  dsimp only
  (repeat' split) <;> exact .nothing

theorem works_periodClose (payload : List Byte) : Works (handlePeriodClose payload) :=
  works_unlessWarming (works_withLength fun _ => .periodClosed)

theorem works_gasQuality (payload : List Byte) : Works (handleGasQuality payload) := by
  refine works_unlessWarming (works_withLength fun u => ?_)
  dsimp only
  split
  · exact .heatingStaged _ ‹_›
  · exact .nothing

theorem works_analyserReading (payload : List Byte) : Works (handleAnalyserReading payload) :=
  works_unlessWarming (works_withLength fun _ => .readingTaken _)

theorem works_doseMode (payload : List Byte) : Works (handleDoseMode payload) := by
  refine works_unlessWarming (works_withLength fun u => ?_)
  split
  · exact .nothing
  · split
    · exact .nothing
    · rename_i idle
      obtain ⟨hc, hm⟩ := not_or.mp idle
      split
      · exact .nothing
      · simp only [accept]
        split
        · exact .nothing
        · exact .modeChanged _ hc hm ‹_›

theorem works_manualStroke (payload : List Byte) : Works (handleManualStroke payload) := by
  refine works_withPump fun p u => ?_
  split
  · exact .nothing
  · rename_i manual
    split
    · exact .nothing
    · rename_i free
      split
      · exact .nothing
      · exact .manualStroke p (not_ne_iff.mp manual) fun e => free (.inl e)

theorem works_pumpReset (payload : List Byte) : Works (handlePumpReset payload) := by
  refine works_withPump fun p u => ?_
  dsimp only
  split
  · exact .nothing
  · split
    · exact .nothing
    · exact .pumpReset p

theorem works_eventClear (payload : List Byte) : Works (handleEventClear payload) := by
  refine works_unlessWarming (works_withLength fun u => ?_)
  split
  · exact .nothing
  · exact .eventCleared _

theorem works_limitLock (payload : List Byte) : Works (handleLimitLock payload) := by
  refine works_unlessWarming (works_withLength fun u => ?_)
  split
  · exact .nothing
  · exact .locked (by simp_all)

theorem works_schedule (payload : List Byte) : Works (handleSchedule payload) := by
  refine works_unlessWarming (works_withLength fun u => ?_)
  split
  · exact .nothing
  · dsimp only
    split
    · exact .nothing
    · rename_i valid
      split
      · exact .nothing
      · exact .scheduled _ rfl (by simp_all) (by omega)

theorem works_cancel (payload : List Byte) : Works (handleCancel payload) := by
  refine works_unlessWarming (works_withLength fun u => ?_)
  split
  · exact .nothing
  · split
    · exact .nothing
    · split
      · exact .cancelled _ _ ‹_› ‹_›
      · exact .nothing

theorem works_sectionWrite (payload : List Byte) : Works (handleSectionWrite payload) := by
  refine works_unlessWarming fun u => ?_
  split
  · exact .nothing
  · split
    · exact .nothing
    · split
      · exact .nothing
      · split
        · exact .nothing
        · split
          · exact .nothing
          · split
            · exact .nothing
            · split
              · exact .nothing
              · rename_i unlocked _ _ _ staged
                exact .sectionStaged _ _ _ (by simpa using unlocked) staged

theorem works_sectionProtect (payload : List Byte) : Works (handleSectionProtect payload) := by
  refine works_unlessWarming (works_withLength fun u => ?_)
  split
  · exact .nothing
  · split
    · exact .nothing
    · split
      · exact .nothing
      · exact .sectionProtected _

theorem works_protectClear (payload : List Byte) : Works (handleProtectClear payload) := by
  refine works_unlessWarming (works_withLength fun u => ?_)
  split
  · exact .nothing
  · simp only [accept]
    split
    · exact .nothing
    · exact .protectionCleared

theorem works_restart (payload : List Byte) : Works (handleRestart payload) :=
  works_unlessWarming (works_withLength fun _ => .restartAsked)

/-- Every kind of request does the work of a request. -/
theorem works_handlerOf (kind : Nat) (payload : List Byte) : Works (handlerOf kind payload) := by
  unfold handlerOf
  split
  · exact works_withLength works_reading
  · exact works_withLength works_reading
  · exact works_withRun fun _ => works_reading
  · exact works_unlessWarming (works_withLength works_reading)
  · exact works_unlessWarming (works_withLength works_reading)
  · exact works_periodRead payload
  · exact works_unlessWarming (works_withLength works_reading)
  · exact works_sectionRead payload
  · exact works_runOpen payload
  · exact works_runClose payload
  · exact works_periodClose payload
  · exact works_gasQuality payload
  · exact works_analyserReading payload
  · exact works_doseMode payload
  · exact works_manualStroke payload
  · exact works_pumpReset payload
  · exact works_eventClear payload
  · exact works_limitLock payload
  · exact works_schedule payload
  · exact works_cancel payload
  · exact works_sectionWrite payload
  · exact works_sectionProtect payload
  · exact works_protectClear payload
  · exact works_restart payload
  · exact fun _ => .nothing

end Handlers

/-! ## What a command comes to -/

/-- The part as a command finds it: its time has passed, and the custody level it carries is held (log entries 1 and 16). -/
def found (c : Instr) (s : State) : State :=
  { s.elapse c.after with pins := (s.elapse c.after).pins.found c.custody? }

/-- The bytes of a reception fault, which the model feeds through the receiver (log entry 17). -/
def faultBytes : Instr → Option (List LineByte)
  | .receiveTimeout _ bytes => some bytes.bytes
  | .frameCheckFail _ bytes => some bytes
  | .stopBitError _ bytes => some bytes
  | _ => none

/-- What a command can leave of the part it finds. -/
inductive Outcome (c : Instr) (u : State) : State → Prop
  | unchanged : Outcome c u u
  | event (v : State) (h : EventWork u c v) : Outcome c u (finish v)
  | request (kind tag : Byte) (payload : List Byte) (handle : State → Answer) (hf : c.frame? = some ⟨kind, tag, payload⟩)
      (hw : Works handle) : Outcome c u (dispatch kind tag handle (dropFrame u))
  | fault (bytes : List LineByte) (h : faultBytes c = some bytes) (hl : u.live = true) :
      Outcome c u (finish (receptionFault bytes u))

/-- The level the contact shows is held as time passes. -/
theorem elapse_showCustody (dt : Nat) (level : SwitchLevel) (s : State) :
    (showCustody level s).elapse dt = showCustody level (s.elapse dt) := by
  unfold State.elapse showCustody
  cases h : s.time.phase <;> simp [h, State.onPins]

theorem found_eq {c : Instr} (s : State) (h : c.custody? = none) : found c s = s.elapse c.after := by
  unfold found
  rw [h]
  rfl

section Commands

variable {c : Instr} {s t : State} {dt : Nat} (h : exec c s = .next t)
include h

theorem outcome_event {guard : State → Bool} {body : State → State} (he : exec c s = event dt guard body s)
    (hd : c.after = dt) (hc : c.custody? = none)
    (work : guard (s.elapse dt) = true → EventWork (s.elapse dt) c (body (s.elapse dt))) : Outcome c (found c s) t := by
  rw [found_eq s hc, hd]
  rcases event_cases _ _ _ _ _ (he.symm.trans h) with ⟨hg, rfl⟩ | ⟨_, rfl⟩
  · exact .event _ (work hg)
  · exact .unchanged

theorem outcome_fault {guard : State → Bool} {bytes : List LineByte}
    (he : exec c s = event dt guard (receptionFault bytes) s) (hd : c.after = dt) (hc : c.custody? = none)
    (hb : faultBytes c = some bytes) (hl : guard (s.elapse dt) = true → (s.elapse dt).live = true) :
    Outcome c (found c s) t := by
  rw [found_eq s hc, hd]
  rcases event_cases _ _ _ _ _ (he.symm.trans h) with ⟨hg, rfl⟩ | ⟨_, rfl⟩
  · exact .fault bytes hb (hl hg)
  · exact .unchanged

theorem outcome_contact {kind tag : Byte} {payload : List Byte} {handle : State → Answer} {s' : State}
    (he : exec c s = request dt kind tag handle s') (hu : s'.elapse dt = found c s)
    (hf : c.frame? = some ⟨kind, tag, payload⟩) (hw : Works handle) : Outcome c (found c s) t := by
  have ht := he.symm.trans h
  simp only [Machine.request, hu] at ht
  cases ht
  split
  · exact .request _ _ _ _ hf hw
  · exact .unchanged

theorem outcome_request {kind tag : Byte} {payload : List Byte} {handle : State → Answer}
    (he : exec c s = request dt kind tag handle s) (hd : c.after = dt) (hc : c.custody? = none)
    (hf : c.frame? = some ⟨kind, tag, payload⟩) (hw : Works handle) : Outcome c (found c s) t :=
  outcome_contact h he (by rw [found_eq s hc, hd]) hf hw

/-- An entry carried out: the entry is there, of its kind, and its action follows its removal (R127). -/
theorem outcome_entry {kind : EntryKind} {id : Fin 8} {action : Nat → State → State}
    (he : exec c s = carryOut kind action dt id s) (hd : c.after = dt) (hc : c.custody? = none)
    (work : ∀ u e, u.table.at id.val = some e → e.kind = kind →
      EventWork u c (action e.target (u.onTable (·.free id.val)))) : Outcome c (found c s) t := by
  refine outcome_event h he hd hc fun due => ?_
  unfold entryDue at due
  generalize s.elapse dt = u at due
  cases hat : u.table.at id.val with
  | none => simp [hat] at due
  | some e =>
    have hk : e.kind = kind := by simp_all
    exact work u e hat hk

end Commands

theorem outcome_conversion {after current : Nat} {s t : State}
    (h : exec (.conversionCompletion after current) s = .next t) :
    Outcome (.conversionCompletion after current) (found (.conversionCompletion after current) s) t := by
  refine outcome_event h (exec_conversionCompletion after current s) rfl rfl fun due => ?_
  obtain ⟨ch, hc⟩ := Option.isSome_iff_exists.mp due
  simp only [hc]
  exact .conversionCompletion after current ch hc

theorem outcome_storeWrite {after : Nat} {s t : State} (h : exec (.storeWriteComplete after) s = .next t) :
    Outcome (.storeWriteComplete after) (found (.storeWriteComplete after) s) t := by
  refine outcome_event h (exec_storeWriteComplete after s) rfl rfl fun due => ?_
  cases hw : (s.elapse after).store.writing with
  | none => simp [writeDone, hw] at due
  | some w => exact .storeWriteComplete after w hw

/-- Whatever the command, its outcome is one of `Outcome`. -/
theorem exec_outcome (c : Instr) (s t : State) (h : exec c s = .next t) : Outcome c (found c s) t := by
  cases c
  case powerOn after => exact outcome_event h (exec_powerOn after s) rfl rfl fun g => .powerOn _ (by simpa using g)
  case powerFailWarning after => exact outcome_event h (exec_powerFailWarning after s) rfl rfl fun _ => .powerFailWarning _
  case pfwRise after => exact outcome_event h (exec_pfwRise after s) rfl rfl fun _ => .pfwRise _
  case restartBegin after => exact outcome_event h (exec_restartBegin after s) rfl rfl (.restartBegin after)
  case warmupEnd after => exact outcome_event h (exec_warmupEnd after s) rfl rfl (.warmupEnd after)
  case boundary after => exact outcome_event h (exec_boundary after s) rfl rfl (.boundary after)
  case pulseEdge after r ch => exact outcome_event h (exec_pulseEdge after r ch s) rfl rfl (.pulseEdge after r ch)
  case pulseHoldOffEnd after r ch => exact outcome_event h (exec_pulseHoldOffEnd after r ch s) rfl rfl (.pulseHoldOffEnd after r ch)
  case conversionCompletion after current => exact outcome_conversion h
  case senseEdge after p => exact outcome_event h (exec_senseEdge after p s) rfl rfl (.senseEdge after p)
  case senseHoldOffEnd after p => exact outcome_event h (exec_senseHoldOffEnd after p s) rfl rfl (.senseHoldOffEnd after p)
  case driveEnd after p => exact outcome_event h (exec_driveEnd after p s) rfl rfl fun g => .driveEnd _ _ (by simpa using g)
  case recentDriveEnd after => exact outcome_event h (exec_recentDriveEnd after s) rfl rfl (.recentDriveEnd after)
  case trimHoldOffEnd after => exact outcome_event h (exec_trimHoldOffEnd after s) rfl rfl (.trimHoldOffEnd after)
  case storeWriteComplete after => exact outcome_storeWrite h
  case receiveTimeout after bytes => exact outcome_fault h (exec_receiveTimeout after bytes s) rfl rfl rfl (fun g => by simp_all)
  case frameCheckFail after bytes => exact outcome_fault h (exec_frameCheckFail after bytes s) rfl rfl rfl id
  case stopBitError after bytes => exact outcome_fault h (exec_stopBitError after bytes s) rfl rfl rfl id
  case frameSent after => exact outcome_event h (exec_frameSent after s) rfl rfl (.frameSent after)
  case lossOfSupply after => exact outcome_event h (exec_lossOfSupply after s) rfl rfl fun _ => .lossOfSupply _
  case strokeEntryDue after id => exact outcome_entry h (exec_strokeEntryDue after id s) rfl rfl fun _ => .strokeEntry after id
  case confirmEntryDue after id => exact outcome_entry h (exec_confirmEntryDue after id s) rfl rfl fun _ => .confirmEntry after id
  case auxOnEntryDue after id => exact outcome_entry h (exec_auxOnEntryDue after id s) rfl rfl fun _ => .auxOnEntry after id
  case auxOffEntryDue after id => exact outcome_entry h (exec_auxOffEntryDue after id s) rfl rfl fun _ => .auxOffEntry after id
  case closePeriodEntryDue after id => exact outcome_entry h (exec_closePeriodEntryDue after id s) rfl rfl fun _ => .closePeriodEntry after id
  case timerNoticeEntryDue after id => exact outcome_entry h (exec_timerNoticeEntryDue after id s) rfl rfl fun _ => .timerNoticeEntry after id
  case ident after tag payload =>
    exact outcome_request h (exec_ident after tag payload s) rfl rfl rfl (works_withLength works_reading)
  case stationStatus after tag payload custody =>
    exact outcome_contact h (exec_stationStatus after tag payload custody s) (elapse_showCustody _ _ _) rfl (works_withLength works_reading)
  case runStatus after tag payload =>
    exact outcome_request h (exec_runStatus after tag payload s) rfl rfl rfl (works_withRun fun _ => works_reading)
  case doseStatus after tag payload =>
    exact outcome_request h (exec_doseStatus after tag payload s) rfl rfl rfl (works_unlessWarming (works_withLength works_reading))
  case monitorStatus after tag payload =>
    exact outcome_request h (exec_monitorStatus after tag payload s) rfl rfl rfl (works_unlessWarming (works_withLength works_reading))
  case periodRead after tag payload =>
    exact outcome_request h (exec_periodRead after tag payload s) rfl rfl rfl (works_periodRead payload)
  case tableRead after tag payload =>
    exact outcome_request h (exec_tableRead after tag payload s) rfl rfl rfl (works_unlessWarming (works_withLength works_reading))
  case sectionRead after tag payload =>
    exact outcome_request h (exec_sectionRead after tag payload s) rfl rfl rfl (works_sectionRead payload)
  case runOpen after tag payload =>
    exact outcome_request h (exec_runOpen after tag payload s) rfl rfl rfl (works_runOpen payload)
  case runClose after tag payload =>
    exact outcome_request h (exec_runClose after tag payload s) rfl rfl rfl (works_runClose payload)
  case periodClose after tag payload =>
    exact outcome_request h (exec_periodClose after tag payload s) rfl rfl rfl (works_periodClose payload)
  case gasQuality after tag payload =>
    exact outcome_request h (exec_gasQuality after tag payload s) rfl rfl rfl (works_gasQuality payload)
  case analyserReading after tag payload =>
    exact outcome_request h (exec_analyserReading after tag payload s) rfl rfl rfl (works_analyserReading payload)
  case doseMode after tag payload =>
    exact outcome_request h (exec_doseMode after tag payload s) rfl rfl rfl (works_doseMode payload)
  case manualStroke after tag payload =>
    exact outcome_request h (exec_manualStroke after tag payload s) rfl rfl rfl (works_manualStroke payload)
  case pumpReset after tag payload =>
    exact outcome_request h (exec_pumpReset after tag payload s) rfl rfl rfl (works_pumpReset payload)
  case eventClear after tag payload =>
    exact outcome_request h (exec_eventClear after tag payload s) rfl rfl rfl (works_eventClear payload)
  case limitLock after tag payload =>
    exact outcome_request h (exec_limitLock after tag payload s) rfl rfl rfl (works_limitLock payload)
  case schedule after tag payload =>
    exact outcome_request h (exec_schedule after tag payload s) rfl rfl rfl (works_schedule payload)
  case cancel after tag payload =>
    exact outcome_request h (exec_cancel after tag payload s) rfl rfl rfl (works_cancel payload)
  case sectionWrite after tag payload =>
    exact outcome_request h (exec_sectionWrite after tag payload s) rfl rfl rfl (works_sectionWrite payload)
  case sectionProtect after tag payload =>
    exact outcome_request h (exec_sectionProtect after tag payload s) rfl rfl rfl (works_sectionProtect payload)
  case protectClear after tag payload custody =>
    exact outcome_contact h (exec_protectClear after tag payload custody s) (elapse_showCustody _ _ _) rfl (works_protectClear payload)
  case restart after tag payload =>
    exact outcome_request h (exec_restart after tag payload s) rfl rfl rfl (works_restart payload)
  case unknownKindRequest after kind tag payload =>
    exact outcome_request (payload := payload) h (exec_unknownKindRequest after kind tag payload s) rfl rfl
      rfl fun _ => .nothing

/-! ## The line: the replies waiting, the frame being sent and the receiver, which no work on the blocks touches -/

def line (s : State) : List Frame × Option Sending × Receiver := (s.link.queue, s.link.tx, s.link.receiver)

theorem line_of_link {s t : State} (h : t.link = s.link) : line t = line s := by unfold line; rw [h]

@[simp] theorem raise_line (c : NoticeClass) (n : Nat) (s : State) : line (raise c n s) = line s := by
  unfold raise
  split <;> rfl

@[simp] theorem raiseDosing_line (s : State) : line (raiseDosing s) = line s := raise_line _ _ s

@[simp] theorem raiseRun_line (r : RunId) (s : State) : line (raiseRun r s) = line s := raise_line _ _ s

@[simp] theorem raiseRuns_line (test : RunId → Bool) (s : State) : line (raiseRuns test s) = line s :=
  foldl_keeps line _ (fun s r => by split <;> simp) _ s

@[simp] theorem setMonitor_line (m : Fin 16) (x : MonitorState) (s : State) : line (setMonitor m x s) = line s := rfl

@[simp] theorem monitorNotices_line (m : Fin 16) (was is : MonitorState) (s : State) :
    line (monitorNotices m was is s) = line s := by
  unfold monitorNotices
  (repeat' split) <;> simp

@[simp] theorem evaluate_line (m : Fin 16) (v : Nat) (s : State) : line (evaluate m v s) = line s := by
  unfold evaluate
  split <;> simp

@[simp] theorem retuneMonitors_line (old new : MonitorsSection) (s : State) : line (retuneMonitors old new s) = line s :=
  foldl_keeps line _ (fun s m => by simp [retuneMonitor]) _ s

@[simp] theorem debtToMonitor_line (s : State) : line (debtToMonitor s) = line s := evaluate_line _ _ s

@[simp] theorem schedulingCheck_line (s : State) : line (schedulingCheck s) = line s := line_of_link (by simp)

@[simp] theorem onStation_line (f : StationAccumulators → StationAccumulators) (s : State) :
    line (onStation f s) = line s := rfl

@[simp] theorem accrue_line (v : Nat) (s : State) : line (accrue v s) = line s := by
  have h : line (debtToMonitor (accrueAccount v s)) = line s := by
    rw [debtToMonitor_line]
    exact line_of_link (by simp)
  unfold accrue
  dsimp only
  split
  · rw [schedulingCheck_line, h]
  · exact h

@[simp] theorem rateMonitors_line (b s : State) : line (rateMonitors b s) = line s :=
  foldl_keeps line _ (fun s r => by split <;> simp) _ s

@[simp] theorem closeInterval_line (s : State) : line (closeInterval s) = line s := by
  unfold closeInterval
  rw [accrue_line, rateMonitors_line, raiseRuns_line]
  rfl

@[simp] theorem settleRuns_line (s : State) : line (settleRuns s) = line s := by
  unfold settleRuns
  rw [raiseRuns_line]
  rfl

@[simp] theorem dropIntegrity_line (old : ActiveSections) (s : State) : line (dropIntegrity old s) = line s := by
  unfold dropIntegrity
  rw [raiseRuns_line]
  rfl

@[simp] theorem forgoExcess_line (s : State) : line (forgoExcess s) = line s := rfl

@[simp] theorem applyStaged_line (s : State) : line (applyStaged s) = line s := by
  have h : line (dropIntegrity s.settings.active (applySections s)) = line s := by
    rw [dropIntegrity_line]
    exact line_of_link (by simp)
  unfold applyStaged
  dsimp only
  (repeat' split) <;> simp [h]

@[simp] theorem closePeriod_line (c : CloseCause) (s : State) : line (closePeriod c s) = line s := by
  unfold closePeriod closePeriodAs
  change line (raise _ _ _) = _
  rw [raise_line]
  exact line_of_link (by simp)

@[simp] theorem lengthClose_line (s : State) : line (lengthClose s) = line s := by
  unfold lengthClose
  split <;> simp

@[simp] theorem boundaryWith_line (close : State → State) (h : ∀ s, line (close s) = line s) (s : State) :
    line (boundaryWith close s) = line s := by
  have hc : line (countInterval (applyStaged (settleRuns (clearCounts (closeInterval s))))) = line s := by
    rw [line_of_link (countInterval_link _), applyStaged_line, settleRuns_line, line_of_link (clearCounts_link _),
      closeInterval_line]
  unfold boundaryWith
  dsimp only
  rw [line_of_link (beginInterval_link _), line_of_link (markReconfig_link _ _), h, hc]

@[simp] theorem forcedClose_line (s : State) : line (forcedClose s) = line s := by
  unfold forcedClose
  split
  · exact closePeriod_line _ s
  · exact boundaryWith_line _ (closePeriod_line _) s

@[simp] theorem changeover_line (s : State) : line (changeover s) = line s := raise_line _ _ _

@[simp] theorem failPump_line (p : Side) (s : State) : line (failPump p s) = line s := by
  unfold failPump
  dsimp only
  split <;> simp <;> rfl

@[simp] theorem enterFault_line (s : State) : line (enterFault s) = line s := raise_line _ _ _

@[simp] theorem setDosingState_line (x : DosingState) (s : State) : line (setDosingState x s) = line s := rfl

@[simp] theorem withdrawStroke_line (s : State) : line (withdrawStroke s) = line s := rfl

@[simp] theorem afterStrayFailure_line (p : Side) (duty : Bool) (s : State) :
    line (afterStrayFailure p duty s) = line s := by
  unfold afterStrayFailure
  dsimp only
  (repeat' split) <;> simp

@[simp] theorem onDose_line (f : Dose → Dose) (s : State) : line (s.onDose f) = line s := rfl
@[simp] theorem onPump_line (f : Two Pump → Two Pump) (s : State) : line (s.onPump f) = line s := rfl
@[simp] theorem onTable_line (f : ActionTable → ActionTable) (s : State) : line (s.onTable f) = line s := rfl
@[simp] theorem onSense_line (f : Two (Option Nat) → Two (Option Nat)) (s : State) : line (s.onSense f) = line s := rfl
@[simp] theorem onStrokes_line (p : Side) (f : StrokeCounts → StrokeCounts) (s : State) :
    line (onStrokes p f s) = line s := rfl

@[simp] theorem pumpBecameReady_line (p : Side) (s : State) : line (pumpBecameReady p s) = line s := by
  unfold pumpBecameReady
  dsimp only
  (repeat' split) <;> simp

@[simp] theorem endDrive_line (p : Side) (s : State) : line (endDrive p s) = line s := by
  unfold endDrive
  dsimp only
  split <;> simp

@[simp] theorem endDriveIfReached_line (p : Side) (s : State) : line (endDriveIfReached p s) = line s := by
  unfold endDriveIfReached
  split <;> simp

@[simp] theorem startDrive_line (p : Side) (s : State) : line (startDrive p s) = line s := rfl

@[simp] theorem manualDrive_line (p : Side) (s : State) : line (manualDrive p s) = line s := rfl

@[simp] theorem autoDrive_line (p : Side) (s : State) : line (autoDrive p s) = line s := by
  unfold autoDrive
  dsimp only
  split <;> simp

@[simp] theorem drawDown_line (s : State) : line (drawDown s) = line s := rfl

@[simp] theorem confirmedOutcome_line (s : State) : line (confirmedOutcome s) = line s := by
  unfold confirmedOutcome
  split <;> simp

@[simp] theorem missedOutcome_line (p : Side) (s : State) : line (missedOutcome p s) = line s := by
  unfold missedOutcome
  dsimp only
  (repeat' split) <;> simp

@[simp] theorem confirmStroke_line (p : Side) (s : State) : line (confirmStroke p s) = line s := by
  simp [confirmStroke]

@[simp] theorem strayEdge_line (p : Side) (s : State) : line (strayEdge p s) = line s := by
  unfold strayEdge
  dsimp only
  (repeat' split) <;> simp

@[simp] theorem missStroke_line (p : Side) (s : State) : line (missStroke p s) = line s := by
  unfold missStroke
  dsimp only
  (repeat' split) <;> simp

@[simp] theorem deadline_line (p : Side) (s : State) : line (deadline p s) = line s := by
  unfold deadline
  dsimp only
  split <;> simp

@[simp] theorem senseEdge_line (p : Side) (s : State) : line (senseEdge p s) = line s := by
  unfold senseEdge
  dsimp only
  split <;> simp

@[simp] theorem takeReading_line (m : Nat) (s : State) : line (takeReading m s) = line s := by
  unfold takeReading
  dsimp only
  split <;> simp

@[simp] theorem changeMode_line (m : DosingMode) (s : State) : line (changeMode m s) = line s := by
  have auto : line (enterAuto s) = line s := line_of_link (by simp)
  have other : ∀ x : State, line (setMode m (setDosingState .idle (forgoAccount x))) = line x := fun _ => rfl
  cases m
  case auto => simp [changeMode, auto]
  all_goals
    simp only [changeMode]
    rw [raiseDosing_line, other]
    split <;> simp

@[simp] theorem resetPump_line (p : Side) (s : State) : line (resetPump p s) = line s := by simp [resetPump]

@[simp] theorem openRun_line (r : RunId) (s : State) : line (openRun r s) = line s := raise_line _ _ _

@[simp] theorem closeRun_line (r : RunId) (s : State) : line (closeRun r s) = line s := raise_line _ _ _

@[simp] theorem followChannel_line (c : ChannelId) (s : State) : line (followChannel c s) = line s := by
  have follow : ∀ r, line (followChannels r s) = line s := by
    intro r
    have moved : ∀ x, line (raiseRun r (setRunState r x s)) = line s := fun _ => raise_line _ _ _
    unfold followChannels
    (repeat' split) <;> simp [moved]
  unfold followChannel
  split
  · exact follow _
  · exact follow _
  · rfl

@[simp] theorem completion_line (c : ChannelId) (current : Nat) (s : State) : line (completion c current s) = line s := by
  unfold completion
  dsimp only
  rw [line_of_link (nextConversion_link _ _), evaluate_line, followChannel_line]
  rfl

/-- A request's work leaves the line alone: only its pending notices may differ. -/
theorem requestWork_line {u v : State} (h : RequestWork u v) : line v = line u := by
  cases h
  case readingTaken m => simp
  case eventCleared m => exact line_of_link (by simp)
  case locked => exact line_of_link (by simp)
  case sectionProtected i => exact line_of_link (by simp)
  case protectionCleared => exact line_of_link (by simp)
  case runOpened r => simp
  case runClosed r => simp
  case periodClosed => simp
  case modeChanged m _ _ _ => simp
  case manualStroke p _ _ => simp
  case pumpReset p => simp
  all_goals rfl

theorem requestWork_queue {u v : State} (h : RequestWork u v) : v.link.queue = u.link.queue :=
  congrArg (·.1) (requestWork_line h)

theorem requestWork_receiver {u v : State} (h : RequestWork u v) : v.link.receiver = u.link.receiver :=
  congrArg (·.2.2) (requestWork_line h)

/-- Serving the link takes the oldest reply or none. -/
theorem serveLink_queue (s : State) : ∃ k, (serveLink s).link.queue = s.link.queue.drop k ∧ k ≤ s.link.queue.length := by
  rcases serveLink_cases s with h | ⟨f, rest, hq, h⟩ | ⟨n, rest, hq, _, h⟩ <;> rw [h]
  · exact ⟨0, rfl, Nat.zero_le _⟩
  · exact ⟨1, by simp [hq], by simp [hq]⟩
  · exact ⟨0, rfl, Nat.zero_le _⟩

theorem finish_queue (s : State) : ∃ k, (finish s).link.queue = s.link.queue.drop k ∧ k ≤ s.link.queue.length := by
  have h := serveLink_queue (serveStore s)
  rw [serveStore_link] at h
  exact h

theorem finish_queue_length (s : State) : (finish s).link.queue.length ≤ s.link.queue.length := by
  obtain ⟨k, hk, _⟩ := finish_queue s
  simp [hk]

/-! ## Predicates that every step keeps -/

/-- A predicate that the passing of time, the pins, the queue of commands, the end of an event and the work of a request keep. -/
structure Kept (P : State → Prop) : Prop where
  pending : ∀ (l : List Instr) (s : State), P s → P { s with pending := l }
  elapse : ∀ (dt : Nat) (s : State), P s → P (s.elapse dt)
  pins : ∀ (p : Pins) (s : State), P s → P { s with pins := p }
  receiver : ∀ (r : Receiver) (s : State), P s → P (s.onLink fun l => { l with receiver := r })
  finish : ∀ s, P s → P (finish s)
  reply : ∀ (f : Frame) (s : State), s.link.queue.length < 4 → P s → P (queueReply f s)
  request : ∀ u v, RequestWork u v → P u → P v

namespace Kept

variable {P : State → Prop} (k : Kept P)
include k

theorem dispatch {kind tag : Byte} {handle : State → Answer} (hw : Works handle) (s : State) (h : P s) :
    P (dispatch kind tag handle s) := by
  unfold Machine.dispatch
  split
  · exact h
  · rename_i free
    refine k.finish _ (k.reply _ _ ?_ (k.finish _ (k.request _ _ (hw s) h)))
    have := finish_queue_length (handle s).state
    rw [requestWork_queue (hw s)] at this
    omega

theorem receptionFault (bytes : List LineByte) (s : State) (h : P s) : P (receptionFault bytes s) := by
  refine k.receiver _ _ ?_
  have fold : ∀ (frames : List Frame) (u : State), P u → P (frames.foldl dispatchFrame u) := by
    intro frames
    induction frames with
    | nil => exact fun _ hu => hu
    | cons f rest ih => exact fun u hu => ih _ (k.dispatch (works_handlerOf _ _) u hu)
  exact fold _ _ (k.receiver _ _ h)

/-- A command keeps the predicate when its own work does. -/
theorem exec {c : Instr} {s t : State} (h : exec c s = .next t) (hs : P s)
    (work : ∀ v, EventWork (found c s) c v → P (found c s) → P v) : P t := by
  have hu : P (found c s) := k.pins _ _ (k.elapse _ _ hs)
  cases exec_outcome c s t h with
  | unchanged => exact hu
  | event v hv => exact k.finish _ (work v hv hu)
  | request kind tag payload handle _ hw => exact k.dispatch hw _ (k.receiver _ _ hu)
  | fault bytes _ _ => exact k.finish _ (k.receptionFault bytes _ hu)

/-- Every step keeps the predicate when the work of every event does. -/
theorem step {s t : State} (h : step s = .next t) (hs : P s) (work : ∀ c u v, EventWork u c v → P u → P v) : P t := by
  cases hp : s.pending with
  | nil =>
    rw [step_idle s hp] at h
    cases h
    exact k.elapse _ _ hs
  | cons c rest =>
    rw [step_cons s c rest hp] at h
    exact k.exec h (k.pending _ _ hs) (work c _)

end Kept

end Sys2Proof.Proofs.Steps
end

section
/-! PROOFS. What the store holds and is being given: which work leaves its copies as they are, and what is true of every content
because it is true of memory (R172, R173). -/

namespace Sys2Proof.Proofs.Contents

open Sys2Proof Sys2Proof.Machine Sys2Proof.Proofs.Steps

/-! ## Work that changes no stored copy -/

/-- From `a` to `b` no stored copy changes, and no write of another content is in progress. -/
structure StoredKept (a b : Store) : Prop where
  sections : b.sections = a.sections
  flags : b.flags = a.flags
  ring : b.ring = a.ring
  resume : b.resume = a.resume
  writing : b.writing = none ∨ b.writing.map (·.content) = a.writing.map (·.content)

namespace StoredKept

theorem refl (a : Store) : StoredKept a a := ⟨rfl, rfl, rfl, rfl, .inr rfl⟩

theorem of_eq {a b : Store} (h : b = a) : StoredKept a b := h ▸ refl a

theorem trans {a b c : Store} (h : StoredKept a b) (k : StoredKept b c) : StoredKept a c where
  sections := k.sections.trans h.sections
  flags := k.flags.trans h.flags
  ring := k.ring.trans h.ring
  resume := k.resume.trans h.resume
  writing := by
    rcases k.writing with e | e
    · exact .inl e
    · rcases h.writing with f | f
      · exact .inl (by simpa [f] using e)
      · exact .inr (e.trans f)

end StoredKept

theorem storedKept_add (i : StoreItem) (st : Store) : StoredKept st (st.add i) := by
  refine ⟨rfl, rfl, rfl, rfl, .inr ?_⟩
  cases h : st.writing with
  | none => simp [Store.add, h]
  | some w =>
    simp only [Store.add, h, Option.map_some]
    split <;> rfl

theorem storedKept_addItem (i : StoreItem) (s : State) : StoredKept s.store (addItem i s).store := storedKept_add i _

theorem storedKept_addSections (which : PerSection Bool) (s : State) :
    StoredKept s.store (addSections which s).store := by
  unfold addSections
  induction sectionIds generalizing s with
  | nil => exact .refl _
  | cons i rest ih =>
    refine StoredKept.trans ?_ (ih _)
    dsimp only
    split
    · exact storedKept_addItem _ _
    · exact .refl _

theorem storedKept_applySections (s : State) : StoredKept s.store (applySections s).store := by
  unfold applySections
  dsimp only
  split
  · exact (storedKept_addSections (stagedMarks s.settings.staged) (s.onSettings _)).trans (storedKept_addItem _ _)
  · exact storedKept_addSections (stagedMarks s.settings.staged) (s.onSettings _)

theorem applyStaged_store (s : State) : (applyStaged s).store = (applySections s).store := by
  unfold applyStaged
  dsimp only
  (repeat' split) <;> simp

theorem storedKept_closePeriod (cause : CloseCause) (s : State) :
    StoredKept s.store (closePeriod cause s).store := by
  rw [closePeriod_store]
  exact (storedKept_add _ _).trans (storedKept_add _ _)

theorem storedKept_lengthClose (s : State) : StoredKept s.store (lengthClose s).store := by
  unfold lengthClose
  split
  · exact storedKept_closePeriod _ _
  · exact .refl _

theorem storedKept_boundaryWith {close : State → State} (h : ∀ s, StoredKept s.store (close s).store) (s : State) :
    StoredKept s.store (boundaryWith close s).store := by
  have before : (settleRuns (clearCounts (closeInterval s))).store = s.store := by simp
  unfold boundaryWith
  dsimp only
  rw [beginInterval_store, markReconfig_store]
  refine StoredKept.trans ?_ (h _)
  rw [countInterval_store, applyStaged_store, ← before]
  exact storedKept_applySections _

theorem storedKept_forcedClose (s : State) : StoredKept s.store (forcedClose s).store := by
  unfold forcedClose
  split
  · exact storedKept_closePeriod _ _
  · exact storedKept_boundaryWith (storedKept_closePeriod _) _

theorem startPower_storedKept (s : State) : StoredKept s.store (startPower s).store := by
  have h : (startPower s).store = (loadBlocks s).store := by simp [startPower, openFirstPeriod]
  rw [h]
  exact ⟨rfl, rfl, rfl, rfl, .inl rfl⟩

theorem storedKept_startWhenReady (s : State) : StoredKept s.store (startWhenReady s).store := by
  rcases startWhenReady_cases s with ⟨_, _, _, h⟩ | ⟨_, h⟩ <;> rw [h]
  · exact startPower_storedKept s
  · exact .refl _

theorem storedKept_powerFail (s : State) : StoredKept s.store (powerFail s).store := by
  have h : (markAbandoned s).store = s.store := by simp
  exact ⟨congrArg (·.sections) h, congrArg (·.flags) h, congrArg (·.ring) h, congrArg (·.resume) h,
    .inr (congrArg (·.writing.map (·.content)) h)⟩

theorem storedKept_restartPart (s : State) : StoredKept s.store (restartPart s).store := by
  have final : (finalClose (abandonStrokes s)).store = s.store := by
    unfold finalClose
    split <;> simp [abandonStrokes]
  have reset : ∀ b x, (startScan (announceRuns (startDosing (resetBlocks b (rereadBuild x))))).store
      = x.store.relist x.settings.unstored x.settings.flagsUnstored := by
    intro b x
    simp [resetBlocks, rereadBuild]
  unfold restartPart
  dsimp only
  rw [reset, ← final]
  exact (storedKept_closePeriod _ _).trans ⟨rfl, rfl, rfl, rfl, .inr rfl⟩

/-- No event but the end of a write and a loss of supply changes a stored copy. -/
theorem eventWork_storedKept {u v : State} {c : Instr} (h : EventWork u c v)
    (other : ∀ after, c ≠ .storeWriteComplete after ∧ c ≠ .lossOfSupply after
      ∧ (c = .powerOn after → u.time.phase ≠ .halt)) : StoredKept u.store v.store := by
  cases h
  case storeWriteComplete after w hw => exact absurd rfl (other after).1
  case lossOfSupply after => exact absurd rfl (other after).2.1
  case powerOn after _ =>
    have hp := (other after).2.2 rfl
    unfold powerUp
    dsimp only
    rw [if_neg hp]
    exact storedKept_startWhenReady (u.onPins _)
  case powerFailWarning after =>
    rw [setPfw_store]
    split
    · exact storedKept_powerFail u
    · exact .refl _
  case pfwRise after =>
    have hs : (holdRise (setPfw true u)).store = u.store := by simp
    rw [← hs]
    exact storedKept_startWhenReady _
  case restartBegin after _ => exact storedKept_restartPart u
  case boundary after _ => exact storedKept_boundaryWith storedKept_lengthClose u
  case closePeriodEntry after id e _ _ =>
    split
    · exact storedKept_forcedClose (u.onTable (·.free id.val))
    · exact .refl _
  case strokeEntry after id e _ _ =>
    refine .of_eq ?_
    split <;> simp
  case confirmEntry after id e _ _ =>
    refine .of_eq ?_
    split <;> simp
  case frameSent after _ =>
    refine .of_eq ?_
    unfold endFrame
    dsimp only
    (repeat' split) <;> rfl
  case warmupEnd after _ => exact .of_eq (startScan_store _)
  case auxOnEntry after id e _ _ => exact .of_eq (by simp)
  case auxOffEntry after id e _ _ => exact .of_eq (by simp)
  case timerNoticeEntry after id e _ _ => exact .of_eq (by simp)
  case conversionCompletion after current ch _ => exact .of_eq (by simp)
  case senseEdge after p _ => exact .of_eq (by simp)
  case driveEnd after p _ => exact .of_eq (by simp)
  all_goals exact .refl _

/-- No request changes a stored copy. -/
theorem requestWork_storedKept {u v : State} (h : RequestWork u v) : StoredKept u.store v.store := by
  cases h
  case periodClosed => exact storedKept_forcedClose u
  case sectionProtected i => exact storedKept_addItem .flags (u.onSettings _)
  case protectionCleared => exact storedKept_addItem .flags (u.onSettings _)
  case readingTaken m => exact .of_eq (by simp)
  case modeChanged m _ _ _ => exact .of_eq (by simp)
  case pumpReset p => exact .of_eq (by simp)
  case eventCleared m => exact .of_eq (by simp)
  case runOpened r => exact .of_eq (by simp)
  case runClosed r => exact .of_eq (by simp)
  case locked _ => exact .of_eq (by simp)
  all_goals exact .refl _

/-! ## What is true of every content -/

/-- The store holds a content valid, or it is being written. -/
def Has (st : Store) (c : StoreContent) : Prop := (∃ w, st.writing = some w ∧ w.content = c) ∨ CopyWritten c st

/-- A property of every content the store holds or is being given. -/
def Everywhere (Q : StoreContent → Prop) (st : Store) : Prop := ∀ c, Has st c → Q c

theorem has_of_storedKept {a b : Store} {c : StoreContent} (h : StoredKept a b) (hc : Has b c) : Has a c := by
  rcases hc with ⟨w, hw, rfl⟩ | hc
  · left
    rcases h.writing with e | e
    · simp [hw] at e
    · rw [hw] at e
      obtain ⟨x, hx, hxc⟩ := Option.map_eq_some_iff.mp e.symm
      exact ⟨x, hx, hxc⟩
  · right
    obtain ⟨hs, hf, hr, hm, _⟩ := h
    cases c <;> simpa [CopyWritten, hs, hf, hr, hm] using hc

theorem Everywhere.of_storedKept {Q : StoreContent → Prop} {a b : Store} (h : StoredKept a b) (ha : Everywhere Q a) :
    Everywhere Q b := fun c hc => ha c (has_of_storedKept h hc)

theorem storedKept_elapse (dt : Nat) (s : State) : StoredKept s.store (s.elapse dt).store := by
  have h := elapse_store_kept dt s
  refine ⟨by rw [h], by rw [h], by rw [h], by rw [h], .inr ?_⟩
  rw [elapse_writing]
  split
  · rfl
  · rw [Option.map_map]
    rfl

/-- What the last sequence of a ring's content is does not matter to the property. -/
def RingAlone (Q : StoreContent → Prop) : Prop := ∀ l q q', Q (.ring l q) → Q (.ring l q')

section Everywhere

variable {Q : StoreContent → Prop}

/-- A content put in the store is one it was to hold. -/
theorem everywhere_put (ring : RingAlone Q) {c : StoreContent} {st : Store} (hc : Q c) (h : Everywhere Q st) :
    Everywhere Q { st.put c with writing := none } := by
  intro d hd
  rcases hd with ⟨w, hw, _⟩ | hd
  · cases hw
  · have old : CopyWritten d st → Q d := fun e => h d (.inr e)
    cases c <;> cases d <;> simp only [CopyWritten, Store.put] at hd old
    case ring.ring l q l' q' =>
      cases hd
      exact ring _ _ _ hc
    case run.run r x r' x' =>
      rw [Four.get_set] at hd
      split at hd
      · cases hd
        rename_i e
        exact e ▸ hc
      · exact old hd
    case resume.resume => cases hd; exact hc
    case flags.flags => cases hd; exact hc
    case station.station => cases hd; exact hc
    case odorant.odorant => cases hd; exact hc
    case compress.compress => cases hd; exact hc
    case monitors.monitors => cases hd; exact hc
    all_goals exact old hd

/-- An item left failing holds nothing. -/
theorem everywhere_spoil {i : StoreItem} {st : Store} (h : Everywhere Q st) :
    Everywhere Q { st.spoil i with writing := none } := by
  intro d hd
  rcases hd with ⟨w, hw, _⟩ | hd
  · cases hw
  · refine h d (.inr ?_)
    have hk := (spoil_copies i st).2
    obtain ⟨h1, h2, h3, h4, h5, h6, h7, h8⟩ := hk
    have hf := (spoil_copies i st).1
    cases d with
    | resume r =>
      refine (h1 fun e => ?_).symm.trans hd
      subst e
      cases hf.symm.trans hd
    | ring l q =>
      refine (h2 fun e => ?_).symm.trans hd
      subst e
      cases hf.symm.trans hd
    | flags f =>
      refine (h3 fun e => ?_).symm.trans hd
      subst e
      cases hf.symm.trans hd
    | station x =>
      refine (h4 fun e => ?_).symm.trans hd
      subst e
      cases hf.symm.trans hd
    | run r x =>
      refine (h5 r fun e => ?_).symm.trans hd
      subst e
      cases hf.symm.trans hd
    | odorant x =>
      refine (h6 fun e => ?_).symm.trans hd
      subst e
      cases hf.symm.trans hd
    | compress x =>
      refine (h7 fun e => ?_).symm.trans hd
      subst e
      cases hf.symm.trans hd
    | monitors x =>
      refine (h8 fun e => ?_).symm.trans hd
      subst e
      cases hf.symm.trans hd

theorem everywhere_written {c : StoreContent} {st : Store} (h : Everywhere Q st) {w : StoreWrite}
    (hw : st.writing = some w) (hc : w.content = c) : Q c := h c (.inl ⟨w, hw, hc⟩)

/-- The start of a write adds the content of memory. -/
theorem everywhere_startWrite {i : StoreItem} {s : State} (hq : Q (itemContent s i)) (h : Everywhere Q s.store) :
    Everywhere Q (startWrite i s).store := by
  intro c hc
  rcases hc with ⟨w, hw, rfl⟩ | hc
  · cases hw
    exact hq
  · exact h c (.inr (by cases c <;> exact hc))

/-- An event's end keeps the property when memory has it. -/
theorem everywhere_finish {s : State} (hq : ∀ i, Q (itemContent s i)) (h : Everywhere Q s.store) :
    Everywhere Q (finish s).store := by
  rw [finish_store]
  rcases serveStore_cases s with e | ⟨i, e⟩ | e <;> rw [e]
  · exact h
  · exact everywhere_startWrite (hq i) h
  · exact everywhere_startWrite (s := s.onStore _) (hq .resume) fun c hc => h c (by cases c <;> exact hc)

theorem everywhere_completeWrite (ring : RingAlone Q) {w : StoreWrite} {s : State} (hw : s.store.writing = some w)
    (h : Everywhere Q s.store) : Everywhere Q (completeWrite w s).store := by
  have hs : (clearMarks w s).store = s.store := by simp
  unfold completeWrite
  rw [State.onStore_store, hs]
  exact everywhere_put ring (everywhere_written h hw rfl) h

theorem everywhere_loseSupply (ring : RingAlone Q) {s : State} (h : Everywhere Q s.store) :
    Everywhere Q (loseSupply s).store := by
  have kept : Everywhere Q { s.store with list := emptyWriteList, writing := none, warningResume := false } :=
    Everywhere.of_storedKept (a := s.store) ⟨rfl, rfl, rfl, rfl, .inl rfl⟩ h
  have listed : ∀ st : Store, Everywhere Q { st with writing := none } →
      Everywhere Q { st with list := emptyWriteList, writing := none, warningResume := false } :=
    fun st hst => Everywhere.of_storedKept (a := { st with writing := none }) ⟨rfl, rfl, rfl, rfl, .inl rfl⟩ hst
  change Everywhere Q { storeAfterLoss s with list := emptyWriteList, writing := none, warningResume := false }
  unfold storeAfterLoss
  split
  · exact kept
  · rename_i w hw
    split
    · split
      · exact listed _ (everywhere_spoil h)
      · exact kept
      · exact listed _ (everywhere_put ring (everywhere_written h hw rfl) h)
    · exact listed _ (everywhere_spoil h)

/-- The work of every event keeps the property. -/
theorem eventWork_everywhere (ring : RingAlone Q) {u v : State} {c : Instr} (h : EventWork u c v)
    (hu : Everywhere Q u.store) : Everywhere Q v.store := by
  by_cases write : ∃ after, c = .storeWriteComplete after
  · obtain ⟨after, rfl⟩ := write
    cases h
    exact everywhere_completeWrite ring ‹_› hu
  by_cases loss : ∃ after, c = .lossOfSupply after
  · obtain ⟨after, rfl⟩ := loss
    cases h
    unfold supplyLost
    split
    · exact hu
    · exact everywhere_loseSupply ring hu
  by_cases halted : ∃ after, c = .powerOn after ∧ u.time.phase = .halt
  · obtain ⟨after, rfl, hp⟩ := halted
    cases h
    unfold powerUp
    dsimp only
    rw [if_pos hp]
    exact (everywhere_loseSupply ring hu).of_storedKept (storedKept_startWhenReady ((loseSupply u).onPins _))
  · exact hu.of_storedKept (eventWork_storedKept h fun after =>
      ⟨fun e => write ⟨after, e⟩, fun e => loss ⟨after, e⟩, fun e f => halted ⟨after, e, f⟩⟩)

end Everywhere

/-! ## A property of memory with its contents in the store -/

/-- The part has a property `M` of memory, and every content the store holds or is being given has the property `Q`. -/
structure Holds (M : State → Prop) (Q : StoreContent → Prop) (s : State) : Prop where
  memory : M s
  stored : Everywhere Q s.store

/-- `M` speaks neither of time passing, nor of the link, the store's writes, the pins or the queue of commands; what it says of
memory, `Q` says of the contents taken from it; and the work of a request keeps it. -/
structure Memory (M : State → Prop) (Q : StoreContent → Prop) : Prop where
  ring : RingAlone Q
  elapse : ∀ dt s, M s → M (s.elapse dt)
  store : ∀ s st, M s → M { s with store := st }
  link : ∀ s l, M s → M { s with link := l }
  pins : ∀ s p, M s → M { s with pins := p }
  pending : ∀ s l, M s → M { s with pending := l }
  content : ∀ s i, M s → Q (itemContent s i)
  request : ∀ u v, RequestWork u v → M u → M v

theorem Memory.finish {M : State → Prop} {Q : StoreContent → Prop} (m : Memory M Q) {s : State} (h : M s) :
    M (finish s) := by
  rw [finish_eq]
  exact m.link { s with store := (Machine.finish s).store } _ (m.store s _ h)

theorem Memory.kept {M : State → Prop} {Q : StoreContent → Prop} (m : Memory M Q) : Kept (Holds M Q) where
  pending _ _ h := ⟨m.pending _ _ h.memory, h.stored⟩
  elapse dt s h := ⟨m.elapse _ _ h.memory, h.stored.of_storedKept (storedKept_elapse dt s)⟩
  pins _ _ h := ⟨m.pins _ _ h.memory, h.stored⟩
  receiver _ _ h := ⟨m.link _ _ h.memory, h.stored⟩
  finish s h := ⟨m.finish h.memory, everywhere_finish (fun i => m.content s i h.memory) h.stored⟩
  reply _ _ _ h := ⟨m.link _ _ h.memory, h.stored⟩
  request u v w h := ⟨m.request u v w h.memory, h.stored.of_storedKept (requestWork_storedKept w)⟩

/-- Every step keeps such a property when the work of every event keeps its part in memory. -/
theorem Memory.step {M : State → Prop} {Q : StoreContent → Prop} (m : Memory M Q) {s t : State} (h : step s = .next t)
    (hs : Holds M Q s) (work : ∀ c u v, EventWork u c v → Holds M Q u → M v) : Holds M Q t :=
  m.kept.step h hs fun c u v w hu => ⟨work c u v w hu, eventWork_everywhere m.ring w hu.stored⟩

/-! ## The store's tests as properties of its contents -/

theorem everyResume_iff (test : ResumeRecord → Bool) (st : Store) :
    st.everyResume test = true ↔ ∀ r, Has st (.resume r) → test r = true := by
  unfold Store.everyResume
  rw [Bool.and_eq_true, Option.all_eq_true]
  constructor
  · rintro ⟨copy, write⟩ r (⟨w, hw, hc⟩ | hc)
    · simpa [hc] using write w hw
    · simpa [show st.resume = .valid r from hc] using copy
  · refine fun h => ⟨?_, fun w hw => ?_⟩
    · split
      · exact h _ (.inr ‹_›)
      · rfl
    · split
      · exact h _ (.inl ⟨w, hw, ‹_›⟩)
      · rfl

theorem everyRing_iff (test : List PeriodRecord → Bool) (st : Store) :
    st.everyRing test = true ↔ ∀ l q, Has st (.ring l q) → test l = true := by
  unfold Store.everyRing
  rw [Bool.and_eq_true, Option.all_eq_true]
  constructor
  · rintro ⟨copy, write⟩ l q (⟨w, hw, hc⟩ | hc)
    · simpa [hc] using write w hw
    · simpa [show st.ring = .valid l from hc] using copy
  · refine fun h => ⟨?_, fun w hw => ?_⟩
    · split
      · exact h _ none (.inr ‹_›)
      · rfl
    · split
      · exact h _ _ (.inl ⟨w, hw, ‹_›⟩)
      · rfl

end Sys2Proof.Proofs.Contents
end

section
/-! PROOFS. The odorant account and its balance, which every step keeps (R95, R138). -/

namespace Sys2Proof.Proofs.Balance

open Sys2Proof Sys2Proof.Machine Sys2Proof.Proofs.Steps Sys2Proof.Proofs.Contents

/-! ## The purse: mode, account, residue and trim, which the work on strokes and pumps leaves alone -/

def purse (s : State) : DosingMode × Nat × Nat × Nat := (s.dose.mode, s.dose.account, s.dose.residue, s.dose.trim)

theorem purse_of_dose {s t : State} (h : t.dose = s.dose) : purse t = purse s := by unfold purse; rw [h]

@[simp] theorem schedulingCheck_purse (s : State) : purse (schedulingCheck s) = purse s := by
  unfold schedulingCheck
  split <;> rfl

@[simp] theorem setDosingState_purse (x : DosingState) (s : State) : purse (setDosingState x s) = purse s := rfl

@[simp] theorem withdrawStroke_purse (s : State) : purse (withdrawStroke s) = purse s := rfl

@[simp] theorem raiseDosing_purse (s : State) : purse (raiseDosing s) = purse s := purse_of_dose (by simp)

@[simp] theorem enterFault_purse (s : State) : purse (enterFault s) = purse s := raiseDosing_purse _

@[simp] theorem changeover_purse (s : State) : purse (changeover s) = purse s := raiseDosing_purse _

@[simp] theorem onPump_purse (f : Two Pump → Two Pump) (s : State) : purse (s.onPump f) = purse s := rfl

@[simp] theorem onTable_purse (f : ActionTable → ActionTable) (s : State) : purse (s.onTable f) = purse s := rfl

@[simp] theorem failPump_purse (p : Side) (s : State) : purse (failPump p s) = purse s := by
  unfold failPump
  dsimp only
  split <;> simp

@[simp] theorem afterStrayFailure_purse (p : Side) (duty : Bool) (s : State) :
    purse (afterStrayFailure p duty s) = purse s := by
  unfold afterStrayFailure
  dsimp only
  (repeat' split) <;> simp

theorem pumpBecameReady_purse (p : Side) (s : State) : purse (pumpBecameReady p s) = purse s := by
  have duty : ∀ x : State, purse (x.onDose fun d => { d with duty := p }) = purse x := fun _ => rfl
  unfold pumpBecameReady
  dsimp only
  (repeat' split) <;> simp [duty]

@[simp] theorem endDrive_purse (p : Side) (s : State) : purse (endDrive p s) = purse s := by
  unfold endDrive
  dsimp only
  split
  · rfl
  · exact pumpBecameReady_purse p _
  · rfl

@[simp] theorem endDriveIfReached_purse (p : Side) (s : State) : purse (endDriveIfReached p s) = purse s := by
  unfold endDriveIfReached
  split <;> simp

@[simp] theorem startDrive_purse (p : Side) (s : State) : purse (startDrive p s) = purse s := rfl

@[simp] theorem manualDrive_purse (p : Side) (s : State) : purse (manualDrive p s) = purse s := rfl

@[simp] theorem autoDrive_purse (p : Side) (s : State) : purse (autoDrive p s) = purse s := by
  unfold autoDrive
  dsimp only
  split <;> simp

@[simp] theorem strayEdge_purse (p : Side) (s : State) : purse (strayEdge p s) = purse s := by
  have strokes : ∀ f, purse (raiseDosing (onStrokes p f s)) = purse s := fun f => raiseDosing_purse _
  unfold strayEdge
  dsimp only
  (repeat' split) <;> simp [strokes]

@[simp] theorem resetPump_purse (p : Side) (s : State) : purse (resetPump p s) = purse s := by
  unfold resetPump
  rw [pumpBecameReady_purse, raiseDosing_purse, onPump_purse]

@[simp] theorem enterAuto_account (s : State) : (enterAuto s).dose.account = s.dose.account := rfl

/-! ## The ledger: the account and the part of the period's figures it is made of (R95, R138) -/

def ledger (s : State) : Nat × Nat × Nat × Nat × Nat × List PeriodRecord :=
  let a := s.recorder.station
  (s.dose.account, a.autoDelivered, a.forgone, a.accountOpen, a.owed, s.recorder.ring)

/-- The account balances in the period in progress and in every record of the ring. -/
structure Balanced (s : State) : Prop where
  period : s.recorder.station.balances s.dose.account = true
  records : s.recorder.ring.all PeriodRecord.balances = true

theorem balances_iff {a : StationAccumulators} {account : Nat} :
    a.balances account = true ↔ account + a.autoDelivered + a.forgone = a.accountOpen + a.owed := by
  simp [StationAccumulators.balances]

theorem Balanced.of_ledger {s t : State} (b : Balanced s) (h : ledger t = ledger s) : Balanced t := by
  simp only [ledger, Prod.mk.injEq] at h
  obtain ⟨hacc, hauto, hforgone, hopen, howed, hring⟩ := h
  refine ⟨?_, hring ▸ b.records⟩
  rw [balances_iff, hacc, hauto, hforgone, hopen, howed]
  exact balances_iff.mp b.period

theorem ledger_of {s t : State} (hd : t.dose.account = s.dose.account) (hr : t.recorder = s.recorder) :
    ledger t = ledger s := by
  unfold ledger
  rw [hd, hr]

theorem account_of_purse {s t : State} (h : purse t = purse s) : t.dose.account = s.dose.account :=
  congrArg (·.2.1) h

theorem ledger_of_purse {s t : State} (h : purse t = purse s) (hr : t.recorder = s.recorder) : ledger t = ledger s :=
  ledger_of (account_of_purse h) hr

/-- Station accumulators updated outside the balance. -/
theorem ledger_onStation {f : StationAccumulators → StationAccumulators} {s : State}
    (h : ∀ a, (f a).autoDelivered = a.autoDelivered ∧ (f a).forgone = a.forgone ∧ (f a).accountOpen = a.accountOpen
      ∧ (f a).owed = a.owed) : ledger (onStation f s) = ledger s := by
  obtain ⟨h1, h2, h3, h4⟩ := h s.recorder.station
  simp [ledger, onStation, h1, h2, h3, h4]

@[simp] theorem onStrokes_ledger (p : Side) (f : StrokeCounts → StrokeCounts) (s : State) :
    ledger (onStrokes p f s) = ledger s := ledger_onStation fun _ => ⟨rfl, rfl, rfl, rfl⟩

@[simp] theorem raiseDosing_ledger (s : State) : ledger (raiseDosing s) = ledger s := ledger_of (by simp) (by simp)

@[simp] theorem debtToMonitor_ledger (s : State) : ledger (debtToMonitor s) = ledger s := ledger_of (by simp) (by simp)

@[simp] theorem schedulingCheck_ledger (s : State) : ledger (schedulingCheck s) = ledger s :=
  ledger_of_purse (by simp) (by simp)

@[simp] theorem enterFault_ledger (s : State) : ledger (enterFault s) = ledger s := raiseDosing_ledger _

@[simp] theorem changeover_ledger (s : State) : ledger (changeover s) = ledger s := by
  unfold changeover
  rw [raiseDosing_ledger]
  exact ledger_onStation fun _ => ⟨rfl, rfl, rfl, rfl⟩

@[simp] theorem failPump_ledger (p : Side) (s : State) : ledger (failPump p s) = ledger s := by
  have failed : ∀ f, ledger (raiseDosing (s.onPump f)) = ledger s := fun f => raiseDosing_ledger _
  unfold failPump
  dsimp only
  split <;> simp [failed]

@[simp] theorem missedOutcome_ledger (p : Side) (s : State) : ledger (missedOutcome p s) = ledger s := by
  have state : ∀ x, ledger (s.onDose fun d => { d with massInFlight := 0, state := x }) = ledger s := fun _ => rfl
  have misses : ∀ x, ledger (onStation (fun a => { a with manualMisses := a.manualMisses + 1 }) x) = ledger x :=
    fun _ => ledger_onStation fun _ => ⟨rfl, rfl, rfl, rfl⟩
  unfold missedOutcome
  dsimp only
  (repeat' split) <;> simp [state, misses]

@[simp] theorem missStroke_ledger (p : Side) (s : State) : ledger (missStroke p s) = ledger s := by
  have pumps : ∀ f, ledger (s.onPump f) = ledger s := fun _ => rfl
  unfold missStroke
  dsimp only
  (repeat' split) <;> simp [pumps]

@[simp] theorem endDriveIfReached_ledger (p : Side) (s : State) : ledger (endDriveIfReached p s) = ledger s :=
  ledger_of_purse (by simp) (by simp)

@[simp] theorem deadline_ledger (p : Side) (s : State) : ledger (deadline p s) = ledger s := by
  unfold deadline
  dsimp only
  split <;> simp

theorem strayEdge_ledger (p : Side) (s : State) : ledger (strayEdge p s) = ledger s := by
  have after : ∀ b x, ledger (afterStrayFailure p b x) = ledger x := fun b x => ledger_of_purse (by simp) (by simp)
  have pumps : ∀ f x, ledger (State.onPump f x) = ledger x := fun _ _ => rfl
  unfold strayEdge
  dsimp only
  (repeat' split) <;> simp [after, pumps]

/-! ## Work on the account, and its balance -/

theorem balanced_onPeriod {s t : State} (b : Balanced s) (hr : t.recorder.ring = s.recorder.ring)
    (h : t.recorder.station.balances t.dose.account = true) : Balanced t := ⟨h, hr ▸ b.records⟩

theorem Balanced.equation {s : State} (b : Balanced s) :
    s.dose.account + s.recorder.station.autoDelivered + s.recorder.station.forgone
      = s.recorder.station.accountOpen + s.recorder.station.owed := balances_iff.mp b.period

theorem balanced_forgoAccount {s : State} (b : Balanced s) : Balanced (forgoAccount s) := by
  refine balanced_onPeriod b rfl (balances_iff.mpr ?_)
  have := b.equation
  simp only [forgoAccount, onStation, State.onRecorder_recorder, State.onRecorder_dose, State.onDose_dose,
    State.onDose_recorder]
  omega

theorem balanced_forgoExcess {s : State} (b : Balanced s) : Balanced (forgoExcess s) := by
  refine balanced_onPeriod b rfl (balances_iff.mpr ?_)
  have := b.equation
  simp only [forgoExcess, onStation, State.onRecorder_recorder, State.onRecorder_dose, State.onDose_dose,
    State.onDose_recorder]
  omega

theorem balanced_drawDown {s : State} (b : Balanced s) : Balanced (drawDown s) := by
  refine balanced_onPeriod b rfl (balances_iff.mpr ?_)
  have := b.equation
  simp only [drawDown, onStation, State.onRecorder_recorder, State.onRecorder_dose, State.onDose_dose,
    State.onDose_recorder]
  omega

theorem balanced_accrue {vbs : Nat} {s : State} (b : Balanced s) : Balanced (accrue vbs s) := by
  have formed : Balanced (accrueAccount vbs s) := by
    refine balanced_onPeriod b rfl (balances_iff.mpr ?_)
    have := b.equation
    simp only [accrueAccount, onStation, State.onRecorder_recorder, State.onRecorder_dose, State.onDose_dose,
      State.onDose_recorder]
    split <;> omega
  have handed := Balanced.of_ledger formed (debtToMonitor_ledger (accrueAccount vbs s))
  unfold accrue
  dsimp only
  split
  · exact Balanced.of_ledger handed (schedulingCheck_ledger _)
  · exact handed

theorem balanced_confirmedOutcome {s : State} (b : Balanced s) : Balanced (confirmedOutcome s) := by
  unfold confirmedOutcome
  split
  · exact Balanced.of_ledger (balanced_drawDown b) (by simp)
  · refine Balanced.of_ledger b ?_
    rw [debtToMonitor_ledger]
    exact ledger_onStation fun _ => ⟨rfl, rfl, rfl, rfl⟩
  · exact b

theorem balanced_senseEdge {p : Side} {s : State} (b : Balanced s) : Balanced (senseEdge p s) := by
  unfold senseEdge
  dsimp only
  split
  · refine balanced_confirmedOutcome (Balanced.of_ledger b ?_)
    rw [raiseDosing_ledger, onStrokes_ledger]
    rfl
  · exact Balanced.of_ledger (Balanced.of_ledger b rfl) (strayEdge_ledger p _)

theorem balanced_closePeriod {cause : CloseCause} {s : State} (b : Balanced s) : Balanced (closePeriod cause s) := by
  have hd : (closePeriod cause s).dose = s.dose := by simp
  constructor
  · rw [closePeriod_recorder, hd]
    simp [openPeriod, openStation, StationAccumulators.balances]
  · rw [closePeriod_recorder]
    refine List.all_eq_true.mpr fun x hx => ?_
    rcases List.mem_cons.mp (List.mem_of_mem_take hx) with rfl | hx
    · exact b.period
    · exact List.all_eq_true.mp b.records x hx

theorem balanced_closeInterval {s : State} (b : Balanced s) : Balanced (closeInterval s) := by
  refine balanced_accrue (Balanced.of_ledger b ?_)
  simp [ledger, closeRecorder, closeRuns]

theorem balanced_applyStaged {s : State} (b : Balanced s) : Balanced (applyStaged s) := by
  have applied : Balanced (dropIntegrity s.settings.active (applySections s)) :=
    Balanced.of_ledger b (ledger_of (by simp) (by simp))
  have retuned : ∀ old new x, Balanced x → Balanced (retuneMonitors old new x) :=
    fun old new x hx => Balanced.of_ledger hx (ledger_of (by simp) (by simp))
  have checked : ∀ x, Balanced x → Balanced (schedulingCheck (forgoExcess x)) :=
    fun x hx => Balanced.of_ledger (balanced_forgoExcess hx) (schedulingCheck_ledger _)
  unfold applyStaged
  dsimp only
  generalize dropIntegrity s.settings.active (applySections s) = x at applied ⊢
  split <;> split
  · exact checked _ (retuned _ _ _ applied)
  · exact checked _ applied
  · exact retuned _ _ _ applied
  · exact applied

theorem countInterval_ledger (s : State) : ledger (countInterval s) = ledger s := rfl

theorem balanced_boundaryWith {close : State → State} (h : ∀ s, Balanced s → Balanced (close s)) {s : State}
    (b : Balanced s) : Balanced (boundaryWith close s) := by
  have settled : Balanced (settleRuns (clearCounts (closeInterval s))) :=
    Balanced.of_ledger (balanced_closeInterval b) (ledger_of (by simp) (by simp))
  have counted : Balanced (countInterval (applyStaged (settleRuns (clearCounts (closeInterval s))))) :=
    Balanced.of_ledger (balanced_applyStaged settled) (countInterval_ledger _)
  exact Balanced.of_ledger (h _ counted) rfl

theorem balanced_lengthClose {s : State} (b : Balanced s) : Balanced (lengthClose s) := by
  unfold lengthClose
  split
  · exact balanced_closePeriod b
  · exact b

theorem balanced_forcedClose {s : State} (b : Balanced s) : Balanced (forcedClose s) := by
  unfold forcedClose
  split
  · exact balanced_closePeriod b
  · exact balanced_boundaryWith (fun _ => balanced_closePeriod) b

theorem balanced_changeMode {m : DosingMode} {s : State} (b : Balanced s) : Balanced (changeMode m s) := by
  have mode : ∀ x (y : State), Balanced y → Balanced (setMode x y) := fun x y hy =>
    Balanced.of_ledger hy rfl
  have leave : ∀ x : State, Balanced x → Balanced (raiseDosing (setMode m (setDosingState .idle (forgoAccount x)))) :=
    fun x hx => Balanced.of_ledger (mode _ _ (Balanced.of_ledger (balanced_forgoAccount hx) rfl)) (raiseDosing_ledger _)
  have withdrawn : Balanced (if s.dose.state = .strokeWait then withdrawStroke s else s) := by
    split
    · exact Balanced.of_ledger b rfl
    · exact b
  cases m
  case auto =>
    refine Balanced.of_ledger b ?_
    simp only [changeMode, raiseDosing_ledger, schedulingCheck_ledger]
    rfl
  case off => exact leave _ withdrawn
  case manual => exact leave _ withdrawn

/-! ## Starts -/

theorem balanced_startDosing {s : State} (b : Balanced s) : Balanced (startDosing s) := by
  unfold startDosing
  dsimp only
  split
  · exact Balanced.of_ledger b (by rw [raiseDosing_ledger, schedulingCheck_ledger]; rfl)
  · exact Balanced.of_ledger (balanced_forgoAccount (Balanced.of_ledger b rfl)) rfl

theorem scan_ledger (s : State) : ledger (startScan (announceRuns s)) = ledger s := ledger_of (by simp) (by simp)

theorem rereadBuild_ledger (s : State) : ledger (rereadBuild s) = ledger s := rfl

theorem resetBlocks_ledger (b : Build) (s : State) : ledger (resetBlocks b s) = ledger s := rfl

theorem balanced_restartPart {s : State} (b : Balanced s) : Balanced (restartPart s) := by
  have abandoned : Balanced (abandonStrokes s) := by
    unfold abandonStrokes markAbandoned
    split
    · exact Balanced.of_ledger b rfl
    · exact Balanced.of_ledger b rfl
  have final : Balanced (finalClose (abandonStrokes s)) := by
    unfold finalClose
    split
    · exact Balanced.of_ledger (balanced_closeInterval abandoned) (countInterval_ledger _)
    · exact abandoned
  have reset : ∀ b x, Balanced x → Balanced (resetBlocks b (rereadBuild x)) := fun _ _ hx =>
    Balanced.of_ledger (Balanced.of_ledger hx (rereadBuild_ledger _)) (resetBlocks_ledger _ _)
  have closed := reset s.settings.build _ (balanced_closePeriod (cause := .restart) final)
  unfold restartPart
  dsimp only
  exact Balanced.of_ledger (balanced_startDosing closed) (scan_ledger _)

/-- What is true of a content of the store: the period and the records in it balance. -/
def ContentBalances : StoreContent → Prop
  | .resume r => r.balances = true
  | .ring l _ => l.all PeriodRecord.balances = true
  | _ => True

theorem dosesBalance_iff (s : State) : s.dosesBalance = true ↔ Holds Balanced ContentBalances s := by
  unfold State.dosesBalance
  rw [Bool.and_eq_true, Bool.and_eq_true, Bool.and_eq_true, everyResume_iff, everyRing_iff]
  constructor
  · rintro ⟨⟨⟨period, records⟩, rings⟩, resumes⟩
    refine ⟨⟨period, records⟩, fun c hc => ?_⟩
    cases c with
    | resume r => exact resumes r hc
    | ring l q => exact rings l q hc
    | _ => trivial
  · rintro ⟨⟨period, records⟩, stored⟩
    exact ⟨⟨⟨period, records⟩, fun l q h => stored _ h⟩, fun r h => stored _ h⟩

/-- The records power-on loads are of the store's (R148, R149). -/
theorem loadRing_balances {st : Store} (h : Everywhere ContentBalances st) :
    (loadRing st.ring st.resume).ring.all PeriodRecord.balances = true := by
  have ring : ∀ l, st.ring = .valid l → ∀ x ∈ l, x.balances = true := fun l hl =>
    List.all_eq_true.mp (h (.ring l none) (.inr hl))
  have resume : ∀ r, st.resume = .valid r → ∀ x ∈ r.unstored, x.balances = true := fun r hr => by
    have := h (.resume r) (.inr hr)
    simp only [ContentBalances, ResumeRecord.balances, Bool.and_eq_true] at this
    exact List.all_eq_true.mp this.2
  refine List.all_eq_true.mpr fun x hx => ?_
  unfold loadRing at hx
  split at hx
  · rename_i l r hl hr
    dsimp only at hx
    split at hx
    · rcases List.mem_append.mp (List.mem_of_mem_take hx) with hx | hx
      · exact resume r hr x (List.mem_of_mem_filter hx)
      · exact ring l hl x hx
    · exact resume r hr x (List.mem_of_mem_take hx)
  · rename_i r hr _
    exact resume r hr x (List.mem_of_mem_take hx)
  · rename_i l hl _
    exact ring l hl x (List.mem_of_mem_take hx)
  · cases hx

theorem balanced_startPower {s : State} (h : Everywhere ContentBalances s.store) : Balanced (startPower s) := by
  have opened : Balanced (openFirstPeriod (loadBlocks s)) := by
    refine ⟨by simp [openFirstPeriod, openPeriod, openStation, StationAccumulators.balances, loadBlocks], ?_⟩
    refine List.all_eq_true.mpr fun x hx => ?_
    change x ∈ (closeResumed s.store).ring at hx
    have base := List.all_eq_true.mp (loadRing_balances h)
    unfold closeResumed at hx
    split at hx
    · rename_i r hr
      have valid : s.store.resume = .valid r := by
        unfold resumeOf at hr
        split at hr <;> simp_all
      have balanced := h (.resume r) (.inr valid)
      simp only [ContentBalances, ResumeRecord.balances, Bool.and_eq_true] at balanced
      rcases List.mem_cons.mp (List.mem_of_mem_take hx) with rfl | hx
      · simpa [PeriodRecord.balances, powerRecord, buildRecord, loadRecorder, hr] using balanced.1
      · exact base x (by simpa [loadRecorder, hr] using hx)
    · rename_i hr
      exact base x (by simpa [loadRecorder, hr, freshRecorder] using hx)
  unfold startPower
  exact Balanced.of_ledger (balanced_startDosing (balanced_forgoExcess opened)) (scan_ledger _)

theorem balanced_startWhenReady {s : State} (h : Holds Balanced ContentBalances s) : Balanced (startWhenReady s) := by
  rcases startWhenReady_cases s with ⟨_, _, _, e⟩ | ⟨_, e⟩ <;> rw [e]
  · exact balanced_startPower h.stored
  · exact h.memory

theorem ringAlone_contentBalances : RingAlone ContentBalances := fun _ _ _ h => h

theorem balanced_loseSupply (s : State) : Balanced (loseSupply s) := ⟨rfl, rfl⟩

/-- The balance of memory stands in the contents taken from it. -/
theorem balanced_memory : Memory Balanced ContentBalances where
  ring := ringAlone_contentBalances
  elapse dt s h := Balanced.of_ledger h (ledger_of (by simp) (by simp))
  store _ _ h := ⟨h.period, h.records⟩
  link _ _ h := ⟨h.period, h.records⟩
  pins _ _ h := ⟨h.period, h.records⟩
  pending _ _ h := ⟨h.period, h.records⟩
  content s i h := by
    cases i with
    | resume =>
      simp only [itemContent, ContentBalances, ResumeRecord.balances, resumeContent, Bool.and_eq_true]
      refine ⟨h.period, List.all_eq_true.mpr fun x hx => List.all_eq_true.mp h.records x ?_⟩
      exact (List.takeWhile_sublist _).mem hx
    | ring => exact h.records
    | flags => trivial
    | sectionCopy j => cases j <;> trivial
  request u v w h := by
    cases w
    case periodClosed => exact balanced_forcedClose h
    case modeChanged m _ _ _ => exact balanced_changeMode h
    case readingTaken m =>
      refine Balanced.of_ledger h (ledger_of ?_ (by simp))
      unfold takeReading
      dsimp only
      split <;> simp
    case eventCleared m => exact Balanced.of_ledger h (ledger_of (by simp) (by simp))
    case pumpReset p => exact Balanced.of_ledger h (ledger_of_purse (by simp) (by simp))
    case sectionProtected i => exact Balanced.of_ledger h (ledger_of (by simp) (by simp))
    case runOpened r => exact Balanced.of_ledger h (ledger_of (by simp) (by simp))
    case runClosed r => exact Balanced.of_ledger h (ledger_of (by simp) (by simp))
    all_goals exact Balanced.of_ledger h rfl

/-- The work of every event keeps the balance. -/
theorem eventWork_balanced {u v : State} {c : Instr} (w : EventWork u c v) (h : Holds Balanced ContentBalances u) :
    Balanced v := by
  have b := h.memory
  cases w
  case powerOn after _ =>
    unfold powerUp
    dsimp only
    split
    · exact balanced_startWhenReady ⟨balanced_memory.pins _ _ (balanced_loseSupply u),
        everywhere_loseSupply ringAlone_contentBalances h.stored⟩
    · exact balanced_startWhenReady ⟨balanced_memory.pins _ _ b, h.stored⟩
  case powerFailWarning after =>
    refine Balanced.of_ledger b ?_
    split
    · unfold powerFail markAbandoned
      split <;> rfl
    · rfl
  case pfwRise after =>
    refine balanced_startWhenReady ⟨?_, by simpa using h.stored⟩
    exact Balanced.of_ledger b (ledger_of (by simp) (by simp))
  case restartBegin after _ => exact balanced_restartPart b
  case boundary after _ => exact balanced_boundaryWith (fun _ => balanced_lengthClose) b
  case conversionCompletion after current ch _ => exact Balanced.of_ledger b (ledger_of (by simp) (by simp))
  case senseEdge after p _ => exact balanced_senseEdge b
  case driveEnd after p _ => exact Balanced.of_ledger b (ledger_of_purse (by simp) (by simp))
  case strokeEntry after id e _ _ =>
    split
    · exact Balanced.of_ledger b (ledger_of_purse (by simp) (by simp))
    · exact Balanced.of_ledger b rfl
  case confirmEntry after id e _ _ =>
    split
    · exact Balanced.of_ledger (Balanced.of_ledger b rfl) (deadline_ledger _ _)
    · exact Balanced.of_ledger b rfl
  case auxOnEntry after id e _ _ => exact Balanced.of_ledger b (ledger_of (by simp) (by simp))
  case auxOffEntry after id e _ _ => exact Balanced.of_ledger b (ledger_of (by simp) (by simp))
  case closePeriodEntry after id e _ _ =>
    split
    · exact balanced_forcedClose (Balanced.of_ledger b rfl)
    · exact Balanced.of_ledger b rfl
  case timerNoticeEntry after id e _ _ => exact Balanced.of_ledger b (ledger_of (by simp) (by simp))
  case storeWriteComplete after x _ =>
    refine Balanced.of_ledger b ?_
    unfold completeWrite clearMarks
    dsimp only
    (repeat' split) <;> rfl
  case frameSent after _ =>
    refine Balanced.of_ledger b ?_
    unfold endFrame
    dsimp only
    (repeat' split) <;> rfl
  case lossOfSupply after =>
    unfold supplyLost
    split
    · exact Balanced.of_ledger b rfl
    · exact balanced_loseSupply u
  all_goals exact Balanced.of_ledger b rfl

/-- Settles O52: the balance stands in memory and in every content of the store, and the work of every event and of every
request keeps it there. -/
theorem doseBalanceKept : Obligations.DoseBalanceKept := by
  intro s t hs h
  rw [dosesBalance_iff] at hs ⊢
  exact balanced_memory.step h hs fun _ _ _ => eventWork_balanced

end Sys2Proof.Proofs.Balance
end

section
/-! PROOFS. The record ring with its last sequence, and the totals: which work leaves them alone, and the ring's order, which every
step keeps (R139, R141, R148). -/

namespace Sys2Proof.Proofs.Ring

open Sys2Proof Sys2Proof.Machine Sys2Proof.Proofs.Steps Sys2Proof.Proofs.Contents Sys2Proof.Proofs.Balance

/-! ## The books: ring, last sequence and totals, which the work on strokes, pumps and modes leaves alone -/

def books (s : State) : (List PeriodRecord × Option Time) × Four Totals :=
  ((s.recorder.ring, s.recorder.lastSequence), s.recorder.totals)

theorem books_of {s t : State} (h : t.recorder = s.recorder) : books t = books s := by unfold books; rw [h]

@[simp] theorem onStation_books (f : StationAccumulators → StationAccumulators) (s : State) :
    books (onStation f s) = books s := rfl

@[simp] theorem onStrokes_books (p : Side) (f : StrokeCounts → StrokeCounts) (s : State) :
    books (onStrokes p f s) = books s := rfl

@[simp] theorem onDose_books (f : Dose → Dose) (s : State) : books (s.onDose f) = books s := rfl
@[simp] theorem onPump_books (f : Two Pump → Two Pump) (s : State) : books (s.onPump f) = books s := rfl
@[simp] theorem onTable_books (f : ActionTable → ActionTable) (s : State) : books (s.onTable f) = books s := rfl
@[simp] theorem forgoAccount_books (s : State) : books (forgoAccount s) = books s := rfl
@[simp] theorem forgoExcess_books (s : State) : books (forgoExcess s) = books s := rfl
@[simp] theorem setDosingState_books (x : DosingState) (s : State) : books (setDosingState x s) = books s := rfl
@[simp] theorem withdrawStroke_books (s : State) : books (withdrawStroke s) = books s := rfl
@[simp] theorem raiseDosing_books (s : State) : books (raiseDosing s) = books s := books_of (by simp)
@[simp] theorem debtToMonitor_books (s : State) : books (debtToMonitor s) = books s := books_of (by simp)
@[simp] theorem schedulingCheck_books (s : State) : books (schedulingCheck s) = books s := books_of (by simp)
@[simp] theorem enterFault_books (s : State) : books (enterFault s) = books s := raiseDosing_books _
@[simp] theorem changeover_books (s : State) : books (changeover s) = books s := raiseDosing_books _
@[simp] theorem drawDown_books (s : State) : books (drawDown s) = books s := rfl

@[simp] theorem accrue_books (vbs : Nat) (s : State) : books (accrue vbs s) = books s := by
  have formed : books (accrueAccount vbs s) = books s := rfl
  unfold accrue
  dsimp only
  split <;> simp [formed]

@[simp] theorem failPump_books (p : Side) (s : State) : books (failPump p s) = books s := by
  unfold failPump
  dsimp only
  split <;> simp

@[simp] theorem afterStrayFailure_books (p : Side) (duty : Bool) (s : State) :
    books (afterStrayFailure p duty s) = books s := by
  unfold afterStrayFailure
  dsimp only
  (repeat' split) <;> simp

@[simp] theorem missedOutcome_books (p : Side) (s : State) : books (missedOutcome p s) = books s := by
  unfold missedOutcome
  dsimp only
  (repeat' split) <;> simp

@[simp] theorem missStroke_books (p : Side) (s : State) : books (missStroke p s) = books s := by
  unfold missStroke
  dsimp only
  (repeat' split) <;> simp

@[simp] theorem deadline_books (p : Side) (s : State) : books (deadline p s) = books s := by
  have ended : books (endDriveIfReached p s) = books s := books_of (by simp)
  unfold deadline
  dsimp only
  split <;> simp [ended]

@[simp] theorem confirmedOutcome_books (s : State) : books (confirmedOutcome s) = books s := by
  unfold confirmedOutcome
  split <;> simp

@[simp] theorem strayEdge_books (p : Side) (s : State) : books (strayEdge p s) = books s := by
  unfold strayEdge
  dsimp only
  (repeat' split) <;> simp

@[simp] theorem senseEdge_books (p : Side) (s : State) : books (senseEdge p s) = books s := by
  have sense : ∀ f, books (s.onSense f) = books s := fun _ => rfl
  unfold senseEdge
  dsimp only
  split <;> simp [confirmStroke, sense]

@[simp] theorem changeMode_books (m : DosingMode) (s : State) : books (changeMode m s) = books s := by
  have mode : ∀ x : State, books (setMode m x) = books x := fun _ => rfl
  have auto : books (enterAuto s) = books s := rfl
  cases m
  case auto => simp [changeMode, auto]
  all_goals
    simp only [changeMode, raiseDosing_books, mode, setDosingState_books, forgoAccount_books]
    split <;> simp

@[simp] theorem startDosing_books (s : State) : books (startDosing s) = books s := by
  unfold startDosing
  dsimp only
  split
  · rw [raiseDosing_books, schedulingCheck_books]
    rfl
  · rfl

@[simp] theorem abandonStrokes_books (s : State) : books (abandonStrokes s) = books s := by
  unfold abandonStrokes markAbandoned
  split <;> rfl

@[simp] theorem applyStaged_books (s : State) : books (applyStaged s) = books s := by
  have applied : books (dropIntegrity s.settings.active (applySections s)) = books s := books_of (by simp)
  have retuned : ∀ old new x, books (retuneMonitors old new x) = books x := fun _ _ _ => books_of (by simp)
  unfold applyStaged
  dsimp only
  generalize dropIntegrity s.settings.active (applySections s) = x at applied ⊢
  (repeat' split) <;> simp [retuned, applied]

@[simp] theorem takeReading_books (m : Nat) (s : State) : books (takeReading m s) = books s := books_of (by simp)

@[simp] theorem countInterval_books (s : State) : books (countInterval s) = books s := rfl

@[simp] theorem markReconfig_books (which : RunId → Bool) (s : State) : books (markReconfig which s) = books s := rfl

/-- The totals alone are taken forward at the end of an interval. -/
theorem closeInterval_books (s : State) : books (closeInterval s) = ((books s).1, (closeRecorder s).totals) := by
  unfold closeInterval
  rw [accrue_books]
  simp [books, closeRuns, closeRecorder]

/-- A close puts its record on the ring. -/
theorem closePeriod_books (cause : CloseCause) (s : State) :
    ∃ x : PeriodRecord, x.sequence = nextSequence s.recorder.lastSequence
      ∧ books (closePeriod cause s) = (((x :: s.recorder.ring).take ringSize, some x.sequence), s.recorder.totals) := by
  refine ⟨closeRecord cause s, rfl, ?_⟩
  simp [books, openPeriod, placeRecord]

/-! ## Rings in order -/

/-- At most 48 records with consecutive numbers, the newest bearing `last`. -/
structure Ordered (ring : List PeriodRecord) (last : Option Time) : Prop where
  size : ring.length ≤ ringSize
  rising : consecutive ring = true
  newest : ring = [] ∨ newestSequence ring = last

theorem ringInOrder_iff {ring : List PeriodRecord} {last : Option Time} :
    ringInOrder ring last = true ↔ Ordered ring last := by
  unfold ringInOrder
  rw [Bool.and_eq_true, Bool.and_eq_true, Bool.or_eq_true, List.isEmpty_iff, beq_iff_eq, decide_eq_true_iff]
  exact ⟨fun ⟨⟨a, b⟩, c⟩ => ⟨a, b, c⟩, fun ⟨a, b, c⟩ => ⟨⟨a, b⟩, c⟩⟩

theorem consecutive_take {ring : List PeriodRecord} (h : consecutive ring = true) (n : Nat) :
    consecutive (ring.take n) = true := by
  induction ring generalizing n with
  | nil => simp [consecutive]
  | cons a rest ih =>
    cases n with
    | zero => simp [consecutive]
    | succ n =>
      cases rest with
      | nil => simp [consecutive]
      | cons b rest =>
        rw [consecutive, Bool.and_eq_true] at h
        have tail := ih h.2 n
        cases n with
        | zero => simp [consecutive]
        | succ n =>
          rw [List.take_succ_cons] at tail
          rw [List.take_succ_cons, List.take_succ_cons, consecutive, Bool.and_eq_true]
          exact ⟨h.1, tail⟩

theorem newest_take {ring : List PeriodRecord} {n : Nat} (hn : n ≠ 0) : newestSequence (ring.take n) = newestSequence ring := by
  cases n with
  | zero => exact absurd rfl hn
  | succ n => cases ring <;> rfl

theorem Ordered.take {ring : List PeriodRecord} {last : Option Time} (h : Ordered ring last) (n : Nat) :
    Ordered (ring.take n) last where
  size := (List.length_take_le' n ring).trans h.size
  rising := consecutive_take h.rising n
  newest := by
    by_cases hn : n = 0
    · exact .inl (by simp [hn])
    · rw [newest_take hn]
      exact h.newest.imp (fun e => by simp [e]) id

theorem ordered_unstored {ring : List PeriodRecord} {last : Option Time} (h : Ordered ring last) (through : Option Time) :
    Ordered (unstoredRecords ring through) last := by
  unfold unstoredRecords
  rw [List.takeWhile_eq_take_findIdx_not]
  exact h.take _

/-- A record with the next number goes on a ring in order. -/
theorem Ordered.place {ring : List PeriodRecord} {last : Option Time} (h : Ordered ring last) {x : PeriodRecord}
    (hx : x.sequence = nextSequence last) : Ordered ((x :: ring).take ringSize) (some x.sequence) where
  size := List.length_take_le _ _
  rising := by
    refine consecutive_take ?_ _
    cases ring with
    | nil => rfl
    | cons y rest =>
      have hy : some y.sequence = last := h.newest.resolve_left (List.cons_ne_nil _ _)
      rw [consecutive, h.rising, Bool.and_true, hx, ← hy]
      exact beq_self_eq_true _
  newest := .inr rfl

/-! ## The ring in memory and in the store -/

def RingOrdered (s : State) : Prop := Ordered s.recorder.ring s.recorder.lastSequence

/-- A stored ring, and the unstored records of a resume record with its last sequence, are in order. -/
def ContentOrdered : StoreContent → Prop
  | .ring l _ => Ordered l (newestSequence l)
  | .resume r => Ordered r.unstored r.lastSequence
  | _ => True

theorem recordsInOrder_iff (s : State) : s.recordsInOrder = true ↔ Holds RingOrdered ContentOrdered s := by
  unfold State.recordsInOrder
  rw [Bool.and_eq_true, Bool.and_eq_true, everyRing_iff, everyResume_iff, ringInOrder_iff]
  constructor
  · rintro ⟨⟨memory, rings⟩, resumes⟩
    refine ⟨memory, fun c hc => ?_⟩
    cases c with
    | resume r => exact ringInOrder_iff.mp (resumes r hc)
    | ring l q => exact ringInOrder_iff.mp (rings l q hc)
    | _ => trivial
  · rintro ⟨memory, stored⟩
    exact ⟨⟨memory, fun l q h => ringInOrder_iff.mpr (stored _ h)⟩, fun r h => ringInOrder_iff.mpr (stored _ h)⟩

theorem RingOrdered.of_books {s t : State} (h : RingOrdered s) (e : (books t).1 = (books s).1) : RingOrdered t := by
  unfold RingOrdered at *
  simp only [books, Prod.mk.injEq] at e
  rw [e.1, e.2]
  exact h

theorem RingOrdered.of_recorder {s t : State} (h : RingOrdered s) (e : t.recorder = s.recorder) : RingOrdered t :=
  h.of_books (congrArg Prod.fst (books_of e))

theorem ordered_closePeriod {cause : CloseCause} {s : State} (h : RingOrdered s) : RingOrdered (closePeriod cause s) := by
  obtain ⟨x, hx, hb⟩ := closePeriod_books cause s
  simp only [books, Prod.mk.injEq] at hb
  unfold RingOrdered
  rw [hb.1.1, hb.1.2]
  exact h.place hx

theorem ordered_closeInterval {s : State} (h : RingOrdered s) : RingOrdered (closeInterval s) :=
  h.of_books (by rw [closeInterval_books])

theorem ordered_boundaryWith {close : State → State} (hc : ∀ s, RingOrdered s → RingOrdered (close s)) {s : State}
    (h : RingOrdered s) : RingOrdered (boundaryWith close s) := by
  have settled : RingOrdered (settleRuns (clearCounts (closeInterval s))) :=
    (ordered_closeInterval h).of_recorder (by simp)
  have applied : RingOrdered (applyStaged (settleRuns (clearCounts (closeInterval s)))) :=
    settled.of_books (by rw [applyStaged_books])
  have counted : RingOrdered (countInterval (applyStaged (settleRuns (clearCounts (closeInterval s))))) :=
    applied.of_books (by rw [countInterval_books])
  have marked := (hc _ counted).of_books (congrArg Prod.fst (markReconfig_books (reconfigRuns s.settings) _))
  exact marked.of_recorder (beginInterval_recorder _)

theorem ordered_lengthClose {s : State} (h : RingOrdered s) : RingOrdered (lengthClose s) := by
  unfold lengthClose
  split
  · exact ordered_closePeriod h
  · exact h

theorem ordered_forcedClose {s : State} (h : RingOrdered s) : RingOrdered (forcedClose s) := by
  unfold forcedClose
  split
  · exact ordered_closePeriod h
  · exact ordered_boundaryWith (fun _ => ordered_closePeriod) h

theorem rereadBuild_books (s : State) : books (rereadBuild s) = books s := rfl

theorem resetBlocks_ring (b : Build) (s : State) : (books (resetBlocks b s)).1 = (books s).1 := rfl

theorem ordered_restartPart {s : State} (h : RingOrdered s) : RingOrdered (restartPart s) := by
  have abandoned : RingOrdered (abandonStrokes s) := h.of_books (by rw [abandonStrokes_books])
  have final : RingOrdered (finalClose (abandonStrokes s)) := by
    unfold finalClose
    split
    · exact (ordered_closeInterval abandoned).of_books (congrArg Prod.fst (countInterval_books _))
    · exact abandoned
  have reset : ∀ b x, RingOrdered x → RingOrdered (resetBlocks b (rereadBuild x)) := fun _ _ hx =>
    (hx.of_books (by rw [rereadBuild_books])).of_books (resetBlocks_ring _ _)
  have closed := reset s.settings.build _ (ordered_closePeriod (cause := .restart) final)
  have started : RingOrdered (startDosing (resetBlocks s.settings.build
      (rereadBuild (closePeriod .restart (finalClose (abandonStrokes s)))))) :=
    closed.of_books (by rw [startDosing_books])
  unfold restartPart
  exact started.of_recorder (by simp)

/-- What power-on loads is in order when what the store holds is (R148). -/
theorem ordered_loadRing {st : Store} (h : Everywhere ContentOrdered st) :
    Ordered (loadRing st.ring st.resume).ring (loadRing st.ring st.resume).last := by
  have resume : ∀ r, st.resume = .valid r → Ordered r.unstored r.lastSequence := fun r hr => h (.resume r) (.inr hr)
  unfold loadRing
  split
  · rename_i l r hl hr
    dsimp only
    split
    · rename_i stands
      rw [mergeStands, Bool.and_eq_true, beq_iff_eq] at stands
      exact ⟨List.length_take_le _ _, stands.1, .inr stands.2⟩
    · exact (resume r hr).take _
  · exact (resume _ ‹_›).take _
  · rename_i l hl _
    exact (h (.ring l none) (.inr hl) : Ordered l _).take _
  · exact ⟨Nat.zero_le _, rfl, .inl rfl⟩

theorem ordered_closeResumed {st : Store} (h : Everywhere ContentOrdered st) :
    Ordered (closeResumed st).ring (closeResumed st).lastSequence := by
  have loaded : Ordered (loadRecorder st).ring (loadRecorder st).lastSequence := by
    have base := ordered_loadRing h
    unfold loadRecorder
    dsimp only
    split <;> exact base
  unfold closeResumed
  split
  · exact loaded.place rfl
  · exact loaded

theorem ordered_startWhenReady {s : State} (h : Holds RingOrdered ContentOrdered s) : RingOrdered (startWhenReady s) := by
  rcases startWhenReady_cases s with ⟨_, _, _, e⟩ | ⟨_, e⟩ <;> rw [e]
  · have opened : RingOrdered (forgoExcess (openFirstPeriod (loadBlocks s))) := ordered_closeResumed h.stored
    have started : RingOrdered (startDosing (forgoExcess (openFirstPeriod (loadBlocks s)))) :=
      opened.of_books (by rw [startDosing_books])
    unfold startPower
    exact started.of_recorder (by simp)
  · exact h.memory

theorem ordered_loseSupply (s : State) : RingOrdered (loseSupply s) := ⟨Nat.zero_le _, rfl, .inl rfl⟩

theorem ringAlone_contentOrdered : RingAlone ContentOrdered := fun _ _ _ h => h

/-- The contents taken from memory are in order with it. -/
theorem ordered_memory : Memory RingOrdered ContentOrdered where
  ring := ringAlone_contentOrdered
  elapse dt s h := h.of_recorder (by simp)
  store _ _ h := h
  link _ _ h := h
  pins _ _ h := h
  pending _ _ h := h
  content s i h := by
    cases i with
    | resume => exact ordered_unstored h _
    | ring => exact ⟨h.size, h.rising, .inr rfl⟩
    | flags => trivial
    | sectionCopy j => cases j <;> trivial
  request u v w h := by
    cases w
    case periodClosed => exact ordered_forcedClose h
    case modeChanged m _ _ _ => exact h.of_books (by simp)
    case readingTaken m => exact h.of_recorder (by simp)
    case eventCleared m => exact h.of_recorder (by simp)
    case pumpReset p => exact h.of_recorder (by simp)
    case sectionProtected i => exact h.of_recorder (by simp)
    case runOpened r => exact h.of_recorder (by simp)
    case runClosed r => exact h.of_recorder (by simp)
    all_goals exact h

/-- The work of every event keeps the ring in order. -/
theorem eventWork_ordered {u v : State} {c : Instr} (w : EventWork u c v) (h : Holds RingOrdered ContentOrdered u) :
    RingOrdered v := by
  have o := h.memory
  cases w
  case powerOn after _ =>
    unfold powerUp
    dsimp only
    split
    · exact ordered_startWhenReady ⟨ordered_loseSupply u, everywhere_loseSupply ringAlone_contentOrdered h.stored⟩
    · exact ordered_startWhenReady ⟨o, h.stored⟩
  case powerFailWarning after =>
    split
    · unfold powerFail markAbandoned
      split <;> exact o
    · exact o
  case pfwRise after =>
    refine ordered_startWhenReady ⟨?_, by simpa using h.stored⟩
    exact o.of_recorder (by simp)
  case restartBegin after _ => exact ordered_restartPart o
  case boundary after _ => exact ordered_boundaryWith (fun _ => ordered_lengthClose) o
  case conversionCompletion after current ch _ => exact o.of_recorder (by simp)
  case senseEdge after p _ => exact o.of_books (by simp)
  case driveEnd after p _ => exact o.of_recorder (by simp)
  case strokeEntry after id e _ _ =>
    split
    · exact o.of_recorder (by simp)
    · exact o
  case confirmEntry after id e _ _ =>
    split
    · exact o.of_books (by simp)
    · exact o
  case auxOnEntry after id e _ _ => exact o.of_recorder (by simp)
  case auxOffEntry after id e _ _ => exact o.of_recorder (by simp)
  case closePeriodEntry after id e _ _ =>
    split
    · exact ordered_forcedClose (s := u.onTable _) o
    · exact o
  case timerNoticeEntry after id e _ _ => exact o.of_recorder (by simp)
  case storeWriteComplete after x _ =>
    unfold completeWrite clearMarks
    dsimp only
    (repeat' split) <;> exact o
  case frameSent after _ =>
    unfold endFrame
    dsimp only
    (repeat' split) <;> exact o
  case lossOfSupply after =>
    unfold supplyLost
    split
    · exact o
    · exact ordered_loseSupply u
  all_goals exact o

/-- Settles O54: a close puts a record with the next number on the ring, power-on loads a ring whose numbers run on, and no other
work touches it. -/
theorem recordRingKept : Obligations.RecordRingKept := by
  intro s t hs h
  rw [recordsInOrder_iff] at hs ⊢
  exact ordered_memory.step h hs fun _ _ _ => eventWork_ordered

end Sys2Proof.Proofs.Ring
end

section
/-! PROOFS. Which steps change a stored copy and which add a reply (R172, R181). -/

namespace Sys2Proof.Proofs.Replies

open Sys2Proof Sys2Proof.Machine Sys2Proof.Proofs.Steps Sys2Proof.Proofs.Contents

/-! ## The stored copies -/

def copies (st : Store) := (st.sections, st.flags, st.ring, st.resume)

theorem copies_finish (s : State) : copies (finish s).store = copies s.store := by
  obtain ⟨h1, h2, h3, h4⟩ := finish_stored s
  unfold copies
  rw [h1, h2, h3, h4]

theorem copies_of_storedKept {a b : Store} (h : StoredKept a b) : copies b = copies a := by
  unfold copies
  rw [h.sections, h.flags, h.ring, h.resume]

/-- Neither time, nor the link, nor an event's end, nor a request changes a stored copy. -/
theorem copies_kept (x) : Kept fun s => copies s.store = x where
  pending _ _ h := h
  elapse dt s h := (copies_of_storedKept (storedKept_elapse dt s)).trans h
  pins _ _ h := h
  receiver _ _ h := h
  finish s h := (copies_finish s).trans h
  reply _ _ _ h := h
  request _ _ w h := (copies_of_storedKept (requestWork_storedKept w)).trans h

theorem exec_copies {c : Instr} {s t : State} (h : exec c s = .next t)
    (other : ∀ after, c ≠ .storeWriteComplete after ∧ c ≠ .lossOfSupply after
      ∧ (c = .powerOn after → (found c s).time.phase ≠ .halt)) : copies t.store = copies s.store :=
  (copies_kept _).exec h rfl fun _ w hu => (copies_of_storedKept (eventWork_storedKept w other)).trans hu

/-! ## The line after an event -/

/-- Some of the oldest replies have been taken. -/
def Taken (before after : List Frame) : Prop := ∃ k, after = before.drop k

theorem Taken.of_eq {a b : List Frame} (h : b = a) : Taken a b := ⟨0, h⟩

theorem Taken.trans {a b c : List Frame} (h : Taken a b) (k : Taken b c) : Taken a c := by
  obtain ⟨i, rfl⟩ := h
  obtain ⟨j, rfl⟩ := k
  exact ⟨i + j, List.drop_drop⟩

theorem taken_finish (s : State) : Taken s.link.queue (finish s).link.queue := (finish_queue s).imp fun _ h => h.1

/-- Nothing has been added to the queue, and the receiver is where it was or in HUNT. -/
structure LineLeft (a b : Link) : Prop where
  queue : Taken a.queue b.queue
  receiver : b.receiver = a.receiver ∨ b.receiver = huntReceiver

theorem lineLeft_of_line {s t : State} (h : line t = line s) : LineLeft s.link t.link :=
  ⟨.of_eq (congrArg (·.1) h), .inl (congrArg (·.2.2) h)⟩

theorem lineLeft_of_link {s t : State} (h : t.link = s.link) : LineLeft s.link t.link := lineLeft_of_line (line_of_link h)

/-- The link has been set up afresh. -/
theorem lineLeft_idle (a : Link) {t : State} (h : line t = ([], none, huntReceiver)) : LineLeft a t.link :=
  ⟨⟨a.queue.length, (congrArg (·.1) h).trans (by simp)⟩, .inr (congrArg (·.2.2) h)⟩

@[simp] theorem startDosing_line (s : State) : line (startDosing s) = line s := by
  unfold startDosing
  dsimp only
  split
  · rw [raiseDosing_line, schedulingCheck_line]
    rfl
  · rfl

@[simp] theorem announceRuns_line (s : State) : line (announceRuns s) = line s := raiseRuns_line _ _

@[simp] theorem startScan_line (s : State) : line (startScan s) = line s := line_of_link (by simp)

theorem startPower_line (s : State) : line (startPower s) = ([], none, huntReceiver) := by
  unfold startPower
  rw [startScan_line, announceRuns_line, startDosing_line]
  rfl

theorem restartPart_line (s : State) : line (restartPart s) = ([], none, huntReceiver) := by
  unfold restartPart
  dsimp only
  rw [startScan_line, announceRuns_line, startDosing_line]
  rfl

theorem lineLeft_startWhenReady (s : State) : LineLeft s.link (startWhenReady s).link := by
  rcases startWhenReady_cases s with ⟨_, _, _, h⟩ | ⟨_, h⟩ <;> rw [h]
  · exact lineLeft_idle _ (startPower_line s)
  · exact lineLeft_of_link rfl

/-- No event's work adds a reply or moves the receiver out of HUNT. -/
theorem eventWork_lineLeft {u v : State} {c : Instr} (w : EventWork u c v) : LineLeft u.link v.link := by
  cases w
  case powerOn after _ =>
    unfold powerUp
    dsimp only
    split
    · refine lineLeft_idle _ ?_
      rcases startWhenReady_cases ((loseSupply u).onPins fun p => { p with supply := true }) with ⟨_, _, _, h⟩ | ⟨_, h⟩
        <;> rw [h]
      · exact startPower_line _
      · rfl
    · exact lineLeft_startWhenReady (u.onPins _)
  case powerFailWarning after =>
    split
    · exact ⟨.of_eq (by simp [powerFail]), .inr rfl⟩
    · exact lineLeft_of_link (by simp)
  case pfwRise after =>
    have h := lineLeft_startWhenReady (holdRise (setPfw true u))
    rwa [holdRise_link, setPfw_link] at h
  case restartBegin after _ => exact lineLeft_idle _ (restartPart_line u)
  case warmupEnd after _ => exact lineLeft_of_link (startScan_link _)
  case boundary after _ => exact lineLeft_of_line (boundaryWith_line _ lengthClose_line u)
  case conversionCompletion after current ch _ => exact lineLeft_of_line (by simp)
  case senseEdge after p _ => exact lineLeft_of_line (by simp)
  case driveEnd after p _ => exact lineLeft_of_line (by simp)
  case strokeEntry after id e _ _ =>
    refine lineLeft_of_line ?_
    split <;> simp
  case confirmEntry after id e _ _ =>
    refine lineLeft_of_line ?_
    split <;> simp
  case auxOnEntry after id e _ _ => exact lineLeft_of_link (by simp)
  case auxOffEntry after id e _ _ => exact lineLeft_of_link (by simp)
  case closePeriodEntry after id e _ _ =>
    refine lineLeft_of_line ?_
    split <;> simp
  case timerNoticeEntry after id e _ _ => exact lineLeft_of_line (by simp)
  case storeWriteComplete after x _ => exact lineLeft_of_link (by simp)
  case frameSent after _ =>
    unfold endFrame
    dsimp only
    (repeat' split) <;> exact ⟨.of_eq rfl, .inl rfl⟩
  case lossOfSupply after =>
    unfold supplyLost
    split
    · exact lineLeft_of_link rfl
    · exact lineLeft_idle _ rfl
  all_goals exact lineLeft_of_link rfl

/-! ## Replies added -/

/-- A request adds one reply at most, at the end. -/
theorem dispatch_queue {kind tag : Byte} {handle : State → Answer} (hw : Works handle) (s : State) :
    ∃ (k : Nat) (f : Frame), (dispatch kind tag handle s).link.queue = (s.link.queue ++ [f]).drop k
      ∨ (dispatch kind tag handle s).link.queue = s.link.queue := by
  unfold dispatch
  split
  · exact ⟨0, ⟨kind, tag, []⟩, .inr rfl⟩
  · obtain ⟨i, hi, hle⟩ := finish_queue (handle s).state
    rw [requestWork_queue (hw s)] at hi hle
    dsimp only
    generalize (⟨replyKind _ kind, tag, replyPayload _ _⟩ : Frame) = f
    obtain ⟨j, hj, _⟩ := finish_queue (queueReply f (finish (handle s).state))
    refine ⟨i + j, f, .inl ?_⟩
    rw [hj, queueReply, State.onLink_link, hi, ← List.drop_append_of_le_length hle, List.drop_drop]

theorem found_queue (c : Instr) (s : State) : (found c s).link.queue = s.link.queue := State.elapse_queue _ s

/-- Settles O58: only the end of a write and a loss of supply touch a copy, only a reply queued adds to the queue. -/
theorem storedCopiesAndRepliesKept : Obligations.StoredCopiesAndRepliesKept := by
  intro s t c rest hp h
  rw [step_cons s c rest hp] at h
  have queue : (found c { s with pending := rest }).link.queue = s.link.queue := found_queue _ _
  refine ⟨fun other => ?_, fun hf hb => ?_, fun hf => ?_⟩
  · have kept := exec_copies h fun after => ⟨(other after).1, (other after).2.1, fun e hh =>
      (other after).2.2 e (by simpa [found] using hh)⟩
    simpa [copies] using kept
  · cases exec_outcome c _ t h with
    | unchanged => exact Taken.of_eq queue
    | event v w =>
      have left := (eventWork_lineLeft w).queue.trans (taken_finish v)
      rwa [queue] at left
    | request kind tag payload handle e _ => rw [hf] at e; cases e
    | fault bytes e _ =>
      cases c <;> cases e
      case receiveTimeout.refl after b _ => exact absurd rfl ((hb after b.bytes).1 b.gap)
      case frameCheckFail.refl after _ => exact absurd rfl (hb after bytes).2.1
      case stopBitError.refl after _ => exact absurd rfl (hb after bytes).2.2
  · cases exec_outcome c _ t h with
    | unchanged => exact ⟨0, ⟨0, 0, []⟩, .inr queue⟩
    | event v w => cases w <;> exact absurd rfl hf
    | request kind tag payload handle e hw =>
      have added := dispatch_queue (kind := kind) (tag := tag) hw (dropFrame (found c { s with pending := rest }))
      have hq : (dropFrame (found c { s with pending := rest })).link.queue = s.link.queue := queue
      rwa [hq] at added
    | fault bytes e _ => cases c <;> cases e <;> exact absurd rfl hf

end Sys2Proof.Proofs.Replies
end

section
/-! PROOFS. Every copy of every section passes the checks of R164, and the limit lock holds the monitors' settings (R159). -/

namespace Sys2Proof.Proofs.Sections

open Sys2Proof Sys2Proof.Machine Sys2Proof.Proofs.Steps Sys2Proof.Proofs.Contents

/-! ## The settings after a boundary -/

/-- The settings once every staged copy has become active. -/
def appliedSettings (g : Settings) : Settings :=
  { g with
    active :=
      { station := g.staged.station.getD g.active.station
        run := .tabulate fun r => (g.staged.run.get r).getD (g.active.run.get r)
        odorant := g.staged.odorant.getD g.active.odorant
        compress := g.staged.compress.getD g.active.compress
        monitors := g.staged.monitors.getD g.active.monitors }
    staged := noneStaged
    defaulted := PerSection.zip (fun d m => d && !m) g.defaulted (stagedMarks g.staged)
    unstored := PerSection.zip (· || ·) g.unstored (stagedMarks g.staged)
    heatingValue := g.stagedHeatingValue.getD g.heatingValue, stagedHeatingValue := none }

@[simp] theorem applySections_settings (s : State) : (applySections s).settings = appliedSettings s.settings := by
  unfold applySections
  dsimp only
  split <;> simp [appliedSettings]

@[simp] theorem applyStaged_settings (s : State) : (applyStaged s).settings = appliedSettings s.settings := by
  unfold applyStaged
  dsimp only
  (repeat' split) <;> simp

theorem boundaryWith_settings {close : State → State} (h : ∀ s, (close s).settings = s.settings) (s : State) :
    (boundaryWith close s).settings = appliedSettings s.settings := by
  simp [boundaryWith, h]

theorem forcedClose_settings (s : State) :
    (forcedClose s).settings = s.settings ∨ (forcedClose s).settings = appliedSettings s.settings := by
  unfold forcedClose
  split
  · exact .inl (closePeriod_settings _ s)
  · exact .inr (boundaryWith_settings (closePeriod_settings _) s)

theorem restartPart_settings (s : State) : (restartPart s).settings =
    { s.settings with
      staged := noneStaged, stagedHeatingValue := none, build := (restartPart s).settings.build } := by
  have final : (finalClose (abandonStrokes s)).settings = s.settings := by
    unfold finalClose
    split <;> simp [abandonStrokes]
  unfold restartPart
  dsimp only
  simp [resetBlocks, rereadBuild, final]

theorem restartPart_build (s : State) : ∃ st, StoredKept s.store st ∧ ((restartPart s).settings.build
    = s.settings.active.station.build ∨ (restartPart s).settings.build = storedBuild st) := by
  have final : (finalClose (abandonStrokes s)).settings = s.settings := by
    unfold finalClose
    split <;> simp [abandonStrokes]
  have store : (finalClose (abandonStrokes s)).store = s.store := by
    unfold finalClose
    split <;> simp [abandonStrokes]
  let x := closePeriod .restart (finalClose (abandonStrokes s))
  let y := (x.onSettings fun g => { g with staged := noneStaged, stagedHeatingValue := none }).onStore
    (·.relist s.settings.unstored s.settings.flagsUnstored)
  have hx : x.settings = s.settings := by simp [x, final]
  have build : (restartPart s).settings.build = restartBuild y := by
    unfold restartPart
    dsimp only
    simp [resetBlocks, rereadBuild, y, x, final]
  have kept : StoredKept s.store y.store := by
    rw [← store]
    exact (storedKept_closePeriod _ _).trans ⟨rfl, rfl, rfl, rfl, .inr rfl⟩
  refine ⟨y.store, kept, ?_⟩
  rw [build]
  unfold restartBuild
  split
  · left
    simp [y, hx]
  · exact .inr rfl

/-! ## Copies that pass the checks -/

theorem four_all_iff {α : Type} {test : α → Bool} {x : Four α} :
    x.toList.all test = true ↔ ∀ r, test (x.get r) = true := by
  simp [Four.toList, Four.get, Fin.forall_fin_succ]

/-- Every active copy passes the checks. -/
structure ActiveValid (a : ActiveSections) : Prop where
  station : a.station.valid = true
  run : ∀ r, (a.run.get r).valid = true
  odorant : a.odorant.valid = true
  compress : a.compress.valid = true
  monitors : monitorsValid a.monitors = true

theorem active_valid_iff {a : ActiveSections} : a.valid = true ↔ ActiveValid a := by
  unfold ActiveSections.valid
  simp only [Bool.and_eq_true, four_all_iff]
  exact ⟨fun ⟨⟨⟨⟨h1, h2⟩, h3⟩, h4⟩, h5⟩ => ⟨h1, h2, h3, h4, h5⟩, fun ⟨h1, h2, h3, h4, h5⟩ => ⟨⟨⟨⟨h1, h2⟩, h3⟩, h4⟩, h5⟩⟩

/-- Every staged copy passes the checks. -/
structure StagedValid (g : StagedSections) : Prop where
  station : g.station.all StationSection.valid = true
  run : ∀ r, (g.run.get r).all RunSection.valid = true
  odorant : g.odorant.all OdorantSection.valid = true
  compress : g.compress.all CompressSection.valid = true
  monitors : g.monitors.all monitorsValid = true

theorem staged_valid_iff {g : StagedSections} : g.valid = true ↔ StagedValid g := by
  unfold StagedSections.valid
  simp only [Bool.and_eq_true, four_all_iff]
  exact ⟨fun ⟨⟨⟨⟨h1, h2⟩, h3⟩, h4⟩, h5⟩ => ⟨h1, h2, h3, h4, h5⟩, fun ⟨h1, h2, h3, h4, h5⟩ => ⟨⟨⟨⟨h1, h2⟩, h3⟩, h4⟩, h5⟩⟩

theorem stagedValid_none : StagedValid noneStaged := staged_valid_iff.mp rfl

theorem getD_valid {α : Type} {test : α → Bool} {staged : Option α} {active : α} (hs : staged.all test = true)
    (ha : test active = true) : test (staged.getD active) = true := by
  cases staged <;> simp_all

/-- The settings pass the checks: every copy and the active build. -/
structure Checked (g : Settings) : Prop where
  active : ActiveValid g.active
  staged : StagedValid g.staged
  build : g.build.valid = true

theorem checked_applied {g : Settings} (h : Checked g) : Checked (appliedSettings g) where
  active :=
    { station := getD_valid h.staged.station h.active.station
      run := fun r => by
        simp only [appliedSettings, Four.get_tabulate]
        exact getD_valid (h.staged.run r) (h.active.run r)
      odorant := getD_valid h.staged.odorant h.active.odorant
      compress := getD_valid h.staged.compress h.active.compress
      monitors := getD_valid h.staged.monitors h.active.monitors }
  staged := stagedValid_none
  build := h.build

theorem Checked.restage {g : Settings} (h : Checked g) {x : StagedSections} (hx : StagedValid x) :
    Checked { g with staged := x } := ⟨h.active, hx, h.build⟩

theorem stagedValid_drop {g : StagedSections} (h : StagedValid g) (i : SectionId) : StagedValid (dropStaged i g) := by
  obtain ⟨h1, h2, h3, h4, h5⟩ := h
  cases i with
  | run r =>
    refine ⟨h1, fun q => ?_, h3, h4, h5⟩
    simp only [dropStaged, Four.get_set]
    split
    · rfl
    · exact h2 q
  | station => exact ⟨rfl, h2, h3, h4, h5⟩
  | odorant => exact ⟨h1, h2, rfl, h4, h5⟩
  | compress => exact ⟨h1, h2, h3, rfl, h5⟩
  | monitors => exact ⟨h1, h2, h3, h4, rfl⟩

/-! ## What is read from a record passes the checks -/

theorem decodeStation_valid {bs : List Byte} {c : StationSection} (h : decodeStation bs = some c) : c.valid = true := by
  unfold decodeStation at h
  simp only [Option.bind_eq_bind, Option.bind_eq_some_iff, Option.ite_none_right_eq_some, Option.some.injEq] at h
  obtain ⟨_, _, _, _, _, _, valid, rfl⟩ := h
  exact valid

theorem decodeRun_valid {bs : List Byte} {c : RunSection} (h : decodeRun bs = some c) : c.valid = true := by
  unfold decodeRun at h
  simp only [Option.bind_eq_bind, Option.bind_eq_some_iff, Option.ite_none_right_eq_some, Option.some.injEq] at h
  obtain ⟨_, _, _, _, _, _, valid, rfl⟩ := h
  exact valid

theorem decodeOdorant_valid {bs : List Byte} {c : OdorantSection} (h : decodeOdorant bs = some c) : c.valid = true := by
  unfold decodeOdorant at h
  simp only [Option.bind_eq_bind, Option.bind_eq_some_iff, Option.ite_none_right_eq_some, Option.some.injEq] at h
  obtain ⟨_, _, _, _, valid, rfl⟩ := h
  exact valid

theorem decodeCompress_valid {bs : List Byte} {c : CompressSection} (h : decodeCompress bs = some c) :
    c.valid = true := by
  unfold decodeCompress at h
  simp only [Option.ite_none_right_eq_some, Option.some.injEq] at h
  obtain ⟨valid, rfl⟩ := h
  exact valid

theorem decodeMonitor_valid {low : Bool} {bs : List Byte} {offset : Nat} {c : MonitorSettings}
    (h : decodeMonitor low bs offset = some c) : c.valid low = true := by
  unfold decodeMonitor at h
  dsimp only at h
  split at h
  · cases h
  · simp only [Option.ite_none_right_eq_some, Option.some.injEq] at h
    obtain ⟨valid, rfl⟩ := h
    exact valid

/-- The four monitors of a group from `first` on pass the check of R153. -/
def groupValid (first : Fin 16) (g : Four MonitorSettings) : Bool :=
  g.r0.valid (lowSense first) && g.r1.valid (lowSense (first + 1)) && g.r2.valid (lowSense (first + 2))
    && g.r3.valid (lowSense (first + 3))

theorem monitorsValid_groups (c : MonitorsSection) : monitorsValid c
    = (groupValid 0 c.rate && groupValid 4 c.pressure && groupValid 8 c.temperature && groupValid 12 c.station) := by
  simp only [monitorsValid, monitorIds, List.all_cons, List.all_nil, Bool.and_true, groupValid, Bool.and_assoc]
  rfl

theorem decodeMonitorGroup_valid {first : Fin 16} {bs : List Byte} {offset : Nat} {g : Four MonitorSettings}
    (h : decodeMonitorGroup first bs offset = some g) : groupValid first g = true := by
  unfold decodeMonitorGroup at h
  simp only [Option.bind_eq_bind, Option.bind_eq_some_iff, Option.some.injEq] at h
  obtain ⟨m0, h0, m1, h1, m2, h2, m3, h3, rfl⟩ := h
  simp [groupValid, decodeMonitor_valid h0, decodeMonitor_valid h1, decodeMonitor_valid h2, decodeMonitor_valid h3]

theorem decodeMonitorsHalf_valid {base c : MonitorsSection} {bs : List Byte} (hb : monitorsValid base = true)
    (h : decodeMonitorsHalf base bs = some c) : monitorsValid c = true := by
  rw [monitorsValid_groups] at hb ⊢
  simp only [Bool.and_eq_true] at hb
  obtain ⟨⟨⟨b0, b1⟩, b2⟩, b3⟩ := hb
  unfold decodeMonitorsHalf at h
  simp only [Option.bind_eq_bind, Option.bind_eq_some_iff] at h
  obtain ⟨upper, -, h⟩ := h
  split at h <;> simp only [Option.bind_eq_some_iff, Option.some.injEq] at h <;> obtain ⟨g, hg, k, hk, rfl⟩ := h
  · simp [b0, b1, decodeMonitorGroup_valid hg, decodeMonitorGroup_valid hk]
  · simp [b2, b3, decodeMonitorGroup_valid hg, decodeMonitorGroup_valid hk]

theorem stageRecord_valid {i : SectionId} {bs : List Byte} {g : Settings} {x : StagedSections} (hg : Checked g)
    (h : stageRecord i bs g = some x) : StagedValid x := by
  obtain ⟨h1, h2, h3, h4, h5⟩ := hg.staged
  cases i with
  | station =>
    obtain ⟨c, hc, rfl⟩ := Option.map_eq_some_iff.mp h
    exact ⟨decodeStation_valid hc, h2, h3, h4, h5⟩
  | run r =>
    obtain ⟨c, hc, rfl⟩ := Option.map_eq_some_iff.mp h
    refine ⟨h1, fun q => ?_, h3, h4, h5⟩
    simp only [Four.get_set]
    split
    · exact decodeRun_valid hc
    · exact h2 q
  | odorant =>
    obtain ⟨c, hc, rfl⟩ := Option.map_eq_some_iff.mp h
    exact ⟨h1, h2, decodeOdorant_valid hc, h4, h5⟩
  | compress =>
    obtain ⟨c, hc, rfl⟩ := Option.map_eq_some_iff.mp h
    exact ⟨h1, h2, h3, decodeCompress_valid hc, h5⟩
  | monitors =>
    obtain ⟨c, hc, rfl⟩ := Option.map_eq_some_iff.mp h
    exact ⟨h1, h2, h3, h4, decodeMonitorsHalf_valid (getD_valid h5 hg.active.monitors) hc⟩

/-! ## The settings in memory and in the store -/

def ContentChecked (c : StoreContent) : Prop := c.valid = true

theorem stored_valid_iff (st : Store) :
    st.sections.valid = true ∧ st.writing.all (·.content.valid) = true ↔ Everywhere ContentChecked st := by
  have copy : ∀ {α : Type} {test : α → Bool} {x : Stored α}, x.all test = true ↔ ∀ c, x = .valid c → test c = true := by
    intro α test x
    cases x <;> simp [Stored.all]
  unfold StoredSections.valid
  simp only [Bool.and_eq_true, four_all_iff, copy, Option.all_eq_true]
  constructor
  · rintro ⟨⟨⟨⟨⟨h1, h2⟩, h3⟩, h4⟩, h5⟩, writing⟩ c (⟨w, hw, rfl⟩ | hc)
    · exact writing w hw
    · cases c with
      | station x => exact h1 x hc
      | run r x => exact h2 r x hc
      | odorant x => exact h3 x hc
      | compress x => exact h4 x hc
      | monitors x => exact h5 x hc
      | resume | ring | flags => exact rfl
  · intro h
    exact ⟨⟨⟨⟨⟨fun x hx => h (.station x) (.inr hx), fun r x hx => h (.run r x) (.inr hx)⟩,
      fun x hx => h (.odorant x) (.inr hx)⟩, fun x hx => h (.compress x) (.inr hx)⟩,
      fun x hx => h (.monitors x) (.inr hx)⟩, fun w hw => h _ (.inl ⟨w, hw, rfl⟩)⟩

theorem settingsValid_iff (s : State) :
    s.settingsValid = true ↔ Holds (fun s => Checked s.settings) ContentChecked s := by
  unfold State.settingsValid
  simp only [Bool.and_eq_true, active_valid_iff, staged_valid_iff]
  rw [and_assoc, stored_valid_iff]
  exact ⟨fun ⟨⟨⟨a, b⟩, c⟩, d⟩ => ⟨⟨a, b, c⟩, d⟩, fun ⟨⟨a, b, c⟩, d⟩ => ⟨⟨⟨a, b⟩, c⟩, d⟩⟩

theorem build_valid {c : StationSection} (h : c.valid = true) : c.build.valid = true := by
  simp only [StationSection.valid, Bool.and_eq_true] at h
  simp [Build.valid, h]

theorem storedBuild_valid {st : Store} (h : Everywhere ContentChecked st) : (storedBuild st).valid = true := by
  unfold storedBuild
  split
  · exact build_valid (h (.station _) (.inr ‹_›))
  · rfl

theorem loaded_valid {α : Type} {test : α → Bool} {x : Stored α} {factory : α} (hf : test factory = true)
    (h : ∀ c, x = .valid c → test c = true) : test (loaded x factory) = true := by
  cases x with
  | valid c => exact h c rfl
  | absent | failing => exact hf

theorem loadSettings_checked {st : Store} (h : Everywhere ContentChecked st) : Checked (loadSettings st) where
  active :=
    { station := loaded_valid rfl fun c hc => h (.station c) (.inr hc)
      run := fun r => by
        simp only [loadSettings, Four.get_map]
        exact loaded_valid rfl fun c hc => h (.run r c) (.inr hc)
      odorant := loaded_valid rfl fun c hc => h (.odorant c) (.inr hc)
      compress := loaded_valid (by decide) fun c hc => h (.compress c) (.inr hc)
      monitors := loaded_valid (by decide) fun c hc => h (.monitors c) (.inr hc) }
  staged := stagedValid_none
  build := storedBuild_valid h

theorem startPower_settings (s : State) : (startPower s).settings = loadSettings s.store := by
  simp [startPower, openFirstPeriod, loadBlocks]

theorem startWhenReady_checked {s : State} (h : Holds (fun s => Checked s.settings) ContentChecked s) :
    Checked (startWhenReady s).settings := by
  rcases startWhenReady_cases s with ⟨_, _, _, e⟩ | ⟨_, e⟩ <;> rw [e]
  · rw [startPower_settings]
    exact loadSettings_checked h.stored
  · exact h.memory

theorem reset_checked : Checked State.reset.settings := ⟨active_valid_iff.mp (by decide), stagedValid_none, rfl⟩

theorem loseSupply_checked (s : State) : Checked (loseSupply s).settings := reset_checked

theorem contentChecked_memory : Memory (fun s => Checked s.settings) ContentChecked where
  ring := fun _ _ _ h => h
  elapse dt s h := by simpa using h
  store _ _ h := h
  link _ _ h := h
  pins _ _ h := h
  pending _ _ h := h
  content s i h := by
    cases i with
    | sectionCopy j =>
      cases j with
      | station => exact h.active.station
      | run r => exact h.active.run r
      | odorant => exact h.active.odorant
      | compress => exact h.active.compress
      | monitors => exact h.active.monitors
    | resume | ring | flags => exact rfl
  request u v w h := by
    cases w
    case periodClosed =>
      rcases forcedClose_settings u with e | e <;> rw [e]
      · exact h
      · exact checked_applied h
    case sectionStaged i bs g _ hg => exact h.restage (stageRecord_valid h hg)
    case sectionProtected i =>
      have restaged := h.restage (stagedValid_drop h.staged i)
      exact ⟨restaged.active, restaged.staged, restaged.build⟩
    case locked _ => exact h.restage (stagedValid_drop h.staged .monitors)
    case heatingStaged cv _ => exact ⟨h.active, h.staged, h.build⟩
    case protectionCleared => exact ⟨h.active, h.staged, h.build⟩
    all_goals simpa using h

theorem eventWork_checked {u v : State} {c : Instr} (w : EventWork u c v)
    (h : Holds (fun s => Checked s.settings) ContentChecked u) : Checked v.settings := by
  have g := h.memory
  cases w
  case powerOn after _ =>
    unfold powerUp
    dsimp only
    split
    · exact startWhenReady_checked ⟨loseSupply_checked u, everywhere_loseSupply (fun _ _ _ h => h) h.stored⟩
    · exact startWhenReady_checked ⟨g, h.stored⟩
  case powerFailWarning after =>
    rw [setPfw_settings]
    split
    · unfold powerFail
      simpa using g
    · exact g
  case pfwRise after => exact startWhenReady_checked ⟨by simpa using g, by simpa using h.stored⟩
  case restartBegin after _ =>
    have restarted := restartPart_settings u
    obtain ⟨st, kept, build⟩ := restartPart_build u
    rw [restarted]
    refine ⟨g.active, stagedValid_none, ?_⟩
    rcases build with e | e <;> rw [e]
    · exact build_valid g.active.station
    · exact storedBuild_valid (h.stored.of_storedKept kept)
  case boundary after _ =>
    unfold timedBoundary
    rw [boundaryWith_settings lengthClose_settings]
    exact checked_applied g
  case closePeriodEntry after id e _ _ =>
    split
    · rcases forcedClose_settings (u.onTable (·.free id.val)) with e | e <;> rw [e]
      · exact g
      · exact checked_applied g
    · exact g
  case strokeEntry after id e _ _ => split <;> simpa using g
  case confirmEntry after id e _ _ => split <;> simpa using g
  case storeWriteComplete after x _ =>
    unfold completeWrite clearMarks
    dsimp only
    (repeat' split) <;> exact ⟨g.active, g.staged, g.build⟩
  case frameSent after _ =>
    unfold endFrame
    dsimp only
    (repeat' split) <;> exact g
  case lossOfSupply after =>
    unfold supplyLost
    split
    · exact g
    · exact loseSupply_checked u
  case warmupEnd after _ => simpa [enterRunning] using g
  all_goals simpa using g

/-- Settles O57: what a record decodes to passes the checks, power-on loads copies that pass them or the factory defaults, and a
boundary makes staged copies active. -/
theorem settingsValidKept : Obligations.SettingsValidKept := by
  intro s t hs h
  rw [settingsValid_iff] at hs ⊢
  exact contentChecked_memory.step h hs fun _ _ _ => eventWork_checked

/-! ## The limit lock (R159) -/

def lock (s : State) : Bool := s.monitors.limitLock

theorem lock_of {s t : State} (h : t.monitors = s.monitors) : lock t = lock s := by unfold lock; rw [h]

@[simp] theorem setMonitor_lock (m : Fin 16) (x : MonitorState) (s : State) : lock (setMonitor m x s) = lock s := rfl

@[simp] theorem monitorNotices_lock (m : Fin 16) (was is : MonitorState) (s : State) :
    lock (monitorNotices m was is s) = lock s := lock_of (by simp)

@[simp] theorem evaluate_lock (m : Fin 16) (v : Nat) (s : State) : lock (evaluate m v s) = lock s := by
  unfold evaluate
  split <;> simp

@[simp] theorem clearEvent_lock (m : Fin 16) (s : State) : lock (clearEvent m s) = lock s := by
  unfold clearEvent
  split <;> simp

@[simp] theorem retuneMonitors_lock (old new : MonitorsSection) (s : State) : lock (retuneMonitors old new s) = lock s :=
  foldl_keeps lock _ (fun s m => by simp [retuneMonitor]) _ s

@[simp] theorem debtToMonitor_lock (s : State) : lock (debtToMonitor s) = lock s := evaluate_lock _ _ s

@[simp] theorem schedulingCheck_lock (s : State) : lock (schedulingCheck s) = lock s := lock_of (by simp)

@[simp] theorem setDosingState_lock (x : DosingState) (s : State) : lock (setDosingState x s) = lock s := rfl
@[simp] theorem onTable_lock (f : ActionTable → ActionTable) (s : State) : lock (s.onTable f) = lock s := rfl
@[simp] theorem onDose_lock (f : Dose → Dose) (s : State) : lock (s.onDose f) = lock s := rfl
@[simp] theorem onPump_lock (f : Two Pump → Two Pump) (s : State) : lock (s.onPump f) = lock s := rfl
@[simp] theorem onStation_lock (f : StationAccumulators → StationAccumulators) (s : State) :
    lock (onStation f s) = lock s := rfl
@[simp] theorem onStrokes_lock (p : Side) (f : StrokeCounts → StrokeCounts) (s : State) :
    lock (onStrokes p f s) = lock s := rfl
@[simp] theorem drawDown_lock (s : State) : lock (drawDown s) = lock s := rfl
@[simp] theorem raiseDosing_lock (s : State) : lock (raiseDosing s) = lock s := lock_of (by simp)
@[simp] theorem failPump_lock (p : Side) (s : State) : lock (failPump p s) = lock s := lock_of (by simp)
@[simp] theorem enterFault_lock (s : State) : lock (enterFault s) = lock s := lock_of (by simp)
@[simp] theorem endDriveIfReached_lock (p : Side) (s : State) : lock (endDriveIfReached p s) = lock s := lock_of (by simp)
@[simp] theorem strayEdge_lock (p : Side) (s : State) : lock (strayEdge p s) = lock s := lock_of (by simp)

@[simp] theorem accrue_lock (vbs : Nat) (s : State) : lock (accrue vbs s) = lock s := by
  have formed : lock (accrueAccount vbs s) = lock s := lock_of (by simp)
  unfold accrue
  dsimp only
  split <;> simp [formed]

@[simp] theorem closeInterval_lock (s : State) : lock (closeInterval s) = lock s := by
  have rates : ∀ b x, lock (rateMonitors b x) = lock x := fun b x =>
    foldl_keeps lock _ (fun s r => by split <;> simp) _ x
  unfold closeInterval
  rw [accrue_lock, rates]
  exact lock_of (by simp [closeRuns])

@[simp] theorem applyStaged_lock (s : State) : lock (applyStaged s) = lock s := by
  have applied : lock (dropIntegrity s.settings.active (applySections s)) = lock s := lock_of (by simp)
  have excess : ∀ x, lock (forgoExcess x) = lock x := fun _ => rfl
  unfold applyStaged
  dsimp only
  generalize dropIntegrity s.settings.active (applySections s) = x at applied ⊢
  (repeat' split) <;> simp [excess, applied]

theorem boundaryWith_lock {close : State → State} (h : ∀ s, lock (close s) = lock s) (s : State) :
    lock (boundaryWith close s) = lock s := by
  have settled : lock (settleRuns (clearCounts (closeInterval s))) = lock s := by
    rw [← closeInterval_lock s]
    exact lock_of (by simp)
  have counted : ∀ x, lock (countInterval x) = lock x := fun _ => rfl
  calc lock (boundaryWith close s)
      = lock (close (countInterval (applyStaged (settleRuns (clearCounts (closeInterval s)))))) :=
        lock_of (by simp [boundaryWith])
    _ = lock s := by rw [h, counted, applyStaged_lock, settled]

theorem forcedClose_lock (s : State) : lock (forcedClose s) = lock s := by
  unfold forcedClose
  split
  · exact lock_of (by simp)
  · exact boundaryWith_lock (fun _ => lock_of (by simp)) s

@[simp] theorem confirmedOutcome_lock (s : State) : lock (confirmedOutcome s) = lock s := by
  unfold confirmedOutcome
  split <;> simp

@[simp] theorem missedOutcome_lock (p : Side) (s : State) : lock (missedOutcome p s) = lock s := by
  unfold missedOutcome
  dsimp only
  (repeat' split) <;> simp

@[simp] theorem missStroke_lock (p : Side) (s : State) : lock (missStroke p s) = lock s := by
  unfold missStroke
  dsimp only
  (repeat' split) <;> simp

@[simp] theorem deadline_lock (p : Side) (s : State) : lock (deadline p s) = lock s := by
  unfold deadline
  dsimp only
  split <;> simp

@[simp] theorem senseEdge_lock (p : Side) (s : State) : lock (senseEdge p s) = lock s := by
  have sense : ∀ f, lock (s.onSense f) = lock s := fun _ => rfl
  unfold senseEdge
  dsimp only
  split <;> simp [confirmStroke, sense]

@[simp] theorem completion_lock (c : ChannelId) (i : Nat) (s : State) : lock (completion c i s) = lock s := by
  unfold completion
  dsimp only
  rw [lock_of (nextConversion_monitors _ _), evaluate_lock]
  exact lock_of (by simp)

theorem closeRun_lock (r : RunId) (s : State) : lock (closeRun r s) = lock s := by
  unfold closeRun
  rw [lock_of (raiseRun_monitors _ _)]
  rfl

theorem restartPart_lock (s : State) : lock (restartPart s) = lock s := by
  have final : lock (finalClose (abandonStrokes s)) = lock s := by
    have abandoned : lock (abandonStrokes s) = lock s := lock_of (by simp [abandonStrokes])
    have counted : ∀ x, lock (countInterval x) = lock x := fun _ => rfl
    unfold finalClose
    split <;> simp [abandoned, counted]
  have reset : ∀ b x, lock (resetBlocks b (rereadBuild x)) = lock x := fun _ _ => rfl
  calc lock (restartPart s)
      = lock (resetBlocks s.settings.build (rereadBuild (closePeriod .restart (finalClose (abandonStrokes s))))) :=
        lock_of (by simp [restartPart])
    _ = lock s := by rw [reset, lock_of (closePeriod_monitors _ _), final]

/-- The lock is set, no MONITORS copy is staged, and the monitors' settings are `m`. -/
structure Locked (m : MonitorsSection) (s : State) : Prop where
  set : lock s = true
  unstaged : s.settings.staged.monitors = none
  active : s.settings.active.monitors = m

theorem monitorsLocked_iff {s : State} {m : MonitorsSection} :
    s.monitorsLocked = true ∧ s.settings.active.monitors = m ↔ Locked m s := by
  unfold State.monitorsLocked
  rw [Bool.and_eq_true, Option.isNone_iff_eq_none]
  exact ⟨fun ⟨⟨a, b⟩, c⟩ => ⟨a, b, c⟩, fun ⟨a, b, c⟩ => ⟨⟨a, b⟩, c⟩⟩

section Locked

variable {m : MonitorsSection} {s t : State}

theorem Locked.of_settings (h : Locked m s) (hl : lock t = lock s) (hg : t.settings = s.settings) : Locked m t :=
  ⟨hl.trans h.set, by rw [hg]; exact h.unstaged, by rw [hg]; exact h.active⟩

/-- With no MONITORS copy staged a boundary leaves the monitors' settings. -/
theorem Locked.of_applied (h : Locked m s) (hl : lock t = lock s) (hg : t.settings = appliedSettings s.settings) :
    Locked m t :=
  ⟨hl.trans h.set, by rw [hg]; rfl, by rw [hg]; simpa [appliedSettings, h.unstaged] using h.active⟩

theorem locked_forcedClose (h : Locked m s) : Locked m (forcedClose s) := by
  rcases forcedClose_settings s with e | e
  · exact h.of_settings (forcedClose_lock s) e
  · exact h.of_applied (forcedClose_lock s) e

theorem stageRecord_monitors {i : SectionId} {bs : List Byte} {g : Settings} {x : StagedSections}
    (h : stageRecord i bs g = some x) (hi : i ≠ .monitors) : x.monitors = g.staged.monitors := by
  cases i with
  | monitors => exact absurd rfl hi
  | station | run | odorant | compress =>
    obtain ⟨c, -, rfl⟩ := Option.map_eq_some_iff.mp h
    rfl

theorem dropStaged_monitors {i : SectionId} {g : StagedSections} (h : g.monitors = none) :
    (dropStaged i g).monitors = none := by
  cases i <;> simp [dropStaged, h]

theorem locked_request (u v : State) (w : RequestWork u v) (h : Locked m u) : Locked m v := by
  cases w
  case periodClosed => exact locked_forcedClose h
  case sectionStaged i bs g unlocked hg =>
    refine ⟨h.set, ?_, h.active⟩
    have other : i ≠ .monitors := fun e => by
      have := h.set
      rw [lock, unlocked e] at this
      cases this
    exact (stageRecord_monitors hg other).trans h.unstaged
  case sectionProtected i =>
    exact ⟨(lock_of (by simp)).trans h.set, dropStaged_monitors h.unstaged, h.active⟩
  case locked unset =>
    have := h.set
    rw [lock, unset] at this
    cases this
  case heatingStaged cv _ => exact ⟨h.set, h.unstaged, h.active⟩
  case protectionCleared => exact ⟨h.set, h.unstaged, h.active⟩
  case readingTaken reading => exact h.of_settings ((lock_of (takeReading_monitors _ _)).trans (evaluate_lock _ _ _)) (by simp)
  case eventCleared n => exact h.of_settings (by simp) (by simp)
  case runOpened r => exact h.of_settings (lock_of (by simp)) (by simp)
  case runClosed r => exact h.of_settings (closeRun_lock r u) (by simp)
  case modeChanged d _ _ _ => exact h.of_settings (lock_of (by simp)) (by simp)
  case pumpReset p => exact h.of_settings (lock_of (by simp)) (by simp)
  all_goals exact h.of_settings rfl rfl

theorem locked_kept : Kept (Locked m) where
  pending _ _ h := ⟨h.set, h.unstaged, h.active⟩
  elapse dt s h := h.of_settings (lock_of (by simp)) (by simp)
  pins _ _ h := ⟨h.set, h.unstaged, h.active⟩
  receiver _ _ h := ⟨h.set, h.unstaged, h.active⟩
  finish s h := h.of_settings (lock_of (by simp)) (by simp)
  reply _ _ _ h := ⟨h.set, h.unstaged, h.active⟩
  request := locked_request

/-- The work of an event but a loss of supply and a start. -/
theorem eventWork_locked {u v : State} {c : Instr} (w : EventWork u c v)
    (other : ∀ after, c ≠ .powerOn after ∧ c ≠ .lossOfSupply after ∧ (c = .pfwRise after → u.time.phase ≠ .off))
    (h : Locked m u) : Locked m v := by
  cases w
  case powerOn after _ => exact absurd rfl (other after).1
  case lossOfSupply after => exact absurd rfl (other after).2.1
  case pfwRise after =>
    have running := (other after).2.2 rfl
    rcases startWhenReady_cases (holdRise (setPfw true u)) with ⟨off, _⟩ | ⟨_, e⟩
    · refine absurd ?_ running
      unfold holdRise at off
      split at off
      · exact off
      · exact off
    · rw [e]
      exact h.of_settings (lock_of (by simp)) (by simp)
  case powerFailWarning after =>
    split
    · exact h.of_settings (lock_of (by simp [powerFail])) (by simp [powerFail])
    · exact h.of_settings rfl rfl
  case restartBegin after _ =>
    have restarted := restartPart_settings u
    refine ⟨(restartPart_lock u).trans h.set, ?_, ?_⟩
    · rw [restarted]
      rfl
    · rw [restarted]
      exact h.active
  case boundary after _ =>
    exact h.of_applied (boundaryWith_lock (fun _ => lock_of (by simp)) u) (boundaryWith_settings lengthClose_settings u)
  case closePeriodEntry after id e _ _ =>
    have freed : Locked m (u.onTable (·.free id.val)) := h.of_settings rfl rfl
    split
    · exact locked_forcedClose freed
    · exact freed
  case strokeEntry after id e _ _ =>
    split
    · exact h.of_settings (lock_of (by simp)) (by simp)
    · exact h.of_settings rfl rfl
  case confirmEntry after id e _ _ =>
    split
    · exact h.of_settings (by simp) (by simp)
    · exact h.of_settings rfl rfl
  case storeWriteComplete after x _ =>
    unfold completeWrite clearMarks
    dsimp only
    (repeat' split) <;> exact ⟨h.set, h.unstaged, h.active⟩
  case frameSent after _ =>
    unfold endFrame
    dsimp only
    (repeat' split) <;> exact h.of_settings rfl rfl
  case warmupEnd after _ => exact h.of_settings (lock_of (by simp [enterRunning])) (by simp [enterRunning])
  case conversionCompletion after current ch _ => exact h.of_settings (by simp) (by simp)
  case senseEdge after p _ => exact h.of_settings (by simp) (by simp)
  case driveEnd after p _ => exact h.of_settings (lock_of (by simp)) (by simp)
  case auxOnEntry after id e _ _ => exact h.of_settings (lock_of (by simp)) (by simp)
  case auxOffEntry after id e _ _ => exact h.of_settings (lock_of (by simp)) (by simp)
  case timerNoticeEntry after id e _ _ => exact h.of_settings (lock_of (by simp)) (by simp)
  all_goals exact h.of_settings rfl rfl

end Locked

/-- Settles O59: only a start and a loss of supply clear the lock, and with it set no MONITORS copy can be staged to be made
active. -/
theorem limitLockFixesMonitors : Obligations.LimitLockFixesMonitors := by
  intro s t hs h other
  have locked := monitorsLocked_iff.mp ⟨hs, rfl⟩
  refine monitorsLocked_iff.mpr ?_
  cases hp : s.pending with
  | nil =>
    rw [step_idle s hp] at h
    cases h
    exact locked_kept.elapse _ _ locked
  | cons c rest =>
    rw [step_cons s c rest hp] at h
    refine locked_kept.exec h (locked_kept.pending rest s locked) fun v w hu => eventWork_locked w (fun after => ?_) hu
    obtain ⟨power, loss, rise⟩ := other c rest hp after
    exact ⟨power, loss, fun e hh => rise e (by simpa [found] using hh)⟩

end Sys2Proof.Proofs.Sections
end

section
/-! PROOFS. The action table in order and the dosing state with its mode, which every step keeps (R79, R102, R121). -/

namespace Sys2Proof.Proofs.Table

open Sys2Proof Sys2Proof.Machine Sys2Proof.Proofs.Steps

/-! ## The places of the table -/

theorem count_set_le {α : Type} (test : α → Bool) (l : List α) (i : Nat) (x : α) :
    (l.set i x).countP test ≤ l.countP test + boolCode (test x) := by
  induction l generalizing i with
  | nil => simp
  | cons y rest ih =>
    cases i with
    | zero => simp [List.countP_cons, boolCode]
    | succ i =>
      have := ih i
      simp only [List.set_cons_succ, List.countP_cons]
      omega

theorem count_place_le (test : Entry → Bool) (e : Entry) (t : ActionTable) :
    (t.place e).count test ≤ t.count test + boolCode (test e) := by
  unfold ActionTable.place
  split
  · exact count_set_le (fun x : Option Entry => x.any test) t.places _ (some e)
  · exact Nat.le_add_right _ _

theorem count_place_other {test : Entry → Bool} {e : Entry} (h : test e = false) (t : ActionTable) :
    (t.place e).count test ≤ t.count test := by
  simpa [h, boolCode] using count_place_le test e t

theorem count_free_le (test : Entry → Bool) (id : Nat) (t : ActionTable) : (t.free id).count test ≤ t.count test :=
  count_set_le (fun x : Option Entry => x.any test) t.places id none

/-- An entry that leaves the table is counted no more. -/
theorem count_free_of_at {test : Entry → Bool} {id : Nat} {t : ActionTable} {e : Entry} (h : t.at id = some e)
    (he : test e = true) : (t.free id).count test + 1 ≤ t.count test := by
  have place : t.places[id]? = some (some e) := by
    unfold ActionTable.at at h
    cases hp : t.places[id]? <;> simp_all
  unfold ActionTable.free ActionTable.count
  dsimp only
  clear h
  generalize t.places = l at place
  induction l generalizing id with
  | nil => simp at place
  | cons y rest ih =>
    cases id with
    | zero => simp_all
    | succ id =>
      have := ih (by simpa using place)
      simp only [List.set_cons_succ, List.countP_cons]
      omega

theorem count_drop_le (test gone : Entry → Bool) (t : ActionTable) : (t.drop gone).count test ≤ t.count test := by
  unfold ActionTable.drop ActionTable.count
  dsimp only
  rw [List.countP_map]
  refine List.countP_mono_left fun x _ h => ?_
  cases x with
  | none => simp at h
  | some e => cases hg : gone e <;> simp_all [Option.filter]

/-- What is dropped is counted no more. -/
theorem count_drop_add {test gone : Entry → Bool} (h : ∀ e, gone e = true → test e = true) (t : ActionTable) :
    (t.drop gone).count test + t.count gone ≤ t.count test := by
  unfold ActionTable.drop ActionTable.count
  dsimp only
  induction t.places with
  | nil => simp
  | cons y rest ih =>
    simp only [List.map_cons, List.countP_cons]
    cases y with
    | none => simpa using ih
    | some e =>
      cases hg : gone e
      · rw [show (some e).filter (fun x => !gone x) = some e by simp [Option.filter, hg]]
        simp only [Option.any_some, hg, Bool.false_eq_true, if_false]
        omega
      · rw [show (some e).filter (fun x => !gone x) = none by simp [Option.filter, hg]]
        simp only [Option.any_some, Option.any_none, hg, h e hg, Bool.false_eq_true, if_false, if_true]
        omega

theorem count_drop_same (test : Entry → Bool) (t : ActionTable) : (t.drop test).count test = 0 := by
  have := count_drop_add (test := test) (gone := test) (fun _ h => h) t
  omega

theorem count_pos_of_any {test : Entry → Bool} {t : ActionTable} (h : t.any test = true) : 1 ≤ t.count test := by
  unfold ActionTable.any at h
  unfold ActionTable.count
  rw [Nat.succ_le_iff, List.countP_pos_iff]
  simpa using h

theorem count_pos_of_at {test : Entry → Bool} {id : Nat} {t : ActionTable} {e : Entry} (h : t.at id = some e)
    (he : test e = true) : 1 ≤ t.count test := by
  have := count_free_of_at h he
  omega

/-- A table of eight places whose entries are of their owner and name what their kind names. -/
structure Formed (t : ActionTable) : Prop where
  size : t.places.length = 8
  entries : ∀ e, some e ∈ t.places → e.inOrder = true

theorem formed_place {t : ActionTable} (h : Formed t) {e : Entry} (he : e.inOrder = true) : Formed (t.place e) := by
  unfold ActionTable.place
  split
  · refine ⟨by simp [h.size], fun x hx => ?_⟩
    rcases List.mem_or_eq_of_mem_set hx with hx | hx
    · exact h.entries x hx
    · cases hx
      exact he
  · exact h

theorem formed_free {t : ActionTable} (h : Formed t) (id : Nat) : Formed (t.free id) := by
  refine ⟨by simp [ActionTable.free, h.size], fun x hx => ?_⟩
  rcases List.mem_or_eq_of_mem_set hx with hx | hx
  · exact h.entries x hx
  · cases hx

theorem formed_drop {t : ActionTable} (h : Formed t) (gone : Entry → Bool) : Formed (t.drop gone) := by
  refine ⟨by simp [ActionTable.drop, h.size], fun x hx => ?_⟩
  obtain ⟨y, hy, hf⟩ := List.mem_map.mp hx
  rw [Option.filter_eq_some_iff] at hf
  exact h.entries x (hf.1 ▸ hy)

theorem formed_at {t : ActionTable} (h : Formed t) {id : Nat} {e : Entry} (he : t.at id = some e) : e.inOrder = true := by
  unfold ActionTable.at at he
  cases hp : t.places[id]? with
  | none => simp [hp] at he
  | some x =>
    simp only [hp, Option.join_some] at he
    exact h.entries e (he ▸ List.mem_of_getElem? hp)

/-! ## The table with the dosing state -/

/-- The dosing states that await an outcome. -/
def awaits (x : DosingState) : Bool := x == .confirmWait || x == .manualWait

structure InOrder (s : State) : Prop where
  formed : Formed s.table
  links : s.table.count isLink ≤ 6
  strokes : s.table.count isStroke ≤ boolCode (s.dose.state == .strokeWait)
  confirms : s.table.count isConfirm ≤ boolCode (awaits s.dose.state)
  mode : modeOfState s.dose.mode s.dose.state = true

theorem tableInOrder_iff (s : State) : s.tableInOrder = true ↔ InOrder s := by
  have entries : s.table.places.all (·.all Entry.inOrder) = true ↔ ∀ e, some e ∈ s.table.places → e.inOrder = true := by
    rw [List.all_eq_true]
    exact ⟨fun h e he => by simpa using h _ he, fun h x hx => by cases x <;> simp_all⟩
  unfold State.tableInOrder
  simp only [Bool.and_eq_true, beq_iff_eq, decide_eq_true_eq, entries]
  exact ⟨fun ⟨⟨⟨⟨⟨a, b⟩, c⟩, d⟩, e⟩, f⟩ => ⟨⟨a, b⟩, c, d, e, f⟩, fun ⟨⟨a, b⟩, c, d, e, f⟩ => ⟨⟨⟨⟨⟨a, b⟩, c⟩, d⟩, e⟩, f⟩⟩

/-- The part of the state these statements speak of. -/
def seat (s : State) : List (Option Entry) × DosingMode × DosingState := (s.table.places, s.dose.mode, s.dose.state)

theorem seat_of {s t : State} (ht : t.table = s.table) (hd : t.dose = s.dose) : seat t = seat s := by
  unfold seat
  rw [ht, hd]

theorem InOrder.of_seat {s t : State} (h : InOrder s) (e : seat t = seat s) : InOrder t := by
  simp only [seat, Prod.mk.injEq] at e
  obtain ⟨hp, hm, hs⟩ := e
  have count : ∀ test, t.table.count test = s.table.count test := fun test => by rw [ActionTable.count, hp, ActionTable.count]
  refine ⟨⟨hp ▸ h.formed.size, hp ▸ h.formed.entries⟩, ?_, ?_, ?_, ?_⟩
  · rw [count]
    exact h.links
  · rw [count, hs]
    exact h.strokes
  · rw [count, hs]
    exact h.confirms
  · rw [hm, hs]
    exact h.mode

theorem InOrder.of_same {s t : State} (h : InOrder s) (ht : t.table = s.table) (hd : t.dose = s.dose) : InOrder t :=
  h.of_seat (seat_of ht hd)

theorem InOrder.no_stroke {s : State} (h : InOrder s) (hs : s.dose.state ≠ .strokeWait) : s.table.count isStroke = 0 := by
  have := h.strokes
  simp [hs, boolCode] at this
  exact this

theorem InOrder.no_confirm {s : State} (h : InOrder s) (hs : awaits s.dose.state = false) :
    s.table.count isConfirm = 0 := by
  have := h.confirms
  rw [hs] at this
  simpa [boolCode] using this

/-- With neither a STROKE nor a CONFIRM entry in the table, any state that goes with the mode may be entered. -/
theorem InOrder.enter {s t : State} (h : InOrder s) (ht : t.table = s.table) (hn : s.table.count isStroke = 0)
    (hc : s.table.count isConfirm = 0) (hm : modeOfState t.dose.mode t.dose.state = true) : InOrder t := by
  refine ⟨ht ▸ h.formed, ht ▸ h.links, ?_, ?_, hm⟩
  · rw [ht, hn]
    exact Nat.zero_le _
  · rw [ht, hc]
    exact Nat.zero_le _

/-- Entries that leave the table take nothing away from its order. -/
theorem InOrder.fewer {s t : State} (h : InOrder s) (hf : Formed t.table)
    (hle : ∀ test, t.table.count test ≤ s.table.count test) (hd : t.dose = s.dose) : InOrder t :=
  ⟨hf, (hle _).trans h.links, hd ▸ (hle _).trans h.strokes, hd ▸ (hle _).trans h.confirms, hd ▸ h.mode⟩

theorem inOrder_free {s : State} (h : InOrder s) (id : Nat) : InOrder (s.onTable (·.free id)) :=
  h.fewer (formed_free h.formed id) (fun test => count_free_le test id s.table) rfl

theorem side_code_inOrder (k : EntryKind) (p : Side) (due : Time) (hk : k = .stroke ∨ k = .confirm) :
    (⟨.dosing, k, Side.code p, due⟩ : Entry).inOrder = true := by
  rcases hk with rfl | rfl <;> cases p <;> rfl

theorem inOrder_schedulingCheck {s : State} (h : InOrder s) : InOrder (schedulingCheck s) := by
  unfold schedulingCheck
  split
  · rename_i owed
    simp only [strokeOwed, Bool.and_eq_true, beq_iff_eq] at owed
    obtain ⟨⟨⟨auto, armed⟩, -⟩, -⟩ := owed
    have none : s.table.count isStroke = 0 := h.no_stroke (by simp [armed])
    have unproved : s.table.count isConfirm = 0 := h.no_confirm (by simp [armed, awaits])
    refine ⟨formed_place h.formed (side_code_inOrder _ _ _ (.inl rfl)), ?_, ?_, ?_, ?_⟩
    · exact (count_place_other rfl _).trans h.links
    · have := count_place_le isStroke ⟨.dosing, .stroke, Side.code s.duty, strokeDue s⟩ s.table
      rw [none] at this
      exact this
    · exact (count_place_other rfl _).trans (by rw [unproved]; exact Nat.zero_le _)
    · change modeOfState s.dose.mode .strokeWait = true
      rw [auto]
      rfl
  · exact h

@[simp] theorem onPump_seat (f : Two Pump → Two Pump) (s : State) : seat (s.onPump f) = seat s := rfl
@[simp] theorem raiseDosing_seat (s : State) : seat (raiseDosing s) = seat s := seat_of (by simp) (by simp)
@[simp] theorem onStrokes_seat (p : Side) (f : StrokeCounts → StrokeCounts) (s : State) :
    seat (onStrokes p f s) = seat s := rfl
@[simp] theorem onStation_seat (f : StationAccumulators → StationAccumulators) (s : State) :
    seat (onStation f s) = seat s := rfl
@[simp] theorem debtToMonitor_seat (s : State) : seat (debtToMonitor s) = seat s := seat_of (by simp) (by simp)

@[simp] theorem changeover_seat (s : State) : seat (changeover s) = seat s := raiseDosing_seat _

@[simp] theorem failPump_seat (p : Side) (s : State) : seat (failPump p s) = seat s := by
  unfold failPump
  dsimp only
  split <;> simp

theorem accrueAccount_seat (vbs : Nat) (s : State) : seat (accrueAccount vbs s) = seat s := rfl

theorem inOrder_accrue {vbs : Nat} {s : State} (h : InOrder s) : InOrder (accrue vbs s) := by
  have formed : InOrder (debtToMonitor (accrueAccount vbs s)) := h.of_seat (by rw [debtToMonitor_seat]; rfl)
  unfold accrue
  dsimp only
  split
  · exact inOrder_schedulingCheck formed
  · exact formed

/-! ## Strokes -/

/-- A pump that became READY may take the duty, ends FAULT, and the check is made. -/
theorem pumpBecameReady_eq (p : Side) (s : State) : ∃ x, seat x = seat s
    ∧ pumpBecameReady p s
      = schedulingCheck (if x.dose.state = .fault then raiseDosing (setDosingState .armed x) else x) := by
  refine ⟨if !s.pumpReady s.duty && s.dose.state != .confirmWait then
      s.onDose fun d => { d with duty := p } else s, ?_, rfl⟩
  split <;> rfl

theorem inOrder_pumpBecameReady {p : Side} {s : State} (h : InOrder s) : InOrder (pumpBecameReady p s) := by
  obtain ⟨x, e, ready⟩ := pumpBecameReady_eq p s
  have hx : InOrder x := h.of_seat e
  rw [ready]
  refine inOrder_schedulingCheck ?_
  split
  · rename_i fault
    have mode := hx.mode
    rw [fault] at mode
    have entered : InOrder (setDosingState .armed x) :=
      hx.enter rfl (hx.no_stroke (by simp [fault])) (hx.no_confirm (by simp [fault, awaits])) mode
    exact entered.of_seat (raiseDosing_seat _)
  · exact hx

theorem inOrder_endDrive {p : Side} {s : State} (h : InOrder s) : InOrder (endDrive p s) := by
  unfold endDrive
  dsimp only
  split
  · exact h.of_seat rfl
  · exact inOrder_pumpBecameReady (h.of_seat (onPump_seat _ _))
  · exact h.of_seat rfl

theorem inOrder_endDriveIfReached {p : Side} {s : State} (h : InOrder s) : InOrder (endDriveIfReached p s) := by
  unfold endDriveIfReached
  split
  · exact inOrder_endDrive h
  · exact h

theorem pumpBecameReady_seat {p : Side} {s : State} (hf : s.dose.state ≠ .fault) (ha : s.dose.state ≠ .armed) :
    seat (pumpBecameReady p s) = seat s := by
  have check : ∀ x : State, x.dose.state ≠ .armed → schedulingCheck x = x := by
    intro x hx
    unfold schedulingCheck
    rw [if_neg (by simp [strokeOwed, hx])]
  obtain ⟨x, e, ready⟩ := pumpBecameReady_eq p s
  have state : x.dose.state = s.dose.state := congrArg (·.2.2) e
  rw [ready, if_neg (state ▸ hf), check _ (state ▸ ha), e]

/-- The end of a drive while a stroke waits or an outcome is awaited moves no dosing state. -/
theorem endDriveIfReached_seat {p : Side} {s : State} (hf : s.dose.state ≠ .fault) (ha : s.dose.state ≠ .armed) :
    seat (endDriveIfReached p s) = seat s := by
  unfold endDriveIfReached endDrive
  dsimp only
  (repeat' split)
  · rfl
  · exact pumpBecameReady_seat (s := s.onPump _) hf ha
  · rfl
  · rfl

/-- A CONFIRM entry is placed and an outcome is awaited. -/
theorem inOrder_startDrive {p : Side} {s t : State} (h : InOrder s) (ht : t.table = (startDrive p s).table)
    (hn : s.table.count isStroke = 0) (hc : s.table.count isConfirm = 0)
    (hs : awaits t.dose.state = true) (hm : modeOfState t.dose.mode t.dose.state = true) : InOrder t := by
  have table : t.table = s.table.place ⟨.dosing, .confirm, Side.code p, confirmDue s⟩ := ht
  refine ⟨?_, ?_, ?_, ?_, hm⟩ <;> rw [table]
  · exact formed_place h.formed (side_code_inOrder _ _ _ (.inr rfl))
  · exact (count_place_other rfl _).trans h.links
  · exact (count_place_other rfl _).trans (by rw [hn]; exact Nat.zero_le _)
  · have := count_place_le isConfirm ⟨.dosing, .confirm, Side.code p, confirmDue s⟩ s.table
    rw [hc] at this
    rw [hs]
    exact this

theorem inOrder_autoDrive {p : Side} {s : State} (h : InOrder s) (hs : s.dose.state = .strokeWait)
    (hn : s.table.count isStroke = 0) : InOrder (autoDrive p s) := by
  have hc : s.table.count isConfirm = 0 := h.no_confirm (by simp [hs, awaits])
  have e : seat (endDriveIfReached p.other s) = seat s := endDriveIfReached_seat (by simp [hs]) (by simp [hs])
  have ended : InOrder (endDriveIfReached p.other s) := h.of_seat e
  unfold autoDrive
  dsimp only
  generalize endDriveIfReached p.other s = x at e ended ⊢
  simp only [seat, Prod.mk.injEq] at e
  obtain ⟨places, mode, state⟩ := e
  have count : ∀ test, x.table.count test = s.table.count test := fun test => by
    rw [ActionTable.count, places, ActionTable.count]
  split
  · refine inOrder_startDrive ended rfl ((count _).trans hn) ((count _).trans hc) rfl ?_
    have auto := ended.mode
    rw [state, hs] at auto
    exact auto
  · exact ended

theorem inOrder_confirmedOutcome {s : State} (h : InOrder s) (hc : s.table.count isConfirm = 0) :
    InOrder (confirmedOutcome s) := by
  have mode := h.mode
  unfold confirmedOutcome
  split
  · rename_i state
    have hn := h.no_stroke (by simp [state])
    rw [state] at mode
    have drawn : InOrder (drawDown s) := h.enter rfl hn hc mode
    exact inOrder_schedulingCheck (drawn.of_seat (debtToMonitor_seat _))
  · rename_i state
    have hn := h.no_stroke (by simp [state])
    rw [state] at mode
    refine InOrder.of_seat (h.enter (t := (s.onDose fun d => { d with massInFlight := 0, state := .idle })
      |> onStation fun a => { a with manualMass := a.manualMass + s.dose.massInFlight }) rfl hn hc ?_)
      (debtToMonitor_seat _)
    have manual : s.dose.mode = .manual := by simpa [modeOfState] using mode
    change modeOfState s.dose.mode .idle = true
    rw [manual]
    rfl
  · exact h

theorem inOrder_enterFault {s : State} (h : InOrder s) (hn : s.table.count isStroke = 0)
    (hc : s.table.count isConfirm = 0) (hm : s.dose.mode = .auto) : InOrder (enterFault s) := by
  have entered : InOrder (setDosingState .fault s) := h.enter rfl hn hc (by
    change modeOfState s.dose.mode .fault = true
    rw [hm]
    rfl)
  exact entered.of_seat (raiseDosing_seat _)

theorem inOrder_missedOutcome {p : Side} {s : State} (h : InOrder s) (hc : s.table.count isConfirm = 0) :
    InOrder (missedOutcome p s) := by
  have mode := h.mode
  unfold missedOutcome
  split
  · rename_i state
    have hn := h.no_stroke (by simp [state])
    rw [state] at mode
    have armed : InOrder (s.onDose fun d => { d with massInFlight := 0, state := .armed }) := h.enter rfl hn hc mode
    have auto : s.dose.mode = .auto := by simpa [modeOfState] using mode
    dsimp only
    split
    · exact (inOrder_enterFault armed hn hc auto).of_seat (debtToMonitor_seat _)
    · exact inOrder_schedulingCheck (armed.of_seat (debtToMonitor_seat _))
  · rename_i state
    have hn := h.no_stroke (by simp [state])
    rw [state] at mode
    refine InOrder.of_seat (h.enter (t := (s.onDose fun d => { d with massInFlight := 0, state := .idle })
      |> onStation fun a => { a with manualMisses := a.manualMisses + 1 }) rfl hn hc ?_) (debtToMonitor_seat _)
    have manual : s.dose.mode = .manual := by simpa [modeOfState] using mode
    change modeOfState s.dose.mode .idle = true
    rw [manual]
    rfl
  · exact h

theorem count_of_seat {s t : State} (e : seat t = seat s) (test : Entry → Bool) :
    t.table.count test = s.table.count test := by
  simp only [seat, Prod.mk.injEq] at e
  rw [ActionTable.count, e.1, ActionTable.count]

theorem missStroke_eq (p : Side) (s : State) : ∃ x, seat x = seat s ∧ missStroke p s = missedOutcome p x := by
  refine ⟨_, ?_, rfl⟩
  split <;> simp

theorem inOrder_missStroke {p : Side} {s : State} (h : InOrder s) (hc : s.table.count isConfirm = 0) :
    InOrder (missStroke p s) := by
  obtain ⟨x, e, missed⟩ := missStroke_eq p s
  rw [missed]
  exact inOrder_missedOutcome (h.of_seat e) ((count_of_seat e _).trans hc)

theorem inOrder_deadline {p : Side} {s : State} (h : InOrder s) (hs : awaits s.dose.state = true)
    (hc : s.table.count isConfirm = 0) : InOrder (deadline p s) := by
  have e : seat (endDriveIfReached p s) = seat s :=
    endDriveIfReached_seat (fun f => by simp [f, awaits] at hs) (fun f => by simp [f, awaits] at hs)
  unfold deadline
  dsimp only
  split
  · exact inOrder_missStroke (h.of_seat e) ((count_of_seat e _).trans hc)
  · exact h.of_seat e

theorem isConfirm_of_isConfirmOf {p : Side} {e : Entry} (h : isConfirmOf p e = true) : isConfirm e = true := by
  simp only [isConfirmOf, Bool.and_eq_true] at h
  exact h.1

theorem boolCode_le_one (b : Bool) : boolCode b ≤ 1 := by cases b <;> decide

theorem withdrawStroke_inOrder {s : State} (h : InOrder s) : InOrder (withdrawStroke s) :=
  InOrder.of_seat (h.fewer (t := s.onTable (·.drop isStroke)) (formed_drop h.formed _)
    (fun test => count_drop_le test _ _) rfl) rfl

/-- A stroke that waits is withdrawn, so that no STROKE entry is left. -/
theorem withdrawn {s : State} (h : InOrder s) : ∀ x, x = (if s.dose.state = .strokeWait then withdrawStroke s else s) →
    InOrder x ∧ x.table.count isStroke = 0 ∧ x.dose.mode = s.dose.mode ∧ x.dose.state = s.dose.state := by
  rintro x rfl
  split
  · exact ⟨withdrawStroke_inOrder h, count_drop_same isStroke s.table, rfl, rfl⟩
  · exact ⟨h, h.no_stroke ‹_›, rfl, rfl⟩

theorem inOrder_afterStrayFailure {p : Side} {duty : Bool} {s : State} (h : InOrder s) :
    InOrder (afterStrayFailure p duty s) := by
  unfold afterStrayFailure
  dsimp only
  split
  · rename_i took
    simp only [Bool.and_eq_true, beq_iff_eq, bne_iff_ne] at took
    obtain ⟨⟨-, auto⟩, free⟩ := took
    generalize hx : (if s.dose.state = .strokeWait then withdrawStroke s else s) = x
    obtain ⟨order, hn, mode, state⟩ := withdrawn h x hx.symm
    have xmode : x.dose.mode = .auto := mode.trans auto
    have hc : x.table.count isConfirm = 0 := by
      refine order.no_confirm ?_
      have goes := order.mode
      rw [xmode] at goes
      cases e : x.dose.state
      case confirmWait => exact absurd (state ▸ e) free
      case manualWait =>
        rw [e] at goes
        cases goes
      all_goals rfl
    split
    · exact inOrder_enterFault order hn hc xmode
    · refine inOrder_schedulingCheck (order.enter rfl hn hc ?_)
      change modeOfState x.dose.mode .armed = true
      rw [xmode]
      rfl
  · exact h

theorem inOrder_strayEdge {p : Side} {s : State} (h : InOrder s) : InOrder (strayEdge p s) := by
  unfold strayEdge
  dsimp only
  have counted : InOrder (raiseDosing (onStrokes p (fun c => { c with stray := c.stray + 1 }) s)) :=
    h.of_seat (by simp)
  generalize raiseDosing (onStrokes p (fun c => { c with stray := c.stray + 1 }) s) = x at counted ⊢
  (repeat' split)
  · exact inOrder_afterStrayFailure (counted.of_seat (by simp))
  · exact counted.of_seat (by simp)
  · exact counted

theorem inOrder_senseEdge {p : Side} {s : State} (h : InOrder s) : InOrder (senseEdge p s) := by
  have sensed : ∀ f, InOrder (s.onSense f) := fun _ => h.of_seat rfl
  unfold senseEdge
  dsimp only
  generalize hx : (s.onSense _ : State) = x
  have hx : InOrder x := hx ▸ sensed _
  split
  · rename_i confirmed
    simp only [confirms, Bool.and_eq_true] at confirmed
    have one : x.table.count isConfirm ≤ 1 := hx.confirms.trans (boolCode_le_one _)
    have here := count_pos_of_any confirmed.2
    have dropped := count_drop_add (test := isConfirm) (gone := isConfirmOf p) (fun _ => isConfirm_of_isConfirmOf) x.table
    have gone : InOrder (x.onTable (·.drop (isConfirmOf p))) :=
      hx.fewer (formed_drop hx.formed _) (fun test => count_drop_le test _ _) rfl
    have e : ∀ y : State, seat (raiseDosing (onStrokes p (fun c => { c with confirmed := c.confirmed + 1 })
        (y.onPump (·.modify p pumpConfirmed)))) = seat y := fun y => by simp
    refine inOrder_confirmedOutcome (gone.of_seat (e _)) ?_
    rw [count_of_seat (e _)]
    change (x.table.drop (isConfirmOf p)).count isConfirm = 0
    omega
  · exact inOrder_strayEdge hx

/-! ## Modes, manual strokes and starts -/

theorem inOrder_changeMode {m : DosingMode} {s : State} (h : InOrder s) (hc : s.dose.state ≠ .confirmWait)
    (hm : s.dose.state ≠ .manualWait) (hne : m ≠ s.dose.mode) : InOrder (changeMode m s) := by
  have unproved : s.table.count isConfirm = 0 := h.no_confirm (by simp [awaits, hc, hm])
  have other : ∀ k : DosingMode, k ≠ .auto →
      InOrder (raiseDosing (setMode k (setDosingState .idle (forgoAccount
        (if s.dose.state = .strokeWait then withdrawStroke s else s))))) := by
    intro k hk
    generalize hx : (if s.dose.state = .strokeWait then withdrawStroke s else s) = x
    obtain ⟨order, hn, -, state⟩ := withdrawn h x hx.symm
    have left : InOrder (setMode k (setDosingState .idle (forgoAccount x))) := by
      refine order.enter rfl hn (order.no_confirm ?_) ?_
      · rw [state]
        simp [awaits, hc, hm]
      · change (k != .auto) = true
        simpa using hk
    exact left.of_seat (raiseDosing_seat _)
  cases m with
  | auto =>
    have idle : s.dose.state = .idle := by
      have goes := h.mode
      cases e : s.dose.state
      case idle => rfl
      case manualWait => exact absurd e hm
      all_goals
        rw [e] at goes
        exact absurd (beq_iff_eq.mp goes).symm hne
    have entered : InOrder (enterAuto s) := by
      refine h.enter rfl (h.no_stroke (by simp [idle])) unproved ?_
      unfold enterAuto setDosingState
      simp only [State.onDose_dose, setMode, onStation_dose]
      split <;> rfl
    exact (inOrder_schedulingCheck entered).of_seat (raiseDosing_seat _)
  | off => exact other .off (by decide)
  | manual => exact other .manual (by decide)

theorem inOrder_manualDrive {p : Side} {s : State} (h : InOrder s) (hm : s.dose.mode = .manual)
    (hs : s.dose.state ≠ .manualWait) : InOrder (manualDrive p s) := by
  have idle : s.dose.state = .idle := by
    have goes := h.mode
    rw [hm] at goes
    cases e : s.dose.state
    case idle => rfl
    case manualWait => exact absurd e hs
    all_goals
      rw [e] at goes
      cases goes
  refine inOrder_startDrive h rfl (h.no_stroke (by simp [idle])) (h.no_confirm (by simp [idle, awaits])) rfl ?_
  change (s.dose.mode == .manual) = true
  rw [hm]
  rfl

theorem inOrder_startDosing {s : State} (h : s.table = emptyTable) : InOrder (startDosing s) := by
  have formed : Formed emptyTable := ⟨rfl, fun e he => by simp [emptyTable] at he⟩
  have empty : ∀ t : State, t.table = emptyTable → modeOfState t.dose.mode t.dose.state = true → InOrder t := by
    intro t ht hm
    refine ⟨ht ▸ formed, ?_, ?_, ?_, hm⟩ <;> rw [ht] <;> exact Nat.zero_le _
  unfold startDosing
  dsimp only
  split
  · rename_i auto
    refine InOrder.of_seat ?_ (raiseDosing_seat _)
    refine inOrder_schedulingCheck (empty _ (by simpa using h) ?_)
    simp only [setDosingState, State.onDose_dose] at auto ⊢
    rw [auto]
    split <;> rfl
  · rename_i other
    exact empty _ (by simpa using h) (bne_iff_ne.mpr other)

theorem scan_seat (s : State) : seat (startScan (announceRuns s)) = seat s := seat_of (by simp) (by simp)

theorem inOrder_startPower (s : State) : InOrder (startPower s) := by
  have loaded : (forgoExcess (openFirstPeriod (loadBlocks s))).table = emptyTable := by
    simp [openFirstPeriod, loadBlocks]
  unfold startPower
  exact (inOrder_startDosing loaded).of_seat (scan_seat _)

theorem inOrder_restartPart (s : State) : InOrder (restartPart s) := by
  unfold restartPart
  exact (inOrder_startDosing rfl).of_seat (scan_seat _)

theorem inOrder_startWhenReady {s : State} (h : InOrder s) : InOrder (startWhenReady s) := by
  rcases startWhenReady_cases s with ⟨_, _, _, e⟩ | ⟨_, e⟩ <;> rw [e]
  · exact inOrder_startPower s
  · exact h

theorem inOrder_loseSupply (s : State) : InOrder (loseSupply s) := by
  refine InOrder.of_seat (s := State.reset) ((tableInOrder_iff _).mp (by decide)) rfl

/-! ## Closes -/

theorem inOrder_closeInterval {s : State} (h : InOrder s) : InOrder (closeInterval s) := by
  refine inOrder_accrue (h.of_seat (seat_of ?_ ?_)) <;> simp [closeRuns]

theorem inOrder_applyStaged {s : State} (h : InOrder s) : InOrder (applyStaged s) := by
  have applied : InOrder (dropIntegrity s.settings.active (applySections s)) := h.of_same (by simp) (by simp)
  have retuned : ∀ old new x, InOrder x → InOrder (retuneMonitors old new x) :=
    fun _ _ _ hx => hx.of_same (by simp) (by simp)
  have checked : ∀ x, InOrder x → InOrder (schedulingCheck (forgoExcess x)) :=
    fun x hx => inOrder_schedulingCheck (hx.of_seat rfl)
  unfold applyStaged
  dsimp only
  generalize dropIntegrity s.settings.active (applySections s) = x at applied ⊢
  split <;> split
  · exact checked _ (retuned _ _ _ applied)
  · exact checked _ applied
  · exact retuned _ _ _ applied
  · exact applied

theorem inOrder_closePeriod {c : CloseCause} {s : State} (h : InOrder s) : InOrder (closePeriod c s) :=
  h.of_same (by simp) (by simp)

theorem inOrder_boundaryWith {close : State → State} (hc : ∀ s, InOrder s → InOrder (close s)) {s : State}
    (h : InOrder s) : InOrder (boundaryWith close s) := by
  have settled : InOrder (settleRuns (clearCounts (closeInterval s))) :=
    (inOrder_closeInterval h).of_same (by simp) (by simp)
  have counted : InOrder (countInterval (applyStaged (settleRuns (clearCounts (closeInterval s))))) :=
    (inOrder_applyStaged settled).of_same (by simp) (by simp)
  have marked : InOrder (markReconfig (reconfigRuns s.settings)
      (close (countInterval (applyStaged (settleRuns (clearCounts (closeInterval s))))))) :=
    (hc _ counted).of_same (by simp) (by simp)
  exact marked.of_same (beginInterval_table _) (beginInterval_dose _)

theorem inOrder_lengthClose {s : State} (h : InOrder s) : InOrder (lengthClose s) := by
  unfold lengthClose
  split
  · exact inOrder_closePeriod h
  · exact h

theorem inOrder_forcedClose {s : State} (h : InOrder s) : InOrder (forcedClose s) := by
  unfold forcedClose
  split
  · exact inOrder_closePeriod h
  · exact inOrder_boundaryWith (fun _ => inOrder_closePeriod) h

/-! ## Every step -/

theorem linkTarget_inOrder {e : Entry} (ho : e.owner = .link) (ht : linkTarget e.kind e.target = true) :
    e.inOrder = true := by
  unfold Entry.inOrder
  cases k : e.kind <;> simp_all [linkTarget]

theorem inOrder_schedule {s : State} {e : Entry} (h : InOrder s) (ho : e.owner = .link)
    (ht : linkTarget e.kind e.target = true) (hn : s.table.count isLink < 6) : InOrder (s.onTable (·.place e)) := by
  have stroke : isStroke e = false := by
    unfold isStroke
    cases k : e.kind <;> simp_all [linkTarget]
  have confirm : isConfirm e = false := by
    unfold isConfirm
    cases k : e.kind <;> simp_all [linkTarget]
  refine ⟨formed_place h.formed (linkTarget_inOrder ho ht), ?_, ?_, ?_, h.mode⟩
  · have := count_place_le isLink e s.table
    have := boolCode_le_one (isLink e)
    change (s.table.place e).count isLink ≤ 6
    omega
  · exact (count_place_other stroke _).trans h.strokes
  · exact (count_place_other confirm _).trans h.confirms

theorem inOrder_kept : Kept InOrder where
  pending _ _ h := h.of_seat rfl
  elapse dt s h := h.of_same (by simp) (by simp)
  pins _ _ h := h.of_seat rfl
  receiver _ _ h := h.of_seat rfl
  finish s h := h.of_same (by simp) (by simp)
  reply _ _ _ h := h.of_seat rfl
  request u v w h := by
    cases w
    case periodClosed => exact inOrder_forcedClose h
    case readingTaken m =>
      refine h.of_seat ?_
      have evaluated : seat (evaluate 15 m u) = seat u := seat_of (by simp) (by simp)
      unfold takeReading
      dsimp only
      split
      · rw [raiseDosing_seat]
        exact evaluated
      · exact evaluated
    case modeChanged m hc hm hne => exact inOrder_changeMode h hc hm hne
    case manualStroke p hm hs => exact inOrder_manualDrive h hm hs
    case pumpReset p =>
      unfold resetPump
      exact inOrder_pumpBecameReady (h.of_seat (by simp))
    case scheduled e ho ht hn => exact inOrder_schedule h ho ht hn
    case cancelled id e _ _ => exact inOrder_free h _
    case eventCleared m => exact h.of_same (by simp) (by simp)
    case sectionProtected i => exact h.of_same (by simp) (by simp)
    case runOpened r => exact h.of_same (by simp) (by simp)
    case runClosed r => exact h.of_same (by simp) (by simp)
    all_goals exact h.of_seat rfl

theorem stroke_waits {s : State} (h : InOrder s) {id : Fin 8} {e : Entry} (he : s.table.at id.val = some e)
    (k : e.kind = .stroke) : s.dose.state = .strokeWait := by
  have one := count_pos_of_at (test := isStroke) he (by simp [isStroke, k])
  have most := h.strokes
  by_contra other
  simp [other, boolCode] at most
  omega

theorem confirm_awaits {s : State} (h : InOrder s) {id : Fin 8} {e : Entry} (he : s.table.at id.val = some e)
    (k : e.kind = .confirm) : awaits s.dose.state = true := by
  have one := count_pos_of_at (test := isConfirm) he (by simp [isConfirm, k])
  have most := h.confirms
  by_contra other
  simp [Bool.not_eq_true _ ▸ other, boolCode] at most
  omega

/-- The work of every event keeps the table and the dosing state in order. -/
theorem eventWork_inOrder {u v : State} {c : Instr} (w : EventWork u c v) (h : InOrder u) : InOrder v := by
  cases w
  case powerOn after _ =>
    unfold powerUp
    dsimp only
    split
    · exact inOrder_startWhenReady ((inOrder_loseSupply u).of_seat rfl)
    · exact inOrder_startWhenReady (h.of_seat rfl)
  case powerFailWarning after =>
    refine h.of_seat ?_
    split
    · unfold powerFail markAbandoned
      split <;> rfl
    · rfl
  case pfwRise after => exact inOrder_startWhenReady (h.of_same (by simp) (by simp))
  case restartBegin after _ => exact inOrder_restartPart u
  case warmupEnd after _ => exact h.of_same (by simp [enterRunning]) (by simp [enterRunning])
  case boundary after _ => exact inOrder_boundaryWith (fun _ => inOrder_lengthClose) h
  case conversionCompletion after current ch _ => exact h.of_same (by simp) (by simp)
  case senseEdge after p _ => exact inOrder_senseEdge h
  case driveEnd after p _ => exact inOrder_endDrive h
  case strokeEntry after id e he k =>
    have state := stroke_waits h he k
    split
    · refine inOrder_autoDrive (inOrder_free h id.val) state ?_
      have freed := count_free_of_at (test := isStroke) he (by simp [isStroke, k])
      have most := h.strokes.trans (boolCode_le_one _)
      change (u.table.free id.val).count isStroke = 0
      omega
    · exact inOrder_free h id.val
  case confirmEntry after id e he k =>
    have state := confirm_awaits h he k
    split
    · refine inOrder_deadline (inOrder_free h id.val) state ?_
      have freed := count_free_of_at (test := isConfirm) he (by simp [isConfirm, k])
      have most := h.confirms.trans (boolCode_le_one _)
      change (u.table.free id.val).count isConfirm = 0
      omega
    · exact inOrder_free h id.val
  case auxOnEntry after id e _ _ =>
    refine (inOrder_free h id.val).of_seat ?_
    unfold setAux
    split <;> rfl
  case auxOffEntry after id e _ _ =>
    refine (inOrder_free h id.val).of_seat ?_
    unfold setAux
    split <;> rfl
  case closePeriodEntry after id e _ _ =>
    split
    · exact inOrder_forcedClose (inOrder_free h id.val)
    · exact inOrder_free h id.val
  case timerNoticeEntry after id e _ _ => exact (inOrder_free h id.val).of_same (by simp) (by simp)
  case storeWriteComplete after x _ => exact h.of_same (by simp) (by simp)
  case frameSent after _ =>
    refine h.of_seat ?_
    unfold endFrame
    dsimp only
    (repeat' split) <;> rfl
  case lossOfSupply after =>
    unfold supplyLost
    split
    · exact h.of_seat rfl
    · exact inOrder_loseSupply u
  all_goals exact h.of_seat rfl

/-- Settles O55: a STROKE entry stands only while a stroke waits and a CONFIRM entry only while an outcome is awaited, and what
leaves those states takes the entry with it. -/
theorem tableInOrderKept : Obligations.TableInOrderKept := by
  intro s t hs h
  rw [tableInOrder_iff] at hs ⊢
  exact inOrder_kept.step h hs fun _ _ _ => eventWork_inOrder

end Sys2Proof.Proofs.Table
end

section
/-! PROOFS. The reply queue, the pending notices and the receiver in order, which every step keeps (R181, R186, R187). -/

namespace Sys2Proof.Proofs.Notices

open Sys2Proof Sys2Proof.Machine Sys2Proof.Proofs.Steps Sys2Proof.Proofs.Replies Sys2Proof.Proofs.Table

/-! ## Pending notices in their order -/

theorem subject_lt {n : Notice} (h : n.subjectInRange = true) : n.subject < 256 := by
  unfold Notice.subjectInRange at h
  cases hc : n.cls <;> simp [hc] at h <;> omega

/-- Notices that name subjects of their class are told apart by their rank. -/
theorem rank_injective {m n : Notice} (hm : m.subjectInRange = true) (hn : n.subjectInRange = true)
    (h : m.rank = n.rank) : m = n := by
  have lm := subject_lt hm
  have ln := subject_lt hn
  unfold Notice.rank at h
  obtain ⟨c, x⟩ := m
  obtain ⟨d, y⟩ := n
  dsimp only at *
  have subject : x = y := by omega
  have code : c.code = d.code := by omega
  have cls : c = d := by
    revert code
    cases c <;> cases d <;> decide
  rw [cls, subject]

/-- The pending pairs stand in the order of R187, none twice, each naming a subject of its class. -/
structure Ranked (l : List Notice) : Prop where
  rising : noticesInOrder l = true
  subjects : ∀ n ∈ l, n.subjectInRange = true

theorem rising_cons {m : Notice} {l : List Notice} :
    noticesInOrder (m :: l) = true ↔ (∀ n, l.head? = some n → m.rank < n.rank) ∧ noticesInOrder l = true := by
  cases l with
  | nil => simp [noticesInOrder]
  | cons n rest => simp [noticesInOrder]

theorem Ranked.tail {m : Notice} {l : List Notice} (h : Ranked (m :: l)) : Ranked l :=
  ⟨(rising_cons.mp h.rising).2, fun n hn => h.subjects n (List.mem_cons_of_mem _ hn)⟩

theorem head_addNotice (n : Notice) (l : List Notice) :
    (addNotice n l).head? = some n ∨ (addNotice n l).head? = l.head? := by
  cases l with
  | nil => exact .inl rfl
  | cons m rest =>
    unfold addNotice
    split
    · exact .inr rfl
    · split
      · exact .inl rfl
      · exact .inr rfl

theorem ranked_addNotice {n : Notice} (hn : n.subjectInRange = true) {l : List Notice} (h : Ranked l) :
    Ranked (addNotice n l) := by
  induction l with
  | nil => exact ⟨rfl, by simpa [addNotice] using hn⟩
  | cons m rest ih =>
    have hm := h.subjects m List.mem_cons_self
    have tail := ih h.tail
    unfold addNotice
    split
    · exact h
    · rename_i other
      split
      · rename_i before
        refine ⟨rising_cons.mpr ⟨fun k hk => ?_, h.rising⟩, fun k hk => ?_⟩
        · cases hk
          exact before
        · rcases List.mem_cons.mp hk with rfl | hk
          · exact hn
          · exact h.subjects k hk
      · rename_i after
        have apart : m.rank ≠ n.rank := fun e => other (rank_injective hm hn e).symm
        refine ⟨rising_cons.mpr ⟨fun k hk => ?_, tail.rising⟩, fun k hk => ?_⟩
        · rcases head_addNotice n rest with e | e <;> rw [e] at hk
          · cases hk
            omega
          · exact (rising_cons.mp h.rising).1 k hk
        · rcases List.mem_cons.mp hk with rfl | hk
          · exact hm
          · exact tail.subjects k hk

/-- The pending notices of the part are in order. -/
def Noted (s : State) : Prop := Ranked s.link.notices

theorem Noted.of_notices {s t : State} (h : Noted s) (e : t.link.notices = s.link.notices) : Noted t := by
  unfold Noted
  rw [e]
  exact h

theorem Noted.of_link {s t : State} (h : Noted s) (e : t.link = s.link) : Noted t := h.of_notices (by rw [e])

theorem noted_fold {α : Type} (f : State → α → State) (h : ∀ s x, Noted s → Noted (f s x)) (l : List α) (s : State)
    (hs : Noted s) : Noted (l.foldl f s) := by
  induction l generalizing s with
  | nil => exact hs
  | cons x rest ih => exact ih _ (h s x hs)

theorem noted_raise {c : NoticeClass} {n : Nat} (hn : (⟨c, n⟩ : Notice).subjectInRange = true) {s : State}
    (h : Noted s) : Noted (raise c n s) := by
  unfold raise
  split
  · exact ranked_addNotice hn h
  · exact h

theorem noted_raiseDosing {s : State} (h : Noted s) : Noted (raiseDosing s) := noted_raise rfl h

theorem noted_raiseRun {r : RunId} {s : State} (h : Noted s) : Noted (raiseRun r s) :=
  noted_raise (c := .run) (decide_eq_true r.isLt) h

theorem noted_raiseRuns {test : RunId → Bool} {s : State} (h : Noted s) : Noted (raiseRuns test s) := by
  refine noted_fold _ (fun s r hs => ?_) _ s h
  split
  · exact noted_raiseRun hs
  · exact hs

theorem noted_monitorNotices {m : Fin 16} {was is : MonitorState} {s : State} (h : Noted s) :
    Noted (monitorNotices m was is s) := by
  have critical : Noted (if is.critical && !was.critical then raise .critical m.val s else s) := by
    split
    · exact noted_raise (c := .critical) (decide_eq_true m.isLt) h
    · exact h
  unfold monitorNotices
  dsimp only
  split
  · exact noted_raise (c := .limit) (decide_eq_true m.isLt) critical
  · exact critical

theorem noted_evaluate {m : Fin 16} {v : Nat} {s : State} (h : Noted s) : Noted (evaluate m v s) := by
  unfold evaluate
  split
  · exact noted_monitorNotices h
  · exact h

theorem noted_debtToMonitor {s : State} (h : Noted s) : Noted (debtToMonitor s) := noted_evaluate h

theorem noted_retuneMonitors {old new : MonitorsSection} {s : State} (h : Noted s) :
    Noted (retuneMonitors old new s) :=
  noted_fold (retuneMonitor old new) (fun x m hs => noted_monitorNotices (s := setMonitor m _ x) hs) _ s h

theorem noted_schedulingCheck {s : State} (h : Noted s) : Noted (schedulingCheck s) := h.of_link (by simp)

theorem noted_accrue {vbs : Nat} {s : State} (h : Noted s) : Noted (accrue vbs s) := by
  have formed : Noted (debtToMonitor (accrueAccount vbs s)) := noted_debtToMonitor h
  unfold accrue
  dsimp only
  split
  · exact noted_schedulingCheck formed
  · exact formed

/-! ## Closes -/

theorem noted_closeInterval {s : State} (h : Noted s) : Noted (closeInterval s) := by
  refine noted_accrue (noted_fold _ (fun x r hx => ?_) _ _ (noted_raiseRuns h))
  split
  · exact noted_evaluate hx
  · exact hx

theorem noted_applyStaged {s : State} (h : Noted s) : Noted (applyStaged s) := by
  have applied : Noted (dropIntegrity s.settings.active (applySections s)) :=
    noted_raiseRuns (h.of_link (t := (applySections s).onPulse _) (by simp))
  have checked : ∀ x, Noted x → Noted (schedulingCheck (forgoExcess x)) := fun x hx => noted_schedulingCheck hx
  unfold applyStaged
  dsimp only
  generalize dropIntegrity s.settings.active (applySections s) = x at applied ⊢
  split <;> split
  · exact checked _ (noted_retuneMonitors applied)
  · exact checked _ applied
  · exact noted_retuneMonitors applied
  · exact applied

theorem noted_closePeriod {c : CloseCause} {s : State} (h : Noted s) : Noted (closePeriod c s) := by
  unfold closePeriod closePeriodAs
  dsimp only
  refine Noted.of_link (noted_raise rfl ?_) (State.onTime_link _ _)
  exact h.of_link (by simp)

theorem noted_boundaryWith {close : State → State} (hc : ∀ s, Noted s → Noted (close s)) {s : State} (h : Noted s) :
    Noted (boundaryWith close s) := by
  have settled : Noted (settleRuns (clearCounts (closeInterval s))) :=
    noted_raiseRuns ((noted_closeInterval h).of_link rfl)
  have counted : Noted (countInterval (applyStaged (settleRuns (clearCounts (closeInterval s))))) :=
    (noted_applyStaged settled).of_link (countInterval_link _)
  have marked : Noted (markReconfig (reconfigRuns s.settings)
      (close (countInterval (applyStaged (settleRuns (clearCounts (closeInterval s))))))) :=
    (hc _ counted).of_link (markReconfig_link _ _)
  exact marked.of_link (beginInterval_link _)

theorem noted_lengthClose {s : State} (h : Noted s) : Noted (lengthClose s) := by
  unfold lengthClose
  split
  · exact noted_closePeriod h
  · exact h

theorem noted_forcedClose {s : State} (h : Noted s) : Noted (forcedClose s) := by
  unfold forcedClose
  split
  · exact noted_closePeriod h
  · exact noted_boundaryWith (fun _ => noted_closePeriod) h

/-! ## Strokes and pumps -/

theorem noted_changeover {s : State} (h : Noted s) : Noted (changeover s) := noted_raiseDosing h

theorem noted_enterFault {s : State} (h : Noted s) : Noted (enterFault s) := noted_raiseDosing h

theorem noted_failPump {p : Side} {s : State} (h : Noted s) : Noted (failPump p s) := by
  have failed : ∀ f, Noted (raiseDosing (s.onPump f)) := fun _ => noted_raiseDosing h
  unfold failPump
  dsimp only
  split
  · exact noted_changeover (failed _)
  · exact failed _

theorem noted_pumpBecameReady {p : Side} {s : State} (h : Noted s) : Noted (pumpBecameReady p s) := by
  have duty : Noted (if !s.pumpReady s.duty && s.dose.state != .confirmWait then
      s.onDose fun d => { d with duty := p } else s) := by
    split <;> exact h
  unfold pumpBecameReady
  dsimp only
  generalize (if !s.pumpReady s.duty && s.dose.state != .confirmWait then
      s.onDose fun d => { d with duty := p } else s) = x at duty ⊢
  refine noted_schedulingCheck ?_
  split
  · exact noted_raiseDosing duty
  · exact duty

theorem noted_endDrive {p : Side} {s : State} (h : Noted s) : Noted (endDrive p s) := by
  unfold endDrive
  dsimp only
  split
  · exact h
  · exact noted_pumpBecameReady h
  · exact h

theorem noted_endDriveIfReached {p : Side} {s : State} (h : Noted s) : Noted (endDriveIfReached p s) := by
  unfold endDriveIfReached
  split
  · exact noted_endDrive h
  · exact h

theorem noted_autoDrive {p : Side} {s : State} (h : Noted s) : Noted (autoDrive p s) := by
  have ended : Noted (endDriveIfReached p.other s) := noted_endDriveIfReached h
  unfold autoDrive
  dsimp only
  split <;> exact ended

theorem noted_confirmedOutcome {s : State} (h : Noted s) : Noted (confirmedOutcome s) := by
  unfold confirmedOutcome
  split
  · exact noted_schedulingCheck (noted_debtToMonitor h)
  · exact noted_debtToMonitor h
  · exact h

theorem noted_missedOutcome {p : Side} {s : State} (h : Noted s) : Noted (missedOutcome p s) := by
  unfold missedOutcome
  split
  · dsimp only
    split
    · exact noted_debtToMonitor (noted_enterFault h)
    · exact noted_schedulingCheck (noted_debtToMonitor h)
  · exact noted_debtToMonitor h
  · exact h

theorem noted_missStroke {p : Side} {s : State} (h : Noted s) : Noted (missStroke p s) := by
  have missed : ∀ f g, Noted (raiseDosing (onStrokes p f (s.onPump g))) := fun _ _ => noted_raiseDosing h
  unfold missStroke
  dsimp only
  refine noted_missedOutcome ?_
  split
  · exact noted_failPump (missed _ _)
  · exact missed _ _

theorem noted_deadline {p : Side} {s : State} (h : Noted s) : Noted (deadline p s) := by
  have ended : Noted (endDriveIfReached p s) := noted_endDriveIfReached h
  unfold deadline
  dsimp only
  split
  · exact noted_missStroke ended
  · exact ended

theorem noted_afterStrayFailure {p : Side} {duty : Bool} {s : State} (h : Noted s) :
    Noted (afterStrayFailure p duty s) := by
  have waiting : Noted (if s.dose.state = .strokeWait then withdrawStroke s else s) := by
    split
    · exact h.of_link (by simp)
    · exact h
  unfold afterStrayFailure
  dsimp only
  generalize (if s.dose.state = .strokeWait then withdrawStroke s else s) = x at waiting ⊢
  split
  · split
    · exact noted_enterFault waiting
    · exact noted_schedulingCheck waiting
  · exact h

theorem noted_strayEdge {p : Side} {s : State} (h : Noted s) : Noted (strayEdge p s) := by
  have counted : Noted (raiseDosing (onStrokes p (fun c => { c with stray := c.stray + 1 }) s)) := noted_raiseDosing h
  unfold strayEdge
  dsimp only
  generalize raiseDosing (onStrokes p (fun c => { c with stray := c.stray + 1 }) s) = x at counted ⊢
  (repeat' split)
  · exact noted_afterStrayFailure (noted_failPump counted)
  · exact counted
  · exact counted

theorem noted_senseEdge {p : Side} {s : State} (h : Noted s) : Noted (senseEdge p s) := by
  unfold senseEdge
  dsimp only
  split
  · unfold confirmStroke
    exact noted_confirmedOutcome (noted_raiseDosing h)
  · exact noted_strayEdge h

theorem noted_takeReading {m : Nat} {s : State} (h : Noted s) : Noted (takeReading m s) := by
  unfold takeReading
  dsimp only
  split
  · refine noted_raiseDosing ?_
    exact h
  · exact h

theorem noted_changeMode {m : DosingMode} {s : State} (h : Noted s) : Noted (changeMode m s) := by
  have entered : Noted (enterAuto s) := h.of_link (by simp)
  have waiting : Noted (if s.dose.state = .strokeWait then withdrawStroke s else s) := by
    split
    · exact h.of_link (by simp)
    · exact h
  have left : ∀ k x, Noted x → Noted (setMode k (setDosingState .idle (forgoAccount x))) := fun _ _ hx => hx
  cases m with
  | auto =>
    simp only [changeMode]
    exact noted_raiseDosing (noted_schedulingCheck entered)
  | off =>
    simp only [changeMode]
    exact noted_raiseDosing (left _ _ waiting)
  | manual =>
    simp only [changeMode]
    exact noted_raiseDosing (left _ _ waiting)

/-! ## Runs, channels and starts -/

theorem noted_followChannel {c : ChannelId} {s : State} (h : Noted s) : Noted (followChannel c s) := by
  have follow : ∀ r, Noted (followChannels r s) := by
    intro r
    have moved : ∀ x, Noted (raiseRun r (setRunState r x s)) := fun _ => noted_raiseRun h
    unfold followChannels
    (repeat' split)
    · exact h
    · exact moved _
    · exact moved _
    · exact h
    · exact h
  unfold followChannel
  split
  · exact follow _
  · exact follow _
  · exact h

theorem noted_completion {c : ChannelId} {current : Nat} {s : State} (h : Noted s) : Noted (completion c current s) := by
  unfold completion
  dsimp only
  refine (noted_evaluate (noted_followChannel ?_)).of_link (nextConversion_link _ _)
  exact h

theorem noted_startDosing {s : State} (h : Noted s) : Noted (startDosing s) := by
  unfold startDosing
  dsimp only
  split
  · refine noted_raiseDosing (noted_schedulingCheck ?_)
    exact h
  · exact h

theorem noted_scan {s : State} (h : Noted s) : Noted (startScan (announceRuns s)) := by
  have announced : Noted (announceRuns s) := noted_raiseRuns h
  exact announced.of_link (startScan_link _)

theorem ranked_nil : Ranked [] := ⟨rfl, fun _ h => nomatch h⟩

theorem noted_startPower (s : State) : Noted (startPower s) := by
  unfold startPower
  exact noted_scan (noted_startDosing ranked_nil)

theorem noted_restartPart (s : State) : Noted (restartPart s) := by
  unfold restartPart
  exact noted_scan (noted_startDosing ranked_nil)

theorem noted_startWhenReady {s : State} (h : Noted s) : Noted (startWhenReady s) := by
  rcases startWhenReady_cases s with ⟨_, _, _, e⟩ | ⟨_, e⟩ <;> rw [e]
  · exact noted_startPower s
  · exact h

/-! ## Every step -/

theorem noted_finish {s : State} (h : Noted s) : Noted (finish s) := by
  have served : Noted (serveStore s) := h.of_link (by simp)
  unfold finish
  rcases serveLink_cases (serveStore s) with e | ⟨f, rest, _, e⟩ | ⟨n, rest, _, hn, e⟩ <;> rw [e]
  · exact served
  · exact served
  · unfold Noted at served
    rw [hn] at served
    exact served.tail

theorem timer_subject {s : State} (h : InOrder s) {id : Nat} {e : Entry} (he : s.table.at id = some e)
    (k : e.kind = .timerNotice) : (⟨.timer, e.target⟩ : Notice).subjectInRange = true := by
  have order := formed_at h.formed he
  unfold Entry.inOrder at order
  rw [k] at order
  simp only [linkTarget, Bool.and_eq_true, decide_eq_true_eq] at order
  exact decide_eq_true (Nat.lt_succ_of_le order.2)

/-- The work of every event keeps the notices in order. -/
theorem eventWork_noted {u v : State} {c : Instr} (w : EventWork u c v) (t : InOrder u) (h : Noted u) : Noted v := by
  cases w
  case powerOn after _ =>
    unfold powerUp
    dsimp only
    split
    · exact noted_startWhenReady ranked_nil
    · exact noted_startWhenReady h
  case powerFailWarning after =>
    split
    · exact h.of_notices (by simp [powerFail])
    · exact h
  case pfwRise after => exact noted_startWhenReady (h.of_link (by simp))
  case restartBegin after _ => exact noted_restartPart u
  case warmupEnd after _ => exact h.of_link (by simp [enterRunning])
  case boundary after _ => exact noted_boundaryWith (fun _ => noted_lengthClose) h
  case conversionCompletion after current ch _ => exact noted_completion h
  case senseEdge after p _ => exact noted_senseEdge h
  case driveEnd after p _ => exact noted_endDrive h
  case strokeEntry after id e _ _ =>
    split
    · exact noted_autoDrive h
    · exact h
  case confirmEntry after id e _ _ =>
    split
    · exact noted_deadline h
    · exact h
  case auxOnEntry after id e _ _ => exact h.of_link (by simp)
  case auxOffEntry after id e _ _ => exact h.of_link (by simp)
  case closePeriodEntry after id e _ _ =>
    split
    · exact noted_forcedClose h
    · exact h
  case timerNoticeEntry after id e he k => exact noted_raise (timer_subject t he k) h
  case storeWriteComplete after x _ => exact h.of_link (by simp)
  case frameSent after _ =>
    unfold endFrame
    dsimp only
    (repeat' split) <;> exact h
  case lossOfSupply after =>
    unfold supplyLost
    split
    · exact h
    · exact ranked_nil
  all_goals exact h

/-- The replies, the notices and the table in order. -/
structure Linked (s : State) : Prop where
  table : InOrder s
  queue : s.link.queue.length ≤ 4
  notices : Noted s

theorem taken_length {a b : List Frame} {n : Nat} (h : Taken a b) (ha : a.length ≤ n) : b.length ≤ n := by
  obtain ⟨k, rfl⟩ := h
  rw [List.length_drop]
  omega

theorem linked_kept : Kept Linked where
  pending l s h := ⟨inOrder_kept.pending l s h.table, h.queue, h.notices⟩
  elapse dt s h := ⟨inOrder_kept.elapse dt s h.table, by simpa using h.queue, h.notices.of_notices (by simp)⟩
  pins p s h := ⟨inOrder_kept.pins p s h.table, h.queue, h.notices⟩
  receiver r s h := ⟨inOrder_kept.receiver r s h.table, h.queue, h.notices⟩
  finish s h := ⟨inOrder_kept.finish s h.table, (finish_queue_length s).trans h.queue, noted_finish h.notices⟩
  reply f s free h := by
    refine ⟨inOrder_kept.reply f s free h.table, ?_, h.notices⟩
    change (s.link.queue ++ [f]).length ≤ 4
    rw [List.length_append, List.length_singleton]
    omega
  request u v w h := by
    refine ⟨inOrder_kept.request u v w h.table, (requestWork_queue w).symm ▸ h.queue, ?_⟩
    have n := h.notices
    cases w
    case periodClosed => exact noted_forcedClose n
    case readingTaken m => exact noted_takeReading (noted_evaluate n)
    case modeChanged m _ _ _ => exact noted_changeMode n
    case pumpReset p => exact noted_pumpBecameReady (noted_raiseDosing n)
    case runOpened r => exact noted_raiseRun n
    case runClosed r => exact noted_raiseRun n
    case eventCleared m => exact n.of_link (by simp)
    case sectionProtected i => exact n.of_link (by simp)
    case protectionCleared => exact n.of_link (by simp)
    case locked _ => exact n.of_link (by simp)
    all_goals exact n

theorem eventWork_linked (c : Instr) (u v : State) (w : EventWork u c v) (h : Linked u) : Linked v :=
  ⟨eventWork_inOrder w h.table, taken_length (eventWork_lineLeft w).queue h.queue, eventWork_noted w h.table h.notices⟩

/-- Between commands the receiver is in HUNT. -/
theorem exec_receiver {c : Instr} {s t : State} (h : exec c s = .next t) (hs : s.link.receiver = huntReceiver) :
    t.link.receiver = huntReceiver := by
  have hu : (found c s).link.receiver = huntReceiver := by simpa [found] using hs
  have sent : ∀ (kind tag : Byte) (handle : State → Answer) (u : State), Works handle →
      (dispatch kind tag handle u).link.receiver = u.link.receiver := by
    intro kind tag handle u hw
    unfold dispatch
    split
    · rfl
    · simp only [finish_receiver]
      exact (finish_receiver _).trans (requestWork_receiver (hw u))
  cases exec_outcome c s t h with
  | unchanged => exact hu
  | event v w =>
    rw [finish_receiver]
    exact (eventWork_lineLeft w).receiver.elim (·.trans hu) id
  | request kind tag payload handle _ hw => exact sent _ _ _ _ hw
  | fault bytes _ _ =>
    rw [finish_receiver]
    rfl

theorem linkInOrder_iff (s : State) : s.linkInOrder = true
    ↔ s.link.queue.length ≤ 4 ∧ Ranked s.link.notices ∧ s.link.receiver = huntReceiver := by
  unfold State.linkInOrder
  simp only [Bool.and_eq_true, decide_eq_true_eq, beq_iff_eq, List.all_eq_true]
  exact ⟨fun ⟨⟨⟨a, b⟩, c⟩, d⟩ => ⟨a, ⟨b, c⟩, d⟩, fun ⟨a, ⟨b, c⟩, d⟩ => ⟨⟨⟨a, b⟩, c⟩, d⟩⟩

/-- Settles O56: a notice goes in at its rank, a reply is queued only where fewer than 4 wait, and a command's bytes leave the
receiver in HUNT. -/
theorem linkInOrderKept : Obligations.LinkInOrderKept := by
  intro s t table hs h
  obtain ⟨queue, notices, receiver⟩ := (linkInOrder_iff s).mp hs
  have linked : Linked s := ⟨(tableInOrder_iff s).mp table, queue, notices⟩
  have left := linked_kept.step h linked eventWork_linked
  refine (linkInOrder_iff t).mpr ⟨left.queue, left.notices, ?_⟩
  cases hp : s.pending with
  | nil =>
    rw [step_idle s hp] at h
    cases h
    simpa using receiver
  | cons c rest =>
    rw [step_cons s c rest hp] at h
    exact exec_receiver h receiver

end Sys2Proof.Proofs.Notices
end

section
/-! PROOFS. The account within its cap, and trim, residues, totals and heating value in their ranges, which every step keeps
(R57, R66, R80, R81, R94, R144). -/

namespace Sys2Proof.Proofs.Figures

open Sys2Proof Sys2Proof.Machine Sys2Proof.Proofs.Steps Sys2Proof.Proofs.Contents Sys2Proof.Proofs.Balance
  Sys2Proof.Proofs.Ring Sys2Proof.Proofs.Sections

/-! ## The figures -/

/-- The account lies within the cap, and is 0 outside AUTO. -/
structure Capped (s : State) : Prop where
  cap : s.dose.account ≤ s.odorant.cap
  mode : s.dose.mode = .auto ∨ s.dose.account = 0

/-- The other figures lie in their ranges. -/
structure Ranged (s : State) : Prop where
  trim : trimInRange s.dose.trim = true
  residue : s.dose.residue < nano
  residues : ∀ r, s.conv.residue.get r < 1000000
  totals : ∀ r, (s.recorder.totals.get r).inRange = true
  heating : heatingInRange s.settings.heatingValue = true
  staged : s.settings.stagedHeatingValue.all heatingInRange = true

structure Measured (s : State) : Prop where
  capped : Capped s
  ranged : Ranged s

theorem accountBounded_iff (s : State) : s.accountBounded = true ↔ Capped s := by
  unfold State.accountBounded
  rw [Bool.and_eq_true, Bool.or_eq_true, decide_eq_true_eq, beq_iff_eq, beq_iff_eq]
  exact ⟨fun ⟨a, b⟩ => ⟨a, b⟩, fun ⟨a, b⟩ => ⟨a, b⟩⟩

/-- The figures of a resume record lie in their ranges. -/
def ContentRanged : StoreContent → Prop
  | .resume r => r.figuresInRange = true
  | _ => True

theorem resume_ranged_iff {r : ResumeRecord} : r.figuresInRange = true ↔ trimInRange r.trim = true
    ∧ r.owedResidue < nano ∧ (∀ i, r.residues.get i < 1000000) ∧ (∀ i, (r.totals.get i).inRange = true)
    ∧ heatingInRange r.heatingValue = true := by
  unfold ResumeRecord.figuresInRange
  simp only [Bool.and_eq_true, four_all_iff, decide_eq_true_eq, residueInRange]
  exact ⟨fun ⟨⟨⟨⟨a, b⟩, c⟩, d⟩, e⟩ => ⟨a, b, c, d, e⟩, fun ⟨a, b, c, d, e⟩ => ⟨⟨⟨⟨a, b⟩, c⟩, d⟩, e⟩⟩

theorem figures_iff (s : State) :
    s.accountBounded = true ∧ s.figuresInRange = true ↔ Holds Measured ContentRanged s := by
  rw [accountBounded_iff]
  unfold State.figuresInRange
  simp only [Bool.and_eq_true, four_all_iff, decide_eq_true_eq, residueInRange, everyResume_iff]
  constructor
  · rintro ⟨capped, ⟨⟨⟨⟨⟨a, b⟩, c⟩, d⟩, e⟩, f⟩, stored⟩
    refine ⟨⟨capped, a, b, c, d, e, f⟩, fun x hx => ?_⟩
    cases x with
    | resume r => exact stored r hx
    | _ => trivial
  · rintro ⟨⟨capped, a, b, c, d, e, f⟩, stored⟩
    exact ⟨capped, ⟨⟨⟨⟨⟨a, b⟩, c⟩, d⟩, e⟩, f⟩, fun r hr => stored _ hr⟩

/-! ## Work that touches none of them -/

def gauge (s : State) : (DosingMode × Nat × Nat × Nat) × Four Nat × Four Totals × OdorantSection × Nat × Option Nat :=
  (purse s, s.conv.residue, s.recorder.totals, s.settings.active.odorant, s.settings.heatingValue,
    s.settings.stagedHeatingValue)

theorem gauge_of {s t : State} (hp : purse t = purse s) (hb : books t = books s) (hc : t.conv = s.conv)
    (hg : t.settings = s.settings) : gauge t = gauge s := by
  have totals : t.recorder.totals = s.recorder.totals := congrArg (·.2) hb
  unfold gauge
  rw [hp, totals, hc, hg]

theorem Measured.of_gauge {s t : State} (h : Measured s) (e : gauge t = gauge s) : Measured t := by
  obtain ⟨⟨cap, mode⟩, ⟨trim, residue, residues, totals, heating, staged⟩⟩ := h
  simp only [gauge, purse, Prod.mk.injEq] at e
  obtain ⟨⟨hm, ha, hr, ht⟩, hc, hs, ho, hh, hv⟩ := e
  unfold State.odorant at cap
  refine ⟨⟨?_, ?_⟩, ?_, ?_, ?_, ?_, ?_, ?_⟩
  · rw [State.odorant, ha, ho]
    exact cap
  · rw [hm, ha]
    exact mode
  · rwa [ht]
  · rwa [hr]
  · rwa [hc]
  · rwa [hs]
  · rwa [hh]
  · rwa [hv]

theorem Measured.of_parts {s t : State} (h : Measured s) (hp : purse t = purse s) (hb : books t = books s)
    (hc : t.conv = s.conv) (hg : t.settings = s.settings) : Measured t := h.of_gauge (gauge_of hp hb hc hg)

theorem Measured.of_same {s t : State} (h : Measured s) (hd : t.dose = s.dose) (hr : t.recorder = s.recorder)
    (hc : t.conv = s.conv) (hg : t.settings = s.settings) : Measured t :=
  h.of_parts (purse_of_dose hd) (books_of hr) hc hg

/-- A smaller account. -/
theorem Measured.less {s t : State} (h : Measured s) (hm : t.dose.mode = s.dose.mode)
    (ha : t.dose.account ≤ s.dose.account) (ht : t.dose.trim = s.dose.trim) (hr : t.dose.residue = s.dose.residue)
    (hb : books t = books s) (hc : t.conv = s.conv) (hg : t.settings = s.settings) : Measured t := by
  obtain ⟨⟨cap, mode⟩, ⟨trim, residue, residues, totals, heating, staged⟩⟩ := h
  have totals_eq : t.recorder.totals = s.recorder.totals := congrArg (·.2) hb
  refine ⟨⟨?_, ?_⟩, ht ▸ trim, hr ▸ residue, hc ▸ residues, totals_eq ▸ totals, hg ▸ heating, hg ▸ staged⟩
  · unfold State.odorant at cap ⊢
    rw [hg]
    omega
  · rw [hm]
    exact mode.imp_right fun z => by omega

@[simp] theorem missedOutcome_purse (p : Side) (s : State) : purse (missedOutcome p s) = purse s := by
  have state : ∀ x, purse (s.onDose fun d => { d with massInFlight := 0, state := x }) = purse s := fun _ => rfl
  have debt : ∀ x, purse (debtToMonitor x) = purse x := fun _ => purse_of_dose (by simp)
  have misses : ∀ f x, purse (onStation f x) = purse x := fun _ _ => rfl
  unfold missedOutcome
  dsimp only
  (repeat' split) <;> simp [state, debt, misses]

@[simp] theorem onStrokes_purse (p : Side) (f : StrokeCounts → StrokeCounts) (s : State) :
    purse (onStrokes p f s) = purse s := rfl

@[simp] theorem missStroke_purse (p : Side) (s : State) : purse (missStroke p s) = purse s := by
  unfold missStroke
  dsimp only
  (repeat' split) <;> simp

@[simp] theorem deadline_purse (p : Side) (s : State) : purse (deadline p s) = purse s := by
  unfold deadline
  dsimp only
  split <;> simp

theorem measured_schedulingCheck {s : State} (h : Measured s) : Measured (schedulingCheck s) :=
  h.of_parts (by simp) (by simp) (by simp) (by simp)

theorem measured_raiseDosing {s : State} (h : Measured s) : Measured (raiseDosing s) :=
  h.of_parts (by simp) (by simp) (by simp) (by simp)

theorem measured_debtToMonitor {s : State} (h : Measured s) : Measured (debtToMonitor s) :=
  h.of_parts (purse_of_dose (by simp)) (by simp) (by simp) (by simp)

/-! ## Work on the account -/

theorem measured_forgoAccount {s : State} (h : Measured s) : Measured (forgoAccount s) :=
  h.less rfl (Nat.zero_le _) rfl rfl rfl rfl rfl

theorem measured_drawDown {s : State} (h : Measured s) : Measured (drawDown s) :=
  h.less rfl (Nat.sub_le _ _) rfl rfl rfl rfl rfl

theorem measured_confirmedOutcome {s : State} (h : Measured s) : Measured (confirmedOutcome s) := by
  unfold confirmedOutcome
  split
  · exact measured_schedulingCheck (measured_debtToMonitor (measured_drawDown h))
  · exact measured_debtToMonitor (h.of_gauge rfl)
  · exact h

theorem measured_senseEdge {p : Side} {s : State} (h : Measured s) : Measured (senseEdge p s) := by
  have sensed : Measured (s.onSense (·.set p (some senseHoldOff))) := h.of_gauge rfl
  unfold senseEdge
  dsimp only
  generalize s.onSense (·.set p (some senseHoldOff)) = x at sensed ⊢
  split
  · unfold confirmStroke
    refine measured_confirmedOutcome (measured_raiseDosing ?_)
    exact sensed.of_gauge rfl
  · exact sensed.of_parts (by simp) (by simp) (by simp) (by simp)

theorem measured_accrue {vbs : Nat} {s : State} (h : Measured s) : Measured (accrue vbs s) := by
  have formed : Measured (accrueAccount vbs s) := by
    obtain ⟨⟨cap, mode⟩, ⟨trim, -, residues, totals, heating, staged⟩⟩ := h
    refine ⟨⟨?_, ?_⟩, trim, Nat.mod_lt _ (by decide), residues, totals, heating, staged⟩
    · change (if s.dose.mode = .auto then min _ s.odorant.cap else s.dose.account) ≤ s.odorant.cap
      split
      · exact Nat.min_le_right _ _
      · exact cap
    · change s.dose.mode = .auto ∨ (if s.dose.mode = .auto then min _ s.odorant.cap else s.dose.account) = 0
      split
      · exact .inl ‹_›
      · exact mode
  have handed := measured_debtToMonitor formed
  unfold accrue
  dsimp only
  split
  · exact measured_schedulingCheck handed
  · exact handed

/-! ## Closes -/

theorem addTotal_lt (unit total residue amount : Nat) (h : 0 < unit) :
    (addTotal unit total residue amount).1 < totalWrap ∧ (addTotal unit total residue amount).2 < unit :=
  ⟨Nat.mod_lt _ (by decide), Nat.mod_lt _ h⟩

theorem totals_add_inRange (f : RunFigures) (t : Totals) : (t.add f).inRange = true := by
  simp [Totals.inRange, Totals.add, addTotal_lt]

theorem figures_residue_lt {s : State} {r : RunId} {f : RunFigures} (h : runFigures s r = some f) :
    f.residue < 1000000 := by
  unfold runFigures at h
  split at h
  · cases h
    exact Nat.mod_lt _ (by decide)
  · cases h

theorem measured_closeRuns {s : State} (h : Measured s) : Measured (closeRuns s) := by
  obtain ⟨⟨cap, mode⟩, ⟨trim, residue, residues, totals, heating, staged⟩⟩ := h
  refine ⟨⟨cap, mode⟩, trim, residue, fun r => ?_, fun r => ?_, heating, staged⟩
  · simp only [closeRuns, closeConversion, Four.get_tabulate]
    cases e : runFigures s r with
    | none => exact residues r
    | some f => exact figures_residue_lt e
  · simp only [closeRuns, closeRecorder, Four.get_tabulate]
    split
    · exact totals_add_inRange _ _
    · exact totals r

theorem measured_closeInterval {s : State} (h : Measured s) : Measured (closeInterval s) := by
  refine measured_accrue (Measured.of_same (measured_closeRuns h) ?_ ?_ ?_ ?_) <;> simp

theorem getD_inRange {staged : Option Nat} {active : Nat} (hs : staged.all heatingInRange = true)
    (ha : heatingInRange active = true) : heatingInRange (staged.getD active) = true := getD_valid hs ha

theorem ranged_of {s t : State} (h : Ranged s) (hd : t.dose = s.dose) (hr : t.recorder = s.recorder)
    (hc : t.conv = s.conv) (hg : t.settings = s.settings) : Ranged t :=
  ⟨hd ▸ h.trim, hd ▸ h.residue, hc ▸ h.residues, hr ▸ h.totals, hg ▸ h.heating, hg ▸ h.staged⟩

theorem ranged_applied {s t : State} (h : Ranged s) (hd : t.dose = s.dose) (hr : t.recorder = s.recorder)
    (hc : t.conv = s.conv) (hg : t.settings = appliedSettings s.settings) : Ranged t :=
  ⟨hd ▸ h.trim, hd ▸ h.residue, hc ▸ h.residues, hr ▸ h.totals, hg ▸ getD_inRange h.staged h.heating, hg ▸ rfl⟩

theorem ranged_forgoExcess {s : State} (h : Ranged s) : Ranged (forgoExcess s) :=
  ⟨h.trim, h.residue, h.residues, h.totals, h.heating, h.staged⟩

theorem capped_forgoExcess {s : State} (h : s.dose.mode = .auto ∨ s.dose.account = 0) : Capped (forgoExcess s) where
  cap := Nat.min_le_right _ _
  mode := h.imp_right fun z => by
    change min s.dose.account _ = 0
    rw [z, Nat.zero_min]

/-- A staged ODORANT copy may lower the cap: the excess is forgone (R82). -/
theorem measured_applyStaged {s : State} (h : Measured s) : Measured (applyStaged s) := by
  have after : ∀ x : State, x.dose = s.dose → x.recorder = s.recorder → x.conv = s.conv →
      x.settings = appliedSettings s.settings →
      Measured (if s.settings.staged.odorant.isSome then schedulingCheck (forgoExcess x) else x) := by
    intro x hd hr hc hg
    have ranged := ranged_applied h.ranged hd hr hc hg
    have mode : x.dose.mode = .auto ∨ x.dose.account = 0 := hd ▸ h.capped.mode
    split
    · exact measured_schedulingCheck ⟨capped_forgoExcess mode, ranged_forgoExcess ranged⟩
    · rename_i kept
      refine ⟨⟨?_, mode⟩, ranged⟩
      have same : x.odorant = s.odorant := by
        have none : s.settings.staged.odorant = none := by simpa using kept
        simp [State.odorant, hg, appliedSettings, none]
      rw [hd, same]
      exact h.capped.cap
  unfold applyStaged
  dsimp only
  refine after _ ?_ ?_ ?_ ?_ <;> split <;> simp

theorem measured_closePeriod {c : CloseCause} {s : State} (h : Measured s) : Measured (closePeriod c s) := by
  obtain ⟨x, -, hb⟩ := closePeriod_books c s
  have totals : (closePeriod c s).recorder.totals = s.recorder.totals := congrArg (·.2) hb
  refine h.of_gauge ?_
  unfold gauge
  rw [purse_of_dose (closePeriod_dose c s), closePeriod_conv, totals, closePeriod_settings]

theorem measured_boundaryWith {close : State → State} (hc : ∀ s, Measured s → Measured (close s)) {s : State}
    (h : Measured s) : Measured (boundaryWith close s) := by
  have settled : Measured (settleRuns (clearCounts (closeInterval s))) :=
    (measured_closeInterval h).of_same (by simp) (by simp) (by simp) (by simp)
  have counted : Measured (countInterval (applyStaged (settleRuns (clearCounts (closeInterval s))))) :=
    (measured_applyStaged settled).of_parts (purse_of_dose (by simp)) (by rw [countInterval_books]) (by simp) (by simp)
  have marked : Measured (markReconfig (reconfigRuns s.settings)
      (close (countInterval (applyStaged (settleRuns (clearCounts (closeInterval s))))))) :=
    (hc _ counted).of_parts (purse_of_dose (markReconfig_dose _ _)) (markReconfig_books _ _) (markReconfig_conv _ _)
      (markReconfig_settings _ _)
  exact marked.of_same (beginInterval_dose _) (beginInterval_recorder _) (beginInterval_conv _) (beginInterval_settings _)

theorem measured_lengthClose {s : State} (h : Measured s) : Measured (lengthClose s) := by
  unfold lengthClose
  split
  · exact measured_closePeriod h
  · exact h

theorem measured_forcedClose {s : State} (h : Measured s) : Measured (forcedClose s) := by
  unfold forcedClose
  split
  · exact measured_closePeriod h
  · exact measured_boundaryWith (fun _ => measured_closePeriod) h

/-! ## Requests -/

theorem updatedTrim_inRange (trim target m : Nat) : trimInRange (updatedTrim trim target m) = true := by
  unfold updatedTrim trimInRange inRange
  dsimp only
  generalize truncated _ _ = step
  rw [Bool.and_eq_true, decide_eq_true_eq, decide_eq_true_eq]
  omega

theorem measured_takeReading {m : Nat} {s : State} (h : Measured s) : Measured (takeReading m s) := by
  unfold takeReading
  dsimp only
  split
  · refine measured_raiseDosing ⟨⟨h.capped.cap, h.capped.mode⟩, ?_⟩
    exact ⟨updatedTrim_inRange _ _ _, h.ranged.residue, h.ranged.residues, h.ranged.totals, h.ranged.heating,
      h.ranged.staged⟩
  · exact h.of_gauge rfl

/-- AUTO is entered with an account within the cap; OFF and MANUAL forgo it. -/
theorem measured_changeMode {m : DosingMode} {s : State} (h : Measured s) : Measured (changeMode m s) := by
  have leave : ∀ x : State, Measured x → Measured (setMode m (setDosingState .idle (forgoAccount x))) := by
    intro x hx
    have empty := measured_forgoAccount hx
    refine ⟨⟨empty.capped.cap, .inr rfl⟩, ?_⟩
    exact ⟨empty.ranged.trim, empty.ranged.residue, empty.ranged.residues, empty.ranged.totals, empty.ranged.heating,
      empty.ranged.staged⟩
  have waiting : Measured (if s.dose.state = .strokeWait then withdrawStroke s else s) := by
    split
    · exact h.of_gauge rfl
    · exact h
  cases m with
  | auto =>
    have entered : Measured (enterAuto s) :=
      ⟨⟨h.capped.cap, .inl rfl⟩, h.ranged.trim, h.ranged.residue, h.ranged.residues, h.ranged.totals, h.ranged.heating,
        h.ranged.staged⟩
    exact measured_raiseDosing (measured_schedulingCheck entered)
  | off => exact measured_raiseDosing (leave _ waiting)
  | manual => exact measured_raiseDosing (leave _ waiting)

/-! ## Starts -/

theorem measured_startDosing {s : State} (h : Ranged s) (hc : s.dose.account ≤ s.odorant.cap) :
    Measured (startDosing s) := by
  have placed : ∀ (m : DosingMode) (d : Side) (x : DosingState), Ranged (setDosingState x
      ((setMode m s).onDose fun y => { y with duty := d })) := fun _ _ _ =>
    ⟨h.trim, h.residue, h.residues, h.totals, h.heating, h.staged⟩
  have emptied : ∀ x : State, Ranged x → Ranged (setDosingState .idle (forgoAccount x)) := fun _ hx =>
    ⟨hx.trim, hx.residue, hx.residues, hx.totals, hx.heating, hx.staged⟩
  have begun : ∀ (m : DosingMode) (d : Side), Ranged ((setMode m s).onDose fun y => { y with duty := d }) := fun _ _ =>
    ⟨h.trim, h.residue, h.residues, h.totals, h.heating, h.staged⟩
  unfold startDosing
  dsimp only
  split
  · rename_i auto
    exact measured_raiseDosing (measured_schedulingCheck ⟨⟨hc, .inl auto⟩, placed _ _ _⟩)
  · exact ⟨⟨Nat.zero_le _, .inr rfl⟩, emptied _ (begun _ _)⟩

theorem measured_scan {s : State} (h : Measured s) : Measured (startScan (announceRuns s)) :=
  h.of_same (by simp) (by simp) (by simp) (by simp)

theorem measured_restartPart {s : State} (h : Measured s) : Measured (restartPart s) := by
  have abandoned : Measured (abandonStrokes s) :=
    h.of_parts (purse_of_dose (by simp [abandonStrokes])) (by simp) (by simp [abandonStrokes]) (by simp [abandonStrokes])
  have final : Measured (finalClose (abandonStrokes s)) := by
    unfold finalClose
    split
    · exact (measured_closeInterval abandoned).of_parts (purse_of_dose (by simp)) (by simp) (by simp) (by simp)
    · exact abandoned
  have reset : ∀ b x, Measured x → Ranged (resetBlocks b (rereadBuild x))
      ∧ (resetBlocks b (rereadBuild x)).dose.account ≤ (resetBlocks b (rereadBuild x)).odorant.cap := by
    intro b x hx
    refine ⟨⟨hx.ranged.trim, hx.ranged.residue, fun r => ?_, hx.ranged.totals, hx.ranged.heating, rfl⟩, hx.capped.cap⟩
    simp only [resetBlocks, Four.get_tabulate]
    split
    · exact hx.ranged.residues r
    · decide
  obtain ⟨ranged, cap⟩ := reset s.settings.build _ (measured_closePeriod (c := .restart) final)
  unfold restartPart
  exact measured_scan (measured_startDosing ranged cap)

theorem resumeOf_stored {st : Store} {r : ResumeRecord} (h : resumeOf st = some r) : st.resume = .valid r := by
  unfold resumeOf at h
  split at h <;> simp_all

/-- Power-on takes the figures of a valid resume record, or begins afresh (R59, R97, R149). -/
theorem ranged_opened {s : State} (h : Everywhere ContentRanged s.store) :
    Ranged (openFirstPeriod (loadBlocks s)) := by
  cases e : resumeOf s.store with
  | none =>
    refine ⟨?_, ?_, fun r => ?_, fun r => ?_, ?_, rfl⟩
    all_goals simp [openFirstPeriod, loadBlocks, openPeriod, loadDose, loadResidues, closeResumed, loadRecorder,
      freshRecorder, loadSettings, e]
    all_goals decide
  | some r =>
    obtain ⟨trim, residue, residues, totals, heating⟩ :=
      resume_ranged_iff.mp (h (.resume r) (.inr (resumeOf_stored e)))
    refine ⟨?_, ?_, fun i => ?_, fun i => ?_, ?_, rfl⟩
    · simpa [openFirstPeriod, loadBlocks, loadDose, e] using trim
    · simpa [openFirstPeriod, loadBlocks, loadDose, e] using residue
    · simp only [openFirstPeriod, loadBlocks, loadResidues, e, Four.get_tabulate, State.onRecorder_conv, State.onDose_conv]
      split
      · exact residues i
      · decide
    · simpa [openFirstPeriod, loadBlocks, openPeriod, closeResumed, loadRecorder, placeRecord, e] using totals i
    · simpa [openFirstPeriod, loadBlocks, loadSettings, e] using heating

theorem measured_startWhenReady {s : State} (h : Holds Measured ContentRanged s) : Measured (startWhenReady s) := by
  rcases startWhenReady_cases s with ⟨_, _, _, e⟩ | ⟨_, e⟩ <;> rw [e]
  · unfold startPower
    exact measured_scan (measured_startDosing (ranged_forgoExcess (ranged_opened h.stored)) (Nat.min_le_right _ _))
  · exact h.memory

theorem measured_reset : Measured State.reset :=
  ⟨⟨by decide, .inr rfl⟩, by decide, by decide, by decide, by decide, by decide, rfl⟩

theorem measured_loseSupply (s : State) : Measured (loseSupply s) := measured_reset.of_gauge rfl

/-! ## Every step -/

theorem ringAlone_contentRanged : RingAlone ContentRanged := fun _ _ _ h => h

theorem measured_memory : Memory Measured ContentRanged where
  ring := ringAlone_contentRanged
  elapse dt s h := h.of_same (by simp) (by simp) (by simp) (by simp)
  store _ _ h := h.of_gauge rfl
  link _ _ h := h.of_gauge rfl
  pins _ _ h := h.of_gauge rfl
  pending _ _ h := h.of_gauge rfl
  content s i h := by
    cases i with
    | resume =>
      exact resume_ranged_iff.mpr ⟨h.ranged.trim, h.ranged.residue, h.ranged.residues, h.ranged.totals, h.ranged.heating⟩
    | ring | flags => trivial
    | sectionCopy j => cases j <;> trivial
  request u v w h := by
    cases w
    case periodClosed => exact measured_forcedClose h
    case modeChanged m _ _ _ => exact measured_changeMode h
    case readingTaken m =>
      exact measured_takeReading (h.of_same (by simp) (by simp) (by simp) (by simp))
    case heatingStaged cv range =>
      exact ⟨⟨h.capped.cap, h.capped.mode⟩, h.ranged.trim, h.ranged.residue, h.ranged.residues, h.ranged.totals,
        h.ranged.heating, range⟩
    case pumpReset p => exact h.of_parts (by simp) (books_of (by simp)) (by simp) (by simp)
    case eventCleared m => exact h.of_same (by simp) (by simp) (by simp) (by simp)
    case runOpened r => exact h.of_same (by simp) (by simp) (by simp) (by simp)
    case runClosed r => exact h.of_same (by simp) (by simp) (by simp) (by simp)
    all_goals exact h.of_gauge rfl

/-- The work of every event keeps the figures in range. -/
theorem eventWork_measured {u v : State} {c : Instr} (w : EventWork u c v) (h : Holds Measured ContentRanged u) :
    Measured v := by
  have m := h.memory
  cases w
  case powerOn after _ =>
    unfold powerUp
    dsimp only
    split
    · exact measured_startWhenReady ⟨(measured_loseSupply u).of_gauge rfl,
        everywhere_loseSupply ringAlone_contentRanged h.stored⟩
    · exact measured_startWhenReady ⟨m.of_gauge rfl, h.stored⟩
  case powerFailWarning after =>
    refine m.of_gauge ?_
    split
    · unfold powerFail markAbandoned
      split <;> rfl
    · rfl
  case pfwRise after =>
    refine measured_startWhenReady ⟨?_, by simpa using h.stored⟩
    exact m.of_same (by simp) (by simp) (by simp) (by simp)
  case restartBegin after _ => exact measured_restartPart m
  case boundary after _ => exact measured_boundaryWith (fun _ => measured_lengthClose) m
  case conversionCompletion after current ch _ => exact m.of_same (by simp) (by simp) (by simp) (by simp)
  case senseEdge after p _ => exact measured_senseEdge m
  case driveEnd after p _ => exact m.of_parts (by simp) (books_of (by simp)) (by simp) (by simp)
  case strokeEntry after id e _ _ =>
    split
    · exact m.of_parts (by simp) (books_of (by simp)) (by simp) (by simp)
    · exact m.of_gauge rfl
  case confirmEntry after id e _ _ =>
    split
    · exact m.of_parts (by simp) (by simp) (by simp) (by simp)
    · exact m.of_gauge rfl
  case auxOnEntry after id e _ _ => exact m.of_same (by simp) (by simp) (by simp) (by simp)
  case auxOffEntry after id e _ _ => exact m.of_same (by simp) (by simp) (by simp) (by simp)
  case closePeriodEntry after id e _ _ =>
    have freed : Measured (u.onTable (·.free id.val)) := m.of_gauge rfl
    split
    · exact measured_forcedClose freed
    · exact freed
  case timerNoticeEntry after id e _ _ => exact m.of_same (by simp) (by simp) (by simp) (by simp)
  case storeWriteComplete after x _ =>
    refine m.of_gauge ?_
    unfold completeWrite clearMarks
    dsimp only
    (repeat' split) <;> rfl
  case frameSent after _ =>
    refine m.of_gauge ?_
    unfold endFrame
    dsimp only
    (repeat' split) <;> rfl
  case lossOfSupply after =>
    unfold supplyLost
    split
    · exact m.of_gauge rfl
    · exact measured_loseSupply u
  all_goals exact m.of_gauge rfl

/-! ## The pulse front end (R21, R25) -/

/-- Rings of at most 8 times and consecutive counts below their limits. -/
structure PulseOk (p : PulseRun) : Prop where
  ringA : p.ring.a.length ≤ 8
  ringB : p.ring.b.length ≤ 8
  events : p.consecutiveEvents < 3
  clean : p.consecutiveClean < 60

theorem pulse_inOrder_iff {p : PulseRun} : p.inOrder = true ↔ PulseOk p := by
  unfold PulseRun.inOrder
  simp only [Bool.and_eq_true, decide_eq_true_eq]
  exact ⟨fun ⟨⟨⟨a, b⟩, c⟩, d⟩ => ⟨a, b, c, d⟩, fun ⟨a, b, c, d⟩ => ⟨⟨⟨a, b⟩, c⟩, d⟩⟩

def PulsesOk (s : State) : Prop := ∀ r, PulseOk (s.pulse.get r)

theorem pulsesInOrder_iff (s : State) : s.pulsesInOrder = true ↔ PulsesOk s := by
  unfold State.pulsesInOrder PulsesOk
  simp only [four_all_iff, pulse_inOrder_iff]

theorem PulsesOk.of_pulse {s t : State} (h : PulsesOk s) (e : t.pulse = s.pulse) : PulsesOk t := fun r => e ▸ h r

theorem pulseOk_fresh : PulseOk freshPulse := pulse_inOrder_iff.mp rfl

theorem appendRing_length (t : Time) (ring : List Time) : (appendRing t ring).length ≤ 8 := by
  unfold appendRing
  split <;> simp only [List.length_append, List.length_drop, List.length_singleton] <;> omega

theorem pulseOk_clearIntegrity {p : PulseRun} (h : PulseOk p) : PulseOk (clearIntegrity p) :=
  ⟨h.ringA, h.ringB, Nat.zero_lt_succ 2, Nat.zero_lt_succ 59⟩

/-- A judgement moves the consecutive counts below their limits, at which they start again (R25). -/
theorem pulseOk_judge {p : PulseRun} (h : PulseOk p) (e : Bool) : PulseOk (judge e p) := by
  obtain ⟨a, b, events, clean⟩ := h
  unfold judge
  (repeat' split)
  all_goals exact ⟨a, b, by simp only; omega, by simp only; omega⟩

theorem pulseOk_closePulse {s : State} (h : PulsesOk s) (r : RunId) : PulseOk (closePulse s r) := by
  have ring : ∀ (b : Bool) (l : List Time), l.length ≤ 8 → (if b then [] else l).length ≤ 8 := by
    intro b l hl
    cases b
    · exact hl
    · exact Nat.zero_le _
  unfold closePulse
  dsimp only
  split
  · split
    · exact ⟨(h r).ringA, (h r).ringB, (h r).events, (h r).clean⟩
    · split
      · refine pulseOk_judge ?_ _
        exact ⟨ring _ _ (h r).ringA, ring _ _ (h r).ringB, (h r).events, (h r).clean⟩
      · exact ⟨ring _ _ (h r).ringA, ring _ _ (h r).ringB, (h r).events, (h r).clean⟩
  · exact h r

theorem pulsesOk_modify {s t : State} {r : RunId} {f : PulseRun → PulseRun} (h : PulsesOk s)
    (hf : ∀ p, PulseOk p → PulseOk (f p)) (e : t.pulse = s.pulse.modify r f) : PulsesOk t := by
  intro i
  rw [e, Four.get_modify]
  split
  · exact hf _ (h _)
  · exact h i

theorem pulseOk_takeEdge {ch : Side} {out : Bool} {now : Time} {p : PulseRun} (h : PulseOk p) :
    PulseOk (takeEdge ch out now p) := by
  unfold takeEdge maintainEdge countEdge
  dsimp only
  split
  · cases ch <;> exact ⟨h.ringA, h.ringB, h.events, h.clean⟩
  · cases ch
    · exact ⟨appendRing_length _ _, h.ringB, h.events, h.clean⟩
    · exact ⟨h.ringA, appendRing_length _ _, h.events, h.clean⟩

theorem pulsesOk_closeInterval {s : State} (h : PulsesOk s) : PulsesOk (closeInterval s) := by
  have closed : PulsesOk (closeRuns s) := fun r => by
    simp only [closeRuns, Four.get_tabulate]
    exact pulseOk_closePulse h r
  exact closed.of_pulse (by simp [closeInterval])

theorem pulsesOk_dropIntegrity {old : ActiveSections} {s : State} (h : PulsesOk s) : PulsesOk (dropIntegrity old s) := by
  intro r
  simp only [dropIntegrity, raiseRuns_pulse, State.onPulse_pulse, Four.get_tabulate]
  split
  · exact pulseOk_clearIntegrity (h r)
  · exact h r

theorem pulsesOk_applyStaged {s : State} (h : PulsesOk s) : PulsesOk (applyStaged s) := by
  have applied : PulsesOk (dropIntegrity s.settings.active (applySections s)) :=
    pulsesOk_dropIntegrity (h.of_pulse (by simp))
  unfold applyStaged
  dsimp only
  (repeat' split) <;> exact applied.of_pulse (by simp)

theorem pulsesOk_boundaryWith {close : State → State} (hc : ∀ s, (close s).pulse = s.pulse) {s : State}
    (h : PulsesOk s) : PulsesOk (boundaryWith close s) := by
  have cleared : PulsesOk (clearCounts (closeInterval s)) := fun r => by
    have p := pulsesOk_closeInterval h r
    simp only [clearCounts, State.onPulse_pulse, Four.get_map]
    exact ⟨p.ringA, p.ringB, p.events, p.clean⟩
  have settled : PulsesOk (settleRuns (clearCounts (closeInterval s))) := cleared.of_pulse (by simp)
  exact (pulsesOk_applyStaged settled).of_pulse (by simp [boundaryWith, hc])

theorem pulsesOk_forcedClose {s : State} (h : PulsesOk s) : PulsesOk (forcedClose s) := by
  unfold forcedClose
  split
  · exact h.of_pulse (by simp)
  · exact pulsesOk_boundaryWith (fun _ => by simp) h

theorem pulsesOk_restartPart (s : State) : PulsesOk (restartPart s) := by
  have reset : ∀ b x, PulsesOk (resetBlocks b (rereadBuild x)) := by
    intro b x r
    simp only [resetBlocks, Four.get_map]
    exact ⟨pulseOk_fresh.ringA, pulseOk_fresh.ringB, pulseOk_fresh.events, pulseOk_fresh.clean⟩
  unfold restartPart
  dsimp only
  exact (reset s.settings.build (closePeriod .restart (finalClose (abandonStrokes s)))).of_pulse (by simp)

theorem pulsesOk_startWhenReady {s : State} (h : PulsesOk s) : PulsesOk (startWhenReady s) := by
  rcases startWhenReady_cases s with ⟨_, _, _, e⟩ | ⟨_, e⟩ <;> rw [e]
  · intro r
    have fresh : (startPower s).pulse = .all freshPulse := by simp [startPower, openFirstPeriod, loadBlocks]
    rw [fresh, Four.get_all]
    exact pulseOk_fresh
  · exact h

theorem pulsesOk_loseSupply (s : State) : PulsesOk (loseSupply s) :=
  ((pulsesInOrder_iff State.reset).mp rfl).of_pulse rfl

theorem pulsesOk_kept : Kept PulsesOk where
  pending _ _ h := h
  elapse dt s h := h.of_pulse (by simp)
  pins _ _ h := h
  receiver _ _ h := h
  finish s h := h.of_pulse (by simp)
  reply _ _ _ h := h
  request u v w h := by
    cases w
    case periodClosed => exact pulsesOk_forcedClose h
    case runOpened r =>
      refine pulsesOk_modify (r := r) (f := openedPulse) h (fun p _ => ?_) (by simp [openRun])
      exact ⟨Nat.zero_le _, Nat.zero_le _, Nat.zero_lt_succ 2, Nat.zero_lt_succ 59⟩
    case runClosed r =>
      refine pulsesOk_modify (r := r) (f := fun p => { p with ring := .both [] }) h (fun p hp => ?_) (by simp [closeRun])
      exact ⟨Nat.zero_le _, Nat.zero_le _, hp.events, hp.clean⟩
    all_goals exact h.of_pulse (by simp)

/-- The work of every event keeps the pulse front end within its bounds. -/
theorem eventWork_pulsesOk {u v : State} {c : Instr} (w : EventWork u c v) (h : PulsesOk u) : PulsesOk v := by
  cases w
  case powerOn after _ =>
    unfold powerUp
    dsimp only
    split
    · exact pulsesOk_startWhenReady (pulsesOk_loseSupply u)
    · exact pulsesOk_startWhenReady h
  case powerFailWarning after =>
    refine h.of_pulse ?_
    split <;> simp [powerFail]
  case pfwRise after => exact pulsesOk_startWhenReady (h.of_pulse (by simp))
  case restartBegin after _ => exact pulsesOk_restartPart u
  case boundary after _ => exact pulsesOk_boundaryWith (fun _ => by simp) h
  case pulseEdge after r ch _ => exact pulsesOk_modify h (fun _ => pulseOk_takeEdge) rfl
  case pulseHoldOffEnd after r ch _ =>
    exact pulsesOk_modify (r := r) (f := fun p => { p with holdOff := p.holdOff.set ch none }) h
      (fun _ hp => ⟨hp.ringA, hp.ringB, hp.events, hp.clean⟩) rfl
  case closePeriodEntry after id e _ _ =>
    split
    · exact pulsesOk_forcedClose (h.of_pulse rfl)
    · exact h
  case strokeEntry after id e _ _ =>
    refine h.of_pulse ?_
    split <;> simp
  case confirmEntry after id e _ _ =>
    refine h.of_pulse ?_
    split <;> simp
  case frameSent after _ =>
    refine h.of_pulse ?_
    unfold endFrame
    dsimp only
    (repeat' split) <;> rfl
  case lossOfSupply after =>
    unfold supplyLost
    split
    · exact h
    · exact pulsesOk_loseSupply u
  case warmupEnd after _ => exact h.of_pulse (by simp [enterRunning])
  all_goals exact h.of_pulse (by simp)

/-- Settles O53: each total and residue is a remainder, the trim is held in its range, the account is held at the cap and
forgone outside AUTO. -/
theorem figuresKept : Obligations.FiguresKept := by
  refine fun s t h => ⟨fun account figures => ?_, fun pulses => ?_⟩
  · have hs := (figures_iff s).mp ⟨account, figures⟩
    exact (figures_iff t).mpr (measured_memory.step h hs fun _ _ _ => eventWork_measured)
  · have hs := (pulsesInOrder_iff s).mp pulses
    exact (pulsesInOrder_iff t).mpr (pulsesOk_kept.step h hs fun _ _ _ => eventWork_pulsesOk)

end Sys2Proof.Proofs.Figures
end

section
/-! PROOFS. Steps, the passing of time, what ends every event, and the reset state (chapters 1, 10 and 11). -/

namespace Sys2Proof.Proofs.Basics

open Sys2Proof Sys2Proof.Machine Sys2Proof.Proofs.Arms

/-- Settles O1: a step is its front command's. -/
theorem stepTakesFrontCommand : Obligations.StepTakesFrontCommand :=
  fun s => ⟨step_cons s, step_idle s⟩

/-! ## What ends every event -/

theorem frameBytes_length (f : Frame) : (frameBytes f).length = f.payload.length + 6 := by
  simp [frameBytes, frameBody, bytesLE]

theorem lineTime_eq (f : Frame) : lineTime f = 10 * (f.payload.length + 6) * 1000000 := by
  rw [lineTime, frameBytes_length]

theorem serveStore_busy {s : State} {w : StoreWrite} (h : s.store.writing = some w) : serveStore s = s := by
  simp [serveStore, h]

theorem serveStore_warning {s : State} (h : s.store.writing = none) (hw : s.store.warningResume = true) :
    serveStore s = startWrite .resume (s.onStore fun st => { st with warningResume := false }) := by
  simp [serveStore, h, hw]

theorem serveStore_first {s : State} (h : s.store.writing = none) (hw : s.store.warningResume = false)
    (hl : s.live = true) {i : StoreItem} (hi : s.store.list.first? = some i) : serveStore s = startWrite i s := by
  simp [serveStore, h, hw, hl, hi]

theorem serveStore_idle {s : State} (h : s.store.writing = none) (hw : s.store.warningResume = false)
    (hl : s.live = false ∨ s.store.list.first? = none) : serveStore s = s := by
  unfold serveStore
  rw [h, hw]
  rcases hl with e | e <;> simp [e]

/-- The store as an event's end leaves it: its write list, what is being written, and the warning's mark. -/
theorem writeStarted_finish {i : StoreItem} {s : State} {st : Store}
    (h : serveStore s = startWrite i (s.onStore fun _ => st)) : WriteStarted i s (finish s) := by
  refine ⟨⟨itemContent s i, writeTime, false⟩, ?_, itemHolds_content i s, rfl, rfl⟩
  rw [finish_store, h]
  cases i with
  | sectionCopy j => cases j <;> rfl
  | _ => rfl

theorem serveLink_still {s : State} (h : s.live = false ∨ s.time.restartDue = true ∨ s.link.tx ≠ none) :
    serveLink s = s := by
  unfold serveLink
  rw [if_neg]
  intro c
  simp only [Bool.and_eq_true, Bool.not_eq_true', Option.isNone_iff_eq_none] at c
  obtain ⟨⟨live, restart⟩, idle⟩ := c
  rcases h with e | e | e
  · simp [e] at live
  · simp [e] at restart
  · exact e idle

theorem serveLink_free {s : State} (hl : s.live = true) (hr : s.time.restartDue = false) (ht : s.link.tx = none) :
    serveLink s = (match s.link.queue, s.link.notices with
      | reply :: rest, _ => s.onLink fun l => { l with queue := rest, tx := some (sending reply) }
      | [], n :: rest => s.onLink fun l => { l with notices := rest, tx := some (sending (buildNotice n s)) }
      | [], [] => s) := by
  unfold serveLink
  simp [hl, hr, ht] <;> rfl

theorem finish_link (s : State) : (finish s).link = (serveLink (serveStore s)).link := rfl

theorem serveStore_time (s : State) : (serveStore s).time = s.time := by simp

/-- Settles O2, by the cases of the store and of the link being served. -/
theorem eventEndServes : Obligations.EventEndServes := by
  refine ⟨fun s => ?_, answered_leaves⟩
  obtain ⟨sections, flags, ring, resume⟩ := finish_stored s
  have live : (serveStore s).live = s.live := by simp [State.live]
  refine ⟨finish_eq s, sections, flags, ring, resume, fun w hw => ?_, fun h hw => ⟨?_, ?_⟩, fun h hw hl i hi => ⟨?_, ?_⟩,
    fun h hw hl => ?_, fun h => ?_, fun hl hr ht => ⟨fun f rest hq => ?_, fun n rest hq hn => ?_, fun hq hn => ?_⟩⟩
  · rw [finish_store, serveStore_busy hw]
  · exact writeStarted_finish (serveStore_warning h hw)
  · rw [finish_store, serveStore_warning h hw]
    rfl
  · exact writeStarted_finish (st := s.store) (serveStore_first h hw hl hi)
  · rw [finish_store, serveStore_first h hw hl hi]
    rfl
  · rw [finish_store, serveStore_idle h hw hl]
  · rw [finish_link, serveLink_still (by simpa [live] using h), serveStore_link]
  · rw [finish_link, serveLink_free (by rw [live, hl]) (by simpa using hr) (by simpa using ht)]
    simp [hq, sending, lineTime_eq]
  · have served := serveLink_free (s := serveStore s) (by rw [live, hl]) (by simpa using hr) (by simpa using ht)
    simp only [serveStore_link, hq, hn] at served
    rw [finish_link, served]
    exact ⟨by simp, _, rfl, lineTime_eq _, noticeFrame_built n (serveStore s)⟩
  · rw [finish_link, serveLink_free (by rw [live, hl]) (by simpa using hr) (by simpa using ht)]
    simp [hq, hn]

/-! ## The passing of time -/

theorem elapse_of_off {dt : Nat} {s : State} (h : s.time.phase = .off) : s.elapse dt = s := State.elapse_off dt s h

theorem elapse_of_not_off {dt : Nat} {s : State} (h : s.time.phase ≠ .off) : s.elapse dt =
    { s with time := elapseTime dt s.time, loop := elapseLoop dt s.loop
             sense := s.sense.map (Option.map (· - dt)), store := elapseStore dt s.store
             link := elapseLink dt s.settings.build.rate.bitsPerSecond s.link } := by
  unfold State.elapse
  split
  · exact absurd ‹_› h
  · rfl

theorem elapseTime_live {dt : Nat} {s : State} (h : s.live = true) : elapseTime dt s.time =
    { s.time with
      captureClock := s.time.captureClock + BitVec.ofNat 32 dt
      stationTime := s.time.stationTime + BitVec.ofNat 32 ((s.time.subMs + dt) / 1000)
      subMs := (s.time.subMs + dt) % 1000 } := by
  unfold elapseTime
  split <;> simp_all [State.live, ms]

theorem elapseTime_halt {dt : Nat} {s : State} (h : s.live = false) (ho : s.time.phase ≠ .off) : elapseTime dt s.time =
    { s.time with captureClock := s.time.captureClock + BitVec.ofNat 32 dt } := by
  unfold elapseTime
  split
  · contradiction
  · rfl
  · cases hp : s.time.phase <;> simp_all [State.live]

theorem ofNat_add_ofNat (t : Time) (a b : Nat) :
    t + BitVec.ofNat 32 a + BitVec.ofNat 32 b = t + BitVec.ofNat 32 (a + b) := by
  rw [BitVec.add_assoc, BitVec.ofNat_add]

theorem elapseTime_add (a b : Nat) (t : TimeBase) : elapseTime b (elapseTime a t) = elapseTime (a + b) t := by
  have split : (t.subMs + a) / 1000 + ((t.subMs + a) % 1000 + b) / 1000 = (t.subMs + (a + b)) / 1000
      ∧ ((t.subMs + a) % 1000 + b) % 1000 = (t.subMs + (a + b)) % 1000 := by omega
  cases hp : t.phase <;> simp only [elapseTime, hp, ms, ofNat_add_ofNat, split]

theorem elapse_add (a b : Nat) (s : State) : (s.elapse a).elapse b = s.elapse (a + b) := by
  by_cases h : s.time.phase = .off
  · rw [elapse_of_off h, elapse_of_off h, elapse_of_off h]
  · have ha : (s.elapse a).time.phase ≠ .off := by simpa using h
    have loop : elapseLoop b (elapseLoop a s.loop) = elapseLoop (a + b) s.loop := by
      unfold elapseLoop
      cases hc : s.loop.converter <;> simp [hc, Nat.sub_sub]
    have sense : (s.sense.map (Option.map (· - a))).map (Option.map (· - b)) = s.sense.map (Option.map (· - (a + b))) := by
      simp [Two.map, Option.map_map, Function.comp_def, Nat.sub_sub]
    have store : elapseStore b (elapseStore a s.store) = elapseStore (a + b) s.store := by
      simp [elapseStore, Option.map_map, Function.comp_def, Nat.sub_sub]
    have link : ∀ rate, elapseLink b rate (elapseLink a rate s.link) = elapseLink (a + b) rate s.link := by
      intro rate
      simp [elapseLink, Option.map_map, Function.comp_def, Nat.sub_sub, Nat.add_mul]
    rw [elapse_of_not_off ha, elapse_of_not_off h, elapse_of_not_off h]
    dsimp only
    rw [elapseTime_add, loop, sense, store, link]

theorem reached_iff (due now : Time) :
    reached due now = true ↔ (now.toNat + 4294967296 - due.toNat) % 4294967296 < 2147483648 := by
  have := due.isLt
  have := now.isLt
  unfold reached
  rw [decide_eq_true_eq, BitVec.toNat_sub]
  rw [show (2 ^ 32 - due.toNat + now.toNat) = now.toNat + 4294967296 - due.toNat by omega]

/-- Settles O3: station time carries its part of a millisecond, so two lapses add up; every countdown is a subtraction. -/
theorem timePasses : Obligations.TimePasses := by
  refine ⟨fun dt s => ⟨elapse_of_off, fun h => ?_⟩, elapse_add, reached_iff⟩
  have loop : elapseLoop dt s.loop = { s.loop with
      converter := match s.loop.converter with
        | .idle => .idle
        | .converting c left => .converting c (left - dt) } := by
    unfold elapseLoop
    cases hc : s.loop.converter <;> simp [← hc]
  rw [elapse_of_not_off h, loop]
  by_cases live : s.live = true
  · rw [if_pos live, elapseTime_live live]
    rfl
  · rw [if_neg live, elapseTime_halt (by simpa using live) h]
    rfl

/-! ## The reset state -/

/-- A state with the pins and the commands to come of another. -/
def carried (u s : State) : State := { u with pins := s.pins, freeCount := s.freeCount, pending := s.pending }

theorem loadBlocks_factory {s : State} (h : s.store = factoryStore) :
    loadBlocks s = carried (loadBlocks State.reset) s := by
  unfold loadBlocks
  rw [h]
  rfl

theorem startDosing_factory {s : State} (h : s.store = factoryStore) :
    startDosing (forgoExcess (openFirstPeriod (loadBlocks s)))
      = carried (startDosing (forgoExcess (openFirstPeriod (loadBlocks State.reset)))) s := by
  rw [loadBlocks_factory h]
  unfold startDosing
  rfl

theorem startDosing_reset : startDosing (forgoExcess (openFirstPeriod (loadBlocks State.reset)))
    = { State.reset with loop := freshLoop } := by decide

theorem startPower_factory {s : State} (h : s.store = factoryStore) : startPower s = carried State.reset s := by
  unfold startPower
  rw [startDosing_factory h, startDosing_reset]
  rfl

theorem finish_carried_reset (s : State) : finish (carried State.reset s) = carried State.reset s := rfl

/-- Settles O60: the reset state evaluates to what every step keeps, and power-on from an empty store leaves it. -/
theorem resetState : Obligations.ResetState := by
  refine ⟨by decide, by decide, by decide, by decide, by decide, by decide, by decide, by decide, rfl,
    fun s after off high store => ?_⟩
  have powered : powerUp s = carried State.reset (s.onPins fun p => { p with supply := true }) := by
    unfold powerUp
    rw [if_neg (by simp [off])]
    rw [startWhenReady, if_pos (by simp [off, high])]
    exact startPower_factory (by simpa using store)
  have pins : (s.onPins fun p => { p with supply := true }).pins = ⟨true, true, s.pins.custody⟩ := by
    rw [State.onPins_pins, ← high]
  rw [exec_powerOn, event_taken _ _ _ _ (by simp [elapse_of_off off, off]), elapse_of_off off, powered,
    finish_carried_reset, carried, pins]
  rfl

end Sys2Proof.Proofs.Basics
end

section
/-! PROOFS. A request command, answered: one rule for all kinds, and the refusals of chapters 10 and 11. -/

namespace Sys2Proof.Proofs.Requests

open Sys2Proof Sys2Proof.Machine Sys2Proof.Proofs.Arms Sys2Proof.Proofs.Steps

/-! ## One rule for the requests of every kind -/

/-- The handler of a request command's frame (R181). -/
def handles (c : Instr) (f : Frame) : State → Answer :=
  match c with
  | .unknownKindRequest _ _ _ _ => handleUnknownKind
  | _ => handlerOf f.kind.toNat f.payload

/-- A request command is its frame dispatched, to the part as the command finds it. -/
theorem exec_request {c : Instr} {f : Frame} (hf : c.frame? = some f) (s : State) :
    exec c s = .next (if (found c s).live then dispatch f.kind f.tag (handles c f) (dropFrame (found c s))
      else found c s) := by
  cases c <;> cases hf
  case stationStatus after tag payload custody =>
    rw [exec_stationStatus, request, elapse_showCustody]
    rfl
  case protectClear after tag payload custody =>
    rw [exec_protectClear, request, elapse_showCustody]
    rfl
  all_goals rfl

theorem found_of {c : Instr} {s u : State} (hu : s.elapse c.after = u) :
    found c s = { u with pins := u.pins.found c.custody? } := by
  subst hu
  rfl

/-- A request that finds a free place in the queue is answered as its handler says. -/
theorem exec_answered {c : Instr} {f : Frame} (hf : c.frame? = some f) {s u v : State} {o : OutcomeCode} {d : List Byte}
    (hu : s.elapse c.after = u) (hl : u.live = true) (hq : u.link.queue.length < 4)
    (ha : handles c f (dropFrame { u with pins := u.pins.found c.custody? }) = ⟨o, d, dropFrame v⟩) :
    exec c s = .next (answered ⟨replyKind o f.kind, f.tag, replyPayload o d⟩ v) := by
  have live : (found c s).live = true := by
    rw [found_of hu]
    exact hl
  have free : ¬ 4 ≤ (dropFrame (found c s)).link.queue.length := by
    rw [found_of hu]
    exact Nat.not_le.mpr hq
  rw [exec_request hf, if_pos live, dispatch, if_neg free, found_of hu, ha]
  rfl

theorem refusal_eq (kind tag : Byte) {o : OutcomeCode} (ho : o ≠ .ok) :
    (⟨replyKind o kind, tag, replyPayload o []⟩ : Frame) = refusal kind tag o := by
  cases o
  case ok => exact absurd rfl ho
  all_goals rfl

theorem okReply_eq (kind tag : Byte) (d : List Byte) :
    (⟨replyKind .ok kind, tag, replyPayload .ok d⟩ : Frame) = okReply kind tag d := rfl

/-- A refused request changes nothing. -/
theorem requestRefused {c : Instr} {kind tag : Byte} {payload : List Byte} {s u : State} {o : OutcomeCode}
    (hf : c.frame? = some ⟨kind, tag, payload⟩) (hu : s.elapse c.after = u) (hl : u.live = true)
    (hq : u.link.queue.length < 4) (ho : o ≠ .ok)
    (ha : ∀ x, x = dropFrame { u with pins := u.pins.found c.custody? } →
      handles c ⟨kind, tag, payload⟩ x = refuse o x) : RequestRefused s u c kind tag o := by
  unfold RequestRefused
  rw [exec_answered hf hu hl hq (ha _ rfl), refusal_eq kind tag ho]

theorem reportGiven {c : Instr} {kind tag : Byte} {payload d : List Byte} {s u : State}
    (hf : c.frame? = some ⟨kind, tag, payload⟩) (hu : s.elapse c.after = u) (hl : u.live = true)
    (hq : u.link.queue.length < 4)
    (ha : ∀ x, x = dropFrame { u with pins := u.pins.found c.custody? } →
      handles c ⟨kind, tag, payload⟩ x = accept d x) : ReportGiven s u c kind tag d := by
  unfold ReportGiven
  rw [exec_answered hf hu hl hq (ha _ rfl), okReply_eq]

/-- A request accepted with its work done. -/
theorem exec_accepted {c : Instr} {kind tag : Byte} {payload d : List Byte} {s u v : State}
    (hf : c.frame? = some ⟨kind, tag, payload⟩) (hu : s.elapse c.after = u) (hl : u.live = true)
    (hq : u.link.queue.length < 4)
    (ha : handles c ⟨kind, tag, payload⟩ (dropFrame { u with pins := u.pins.found c.custody? }) = accept d (dropFrame v)) :
    exec c s = .next (answered (okReply kind tag d) v) := by
  rw [exec_answered hf hu hl hq ha, okReply_eq]

theorem takes_iff {u : State} : u.takes = true ↔ u.time.phase = .running ∧ u.link.queue.length < 4 := by
  simp [State.takes]

theorem live_of_running {u : State} (h : u.time.phase = .running) : u.live = true := by simp [State.live, h]

theorem live_of_warmup {u : State} (h : u.time.phase = .warmup) : u.live = true := by simp [State.live, h]

/-- A well-formed request of a known kind has that kind's handler. -/
theorem handles_known {c : Instr} {f : Frame} (hw : c.wf = true) (hf : c.frame? = some f)
    (hk : f.kind.toNat ∈ requestKinds) : handles c f = handlerOf f.kind.toNat f.payload := by
  cases c <;> try rfl
  case unknownKindRequest after kind tag payload =>
    cases hf
    simp only [Instr.wf, kindUnknown, Bool.and_eq_true, Bool.not_eq_true', List.contains_eq_mem, decide_eq_false_iff_not]
      at hw
    exact absurd hk hw.1

/-! ## The order of the checks -/

/-- In WARMUP every handler but those of IDENT and STATION_STATUS refuses with WARMING (R174). -/
theorem handlerOf_warmup {k : Nat} (hk : k ∈ requestKinds) (h1 : k ≠ 1) (h2 : k ≠ 2) (payload : List Byte) {x : State}
    (hx : x.time.phase = .warmup) : handlerOf k payload x = refuse .warming x := by
  have read : handleSectionRead payload x = refuse .warming x := by
    unfold handleSectionRead
    exact unlessWarming_warmup _ _ hx
  have write : handleSectionWrite payload x = refuse .warming x := by
    unfold handleSectionWrite
    exact unlessWarming_warmup _ _ hx
  unfold handlerOf
  split
  case h_1 => exact absurd rfl h1
  case h_2 => exact absurd rfl h2
  case h_8 => exact read
  case h_21 => exact write
  case h_25 => simp_all [requestKinds]
  all_goals exact unlessWarming_warmup _ _ hx

/-- IDENT is answered in WARMUP and RUNNING. -/
theorem reportGiven_ident {s u : State} {after : Nat} {tag : Byte} (hu : s.elapse after = u) (hl : u.live = true)
    (hq : u.link.queue.length < 4) : ReportGiven s u (.ident after tag []) 0x01#8 tag (identData u) :=
  reportGiven rfl hu hl hq fun _ hx => hx ▸ rfl

/-- STATION_STATUS is answered in WARMUP and RUNNING, with the custody level it finds. -/
theorem reportGiven_stationStatus {s u : State} {after : Nat} {tag : Byte} {level : SwitchLevel}
    (hu : s.elapse after = u) (hl : u.live = true) (hq : u.link.queue.length < 4) :
    ReportGiven s u (.stationStatus after tag [] level) 0x02#8 tag (stationStatusData (showCustody level u)) :=
  reportGiven rfl hu hl hq fun _ hx => hx ▸ rfl

/-- Settles O38: every handler begins with the WARMING check, but those of IDENT and STATION_STATUS. -/
theorem warmingRefused : Obligations.WarmingRefused := by
  refine ⟨fun s u c kind tag payload hw hf hk h1 h2 hu hp hq => ?_, fun s u after tag level hu hl hq =>
    ⟨⟨_, reportGiven_ident hu hl hq⟩, ⟨_, reportGiven_stationStatus hu hl hq⟩⟩⟩
  refine requestRefused hf hu (live_of_warmup hp) hq (by decide) fun x hx => ?_
  rw [handles_known hw hf hk]
  refine handlerOf_warmup hk (fun e => h1 (BitVec.eq_of_toNat_eq e)) (fun e => h2 (BitVec.eq_of_toNat_eq e)) _ ?_
  rw [hx]
  exact hp

/-- Settles O39: an unknown kind has its own handler, and a full queue or a part without supply takes no request. -/
theorem unknownAndDiscarded : Obligations.UnknownAndDiscarded := by
  refine ⟨fun s u after kind tag payload _ hu hl hq => ?_, fun s u c f hf hu => ⟨fun hl hq => ?_, fun hl => ?_⟩⟩
  · rw [exec_answered (c := .unknownKindRequest after kind tag payload) (v := u) (o := .unknownKind) (d := []) rfl hu hl
      hq rfl, refusal_eq kind tag (by decide)]
    rfl
  · have full : 4 ≤ (dropFrame (found c s)).link.queue.length := by
      rw [found_of hu]
      exact hq
    have live : (found c s).live = true := by
      rw [found_of hu]
      exact hl
    rw [exec_request hf, if_pos live, dispatch, if_pos full, found_of hu]
    rfl
  · have dead : ¬ (found c s).live = true := by
      rw [found_of hu]
      exact fun e => by simp [show State.live u = true from e] at hl
    rw [exec_request hf, if_neg dead, found_of hu]

/-! ## Refusals by form -/

section Form

variable {x : State}

/-- Past the WARMING check and the length check. -/
theorem checks_passed {n : Nat} {payload : List Byte} {handle : State → Answer} (hx : x.time.phase = .running)
    (hn : payload.length = n) : unlessWarming (withLength n payload handle) x = handle x := by
  rw [unlessWarming_running _ _ hx, withLength_ok _ _ _ _ hn]

theorem checks_badLength {n : Nat} {payload : List Byte} {handle : State → Answer} (hx : x.time.phase = .running)
    (hn : payload.length ≠ n) : unlessWarming (withLength n payload handle) x = refuse .badLength x := by
  rw [unlessWarming_running _ _ hx, withLength_bad _ _ _ _ hn]

theorem fieldAt_byteOf {code : Nat} (h : code ≤ 255) (rest : List Byte) : fieldAt (byteOf code :: rest) 0 1 = code := by
  simp only [fieldAt, List.drop_zero, List.take_succ_cons, List.take_zero, natLE, byteOf, BitVec.toNat_ofNat]
  omega

theorem withRun_badValue {code : Nat} {handle : RunId → State → Answer} (hx : x.time.phase = .running)
    (hc : code ≤ 255) (h4 : 4 ≤ code) : withRun [byteOf code] handle x = refuse .badValue x := by
  rw [withRun, checks_passed (n := 1) hx rfl, fieldAt_byteOf hc, runId?, dif_neg (Nat.not_lt.mpr h4)]

theorem runId_val (r : RunId) : runId? r.val = some r := dif_pos r.isLt

theorem withRun_noSubject {r : RunId} {handle : RunId → State → Answer} (hx : x.time.phase = .running)
    (hr : x.fitted r = false) : withRun [byteOf r.val] handle x = refuse .noSubject x := by
  rw [withRun, checks_passed (n := 1) hx rfl, fieldAt_byteOf (by omega), runId_val]
  simp [hr]

theorem withRun_fitted {r : RunId} {handle : RunId → State → Answer} (hx : x.time.phase = .running)
    (hr : x.fitted r = true) : withRun [byteOf r.val] handle x = handle r x := by
  rw [withRun, checks_passed (n := 1) hx rfl, fieldAt_byteOf (by omega), runId_val]
  simp [hr]

theorem side_none {code : Nat} (h : 2 ≤ code) : side? code = none := by
  match code, h with
  | n + 2, _ => rfl

theorem side_code (p : Side) : side? (Side.code p) = some p := by cases p <;> rfl

theorem side_code_le (p : Side) : Side.code p ≤ 255 := by cases p <;> decide

theorem withPump_badValue {code : Nat} {handle : Side → State → Answer} (hx : x.time.phase = .running)
    (hc : code ≤ 255) (h2 : 2 ≤ code) : withPump [byteOf code] handle x = refuse .badValue x := by
  rw [withPump, checks_passed (n := 1) hx rfl, fieldAt_byteOf hc, side_none h2]

theorem withPump_noSubject {p : Side} {handle : Side → State → Answer} (hx : x.time.phase = .running)
    (hp : x.pumpIsFitted p = false) : withPump [byteOf (Side.code p)] handle x = refuse .noSubject x := by
  rw [withPump, checks_passed (n := 1) hx rfl, fieldAt_byteOf (side_code_le p), side_code]
  simp [hp]

theorem withPump_fitted {p : Side} {handle : Side → State → Answer} (hx : x.time.phase = .running)
    (hp : x.pumpIsFitted p = true) : withPump [byteOf (Side.code p)] handle x = handle p x := by
  rw [withPump, checks_passed (n := 1) hx rfl, fieldAt_byteOf (side_code_le p), side_code]
  simp [hp]

theorem sectionId_none {code : Nat} (h : 8 ≤ code) : sectionId? code = none := by
  match code, h with
  | n + 8, _ => rfl

theorem dosingMode_none {code : Nat} (h : 3 ≤ code) : dosingMode? code = none := by
  match code, h with
  | n + 3, _ => rfl

theorem doseMode_badValue {code : Nat} (hx : x.time.phase = .running) (hc : code ≤ 255) (h3 : 3 ≤ code) :
    handleDoseMode [byteOf code] x = refuse .badValue x := by
  rw [handleDoseMode, checks_passed (n := 1) hx rfl, fieldAt_byteOf hc, dosingMode_none h3]

theorem eventClear_badValue {code : Nat} (hx : x.time.phase = .running) (hc : code ≤ 255) (h : 16 ≤ code) :
    handleEventClear [byteOf code] x = refuse .badValue x := by
  rw [handleEventClear, checks_passed (n := 1) hx rfl, fieldAt_byteOf hc, monitorId?, dif_neg (Nat.not_lt.mpr h)]

theorem sectionProtect_badValue {code : Nat} (hx : x.time.phase = .running) (hc : code ≤ 255) (h : 8 ≤ code) :
    handleSectionProtect [byteOf code] x = refuse .badValue x := by
  rw [handleSectionProtect, checks_passed (n := 1) hx rfl, fieldAt_byteOf hc, sectionId_none h]

theorem sectionRead_badValue {code : Nat} {rest : List Byte} (hx : x.time.phase = .running) (hc : code ≤ 255)
    (h : 8 ≤ code) : handleSectionRead (byteOf code :: rest) x = refuse .badValue x := by
  rw [handleSectionRead, unlessWarming_running _ _ hx, fieldAt_byteOf hc, sectionId_none h]
  rfl

theorem sectionWrite_badValue {code : Nat} {rest : List Byte} (hx : x.time.phase = .running) (hc : code ≤ 255)
    (h : 8 ≤ code) : handleSectionWrite (byteOf code :: rest) x = refuse .badValue x := by
  rw [handleSectionWrite, unlessWarming_running _ _ hx, fieldAt_byteOf hc, sectionId_none h]
  rfl

theorem sectionRead_badLength (hx : x.time.phase = .running) : handleSectionRead [] x = refuse .badLength x :=
  unlessWarming_running _ _ hx

theorem sectionWrite_badLength (hx : x.time.phase = .running) : handleSectionWrite [] x = refuse .badLength x :=
  unlessWarming_running _ _ hx

theorem fixedLength_known {k n : Nat} (h : fixedLength k = some n) : k ∈ requestKinds := by
  by_contra unknown
  simp only [requestKinds, List.mem_cons, List.not_mem_nil, or_false, not_or] at unknown
  simp [fixedLength, unknown] at h

/-- A payload of another length than its kind's (R183): BAD_LENGTH comes after WARMING and before everything else. -/
theorem handlerOf_badLength {k n : Nat} {payload : List Byte} (hn : fixedLength k = some n) (hl : payload.length ≠ n)
    (hx : x.time.phase = .running ∨ k = 1 ∨ k = 2) : handlerOf k payload x = refuse .badLength x := by
  have known : ∀ m, fixedLength k = some m → payload.length ≠ m := fun m hm => by
    rw [hn] at hm
    exact Option.some.inj hm ▸ hl
  have running : k ≠ 1 → k ≠ 2 → x.time.phase = .running := fun h1 h2 => hx.resolve_right fun h => h.elim h1 h2
  clear hl hx
  unfold handlerOf
  split
  case h_1 => exact withLength_bad _ _ _ _ (known 0 rfl)
  case h_2 => exact withLength_bad _ _ _ _ (known 0 rfl)
  case h_8 => cases hn
  case h_21 => cases hn
  case h_25 => simp_all [fixedLength]
  all_goals exact checks_badLength (running (by decide) (by decide)) (known _ rfl)

end Form

/-- A request refused in RUNNING. -/
theorem refused_running {c : Instr} {kind tag : Byte} {payload : List Byte} {s u : State} {o : OutcomeCode}
    (hf : c.frame? = some ⟨kind, tag, payload⟩) (hu : s.elapse c.after = u) (ht : u.takes = true) (ho : o ≠ .ok)
    (ha : ∀ x : State, x.time.phase = .running → x.settings = u.settings → handles c ⟨kind, tag, payload⟩ x = refuse o x) :
    RequestRefused s u c kind tag o := by
  obtain ⟨hp, hq⟩ := takes_iff.mp ht
  refine requestRefused hf hu (live_of_running hp) hq ho fun x hx => ha x ?_ ?_
  · rw [hx]
    exact hp
  · rw [hx]
    rfl

/-- Settles O40: the length is checked before the code, and the code before the run. -/
theorem formRefused : Obligations.FormRefused := by
  refine ⟨fun s u c kind tag payload n hw hf hn hl hu hq hp => ?_, fun s u after tag code hu ht hc => ?_⟩
  · have live : u.live = true := hp.elim live_of_running fun h => live_of_warmup h.1
    refine requestRefused hf hu live hq (by decide) fun x hx => ?_
    rw [handles_known hw hf (fixedLength_known hn)]
    refine handlerOf_badLength hn hl ?_
    rcases hp with h | ⟨_, rfl | rfl⟩
    · left
      rw [hx]
      exact h
    · exact .inr (.inl rfl)
    · exact .inr (.inr rfl)
  · refine ⟨fun h => ⟨?_, ?_, ?_⟩, fun h => ?_, fun h => ⟨?_, ?_⟩, fun h => ?_, fun h => ?_, fun h rest => ⟨?_, ?_⟩, ?_, ?_,
      fun r hr => ?_⟩
    · exact refused_running rfl hu ht (by decide) fun _ hx _ => withRun_badValue hx hc h
    · exact refused_running rfl hu ht (by decide) fun _ hx _ => withRun_badValue hx hc h
    · exact refused_running rfl hu ht (by decide) fun _ hx _ => withRun_badValue hx hc h
    · exact refused_running rfl hu ht (by decide) fun _ hx _ => doseMode_badValue hx hc h
    · exact refused_running rfl hu ht (by decide) fun _ hx _ => withPump_badValue hx hc h
    · exact refused_running rfl hu ht (by decide) fun _ hx _ => withPump_badValue hx hc h
    · exact refused_running rfl hu ht (by decide) fun _ hx _ => eventClear_badValue hx hc h
    · exact refused_running rfl hu ht (by decide) fun _ hx _ => sectionProtect_badValue hx hc h
    · exact refused_running rfl hu ht (by decide) fun _ hx _ => sectionRead_badValue hx hc h
    · exact refused_running rfl hu ht (by decide) fun _ hx _ => sectionWrite_badValue hx hc h
    · exact refused_running rfl hu ht (by decide) fun _ hx _ => sectionRead_badLength hx
    · exact refused_running rfl hu ht (by decide) fun _ hx _ => sectionWrite_badLength hx
    · refine refused_running rfl hu ht (by decide) fun x hx hg => withRun_noSubject hx ?_
      rw [State.fitted, hg]
      exact hr

end Sys2Proof.Proofs.Requests
end

section
/-! PROOFS. The reply data of the reading requests, field by field (chapter 11.5). -/

namespace Sys2Proof.Proofs.Reports

open Sys2Proof Sys2Proof.Machine Sys2Proof.Proofs.Arms Sys2Proof.Proofs.Steps Sys2Proof.Proofs.Requests

/-! ## Fields of a record -/

@[simp] theorem length_bytesLE (n v : Nat) : (bytesLE n v).length = n := by
  induction n generalizing v with
  | zero => rfl
  | succ n ih => simp [bytesLE, ih]

theorem take_bytesLE (n v : Nat) : (bytesLE n v).take n = bytesLE n v := List.take_of_length_le (by simp)

theorem carries_front (n v w : Nat) (rest : List Byte) :
    carries (bytesLE n v ++ rest) 0 n w ↔ bytesLE n v = bytesLE n w := by
  simp [carries]

theorem carries_only (n v w : Nat) : carries (bytesLE n v) 0 n w ↔ bytesLE n v = bytesLE n w := by
  simp [carries, take_bytesLE]

/-- A field lies past the fields before it. -/
theorem carries_past {k offset : Nat} (h : k ≤ offset) (v n w : Nat) (rest : List Byte) :
    carries (bytesLE k v ++ rest) offset n w ↔ carries rest (offset - k) n w := by
  simp [carries, List.drop_append, List.drop_eq_nil_of_le, h]

theorem carries_append_right (a rest : List Byte) (offset n w : Nat) :
    carries (a ++ rest) (a.length + offset) n w ↔ carries rest offset n w := by
  rw [carries, List.drop_length_add_append, carries]

theorem carries_append_left {a : List Byte} {offset n : Nat} (h : offset + n ≤ a.length) (rest : List Byte) (w : Nat) :
    carries (a ++ rest) offset n w ↔ carries a offset n w := by
  rw [carries, List.drop_append_of_le_length (by omega), List.take_append_of_le_length (by simp; omega), carries]

/-- A field of one of several records of one length. -/
theorem carries_flatMap {α : Type} {f : α → List Byte} {k : Nat} (hf : ∀ x, (f x).length = k) {offset n : Nat}
    (hn : offset + n ≤ k) (w : Nat) (rest : List Byte) {l : List α} {i : Nat} {x : α} (hi : l[i]? = some x) :
    carries (l.flatMap f ++ rest) (k * i + offset) n w ↔ carries (f x) offset n w := by
  induction l generalizing i with
  | nil => simp at hi
  | cons y l ih =>
    rw [List.flatMap_cons, List.append_assoc]
    cases i with
    | zero =>
      obtain rfl : y = x := by simpa using hi
      rw [Nat.mul_zero, Nat.zero_add, carries_append_left (by rw [hf]; exact hn)]
    | succ i =>
      have next : k * (i + 1) + offset = (f y).length + (k * i + offset) := by
        rw [hf, Nat.mul_succ]
        omega
      rw [next, carries_append_right]
      exact ih (by simpa using hi)

theorem length_flatMap_const {α : Type} {f : α → List Byte} {k : Nat} (hf : ∀ x, (f x).length = k) (l : List α) :
    (l.flatMap f).length = k * l.length := by
  simp [List.length_flatMap, hf, Nat.mul_comm]

/-! ## Chapter 11.5: IDENT and STATION_STATUS -/

theorem identData_fields (u : State) :
    (identData u).length = 7 ∧ carries (identData u) 0 2 4410 ∧ (identData u)[2]? = some Config.designRevision
      ∧ carries (identData u) 3 1 u.settings.build.runs ∧ carries (identData u) 4 1 u.settings.build.pumps
      ∧ carries (identData u) 5 1 u.settings.build.rate.code ∧ carries (identData u) 6 1 u.time.phase.code :=
  ⟨rfl, rfl, rfl, rfl, rfl, rfl, rfl⟩

theorem stationStatusData_figures {u : State} {f : StationFigures} (h : u.conv.station = some f) :
    carries (stationStatusData u) 11 1 (packBits [true, decide (4294967295 < f.base), decide (65535 < f.rate / 1000),
        u.recorder.lastSequence.isSome])
      ∧ carries (stationStatusData u) 12 4 (min f.base 4294967295)
      ∧ carries (stationStatusData u) 16 2 (min (f.rate / 1000) 65535) := by
  simp [stationStatusData, h, carries_past, carries_front, heldAt, rateField, top32]

theorem stationStatusData_noFigures {u : State} (h : u.conv.station = none) :
    carries (stationStatusData u) 11 1 (packBits [false, false, false, u.recorder.lastSequence.isSome])
      ∧ carries (stationStatusData u) 12 6 0 := by
  simp [stationStatusData, h, carries_past, carries_front, heldAt, rateField, top32]
  rfl

theorem boolCode_closed (level : SwitchLevel) : boolCode (level == .closed) = if level = .closed then 1 else 0 := by
  cases level <;> rfl

theorem stationStatusData_fields (u : State) :
    (stationStatusData u).length = 50
      ∧ carries (stationStatusData u) 0 1 u.time.phase.code ∧ carries (stationStatusData u) 1 4 u.now.toNat
      ∧ carries (stationStatusData u) 5 4 u.time.intervalIndex.toNat ∧ carries (stationStatusData u) 9 2 u.time.periodCount
      ∧ carries (stationStatusData u) 18 2 u.settings.heatingValue
      ∧ carries (stationStatusData u) 20 2 (u.settings.stagedHeatingValue.getD 0)
      ∧ carries (stationStatusData u) 22 1 u.loop.hdr.statusByte
      ∧ carries (stationStatusData u) 23 4 (u.loop.hdr.latest.getD 0)
      ∧ carries (stationStatusData u) 27 4 (u.loop.hdr.lastGood.getD 0)
      ∧ carries (stationStatusData u) 31 1 u.loop.tank.statusByte
      ∧ carries (stationStatusData u) 32 4 (u.loop.tank.latest.getD 0)
      ∧ carries (stationStatusData u) 36 4 (u.loop.tank.lastGood.getD 0)
      ∧ carries (stationStatusData u) 40 1
          (packBits [u.pump.a.line, u.pump.b.line, u.table.aux.a, u.table.aux.b, u.alarm])
      ∧ carries (stationStatusData u) 41 1 (if u.pins.custody = .closed then 1 else 0)
      ∧ carries (stationStatusData u) 42 1 u.settings.build.runs ∧ carries (stationStatusData u) 43 1 u.settings.build.pumps
      ∧ carries (stationStatusData u) 44 1 u.settings.build.rate.code
      ∧ carries (stationStatusData u) 45 4 ((u.recorder.lastSequence.map (·.toNat)).getD 0)
      ∧ carries (stationStatusData u) 49 1 u.recorder.ring.length := by
  simp [stationStatusData, channelData, carries_past, carries_front, carries_only, outputLines, boolCode_closed]

theorem any_toList_iff {α : Type} (t : Four α) (test : α → Bool) :
    t.toList.any test = true ↔ ∃ r : RunId, test (t.get r) = true := by
  simp [Four.toList, Four.get, Fin.exists_fin_succ]

/-- The monitors of each group of four. -/
theorem sixteen_get_group {α : Type} (t : Sixteen α) (r : RunId) :
    t.get ⟨r.val, by omega⟩ = t.rate.get r ∧ t.get ⟨4 + r.val, by omega⟩ = t.pressure.get r
      ∧ t.get ⟨8 + r.val, by omega⟩ = t.temperature.get r ∧ t.get ⟨12 + r.val, by omega⟩ = t.station.get r := by
  match r with
  | 0 | 1 | 2 | 3 => exact ⟨rfl, rfl, rfl, rfl⟩

theorem anyEvent_iff (b : Sixteen MonitorState) : anyEvent b = true ↔ ∃ m : Fin 16, (b.get m).event = true := by
  simp only [anyEvent, Bool.or_eq_true, any_toList_iff]
  constructor
  · rintro (((⟨r, h⟩ | ⟨r, h⟩) | ⟨r, h⟩) | ⟨r, h⟩)
    all_goals obtain ⟨rate, pressure, temperature, station⟩ := sixteen_get_group b r
    · exact ⟨_, rate ▸ h⟩
    · exact ⟨_, pressure ▸ h⟩
    · exact ⟨_, temperature ▸ h⟩
    · exact ⟨_, station ▸ h⟩
  · rintro ⟨m, h⟩
    unfold Sixteen.get at h
    split at h
    · exact .inl (.inl (.inl ⟨_, h⟩))
    · exact .inl (.inl (.inr ⟨_, h⟩))
    · exact .inl (.inr ⟨_, h⟩)
    · exact .inr ⟨_, h⟩

theorem alarm_iff (u : State) : u.alarm = true ↔
    u.live = true ∧ ((∃ m : Fin 16, (u.monitors.each.get m).event = true) ∨ u.dose.state = .fault
      ∨ ∃ p : Side, (u.pump.get p).state = .failed) := by
  have pumps : (∃ p : Side, (u.pump.get p).state = .failed) ↔ u.pump.a.state = .failed ∨ u.pump.b.state = .failed :=
    ⟨fun ⟨p, h⟩ => by cases p <;> [exact .inl h; exact .inr h], fun h => h.elim (⟨.a, ·⟩) (⟨.b, ·⟩)⟩
  simp [State.alarm, anyEvent_iff, pumps, or_assoc]

theorem length_monitorData (u : State) (m : Fin 16) : (monitorData u m).length = 7 := by simp [monitorData]

theorem monitorIds_get (m : Fin 16) : monitorIds[m.val]? = some m := by
  revert m
  decide

theorem monitorStatusData_monitor (u : State) (m : Fin 16) {offset n : Nat} (hn : offset + n ≤ 7) (w : Nat) :
    carries (monitorStatusData u) (7 * m.val + offset) n w ↔ carries (monitorData u m) offset n w := by
  rw [monitorStatusData, List.append_assoc]
  exact carries_flatMap (length_monitorData u) hn w _ (monitorIds_get m)

theorem monitorStatusData_end (u : State) :
    carries (monitorStatusData u) 112 1 (boolCode u.monitors.limitLock)
      ∧ carries (monitorStatusData u) 113 1 (boolCode u.alarm) := by
  have before : (monitorIds.flatMap (monitorData u)).length = 112 := length_flatMap_const (length_monitorData u) _
  rw [monitorStatusData, List.append_assoc]
  have lock := carries_append_right (monitorIds.flatMap (monitorData u)) (bytesLE 1 (boolCode u.monitors.limitLock)
    ++ bytesLE 1 (boolCode u.alarm)) 
  rw [before] at lock
  exact ⟨(lock 0 1 _).mpr (by simp [carries_front]), (lock 1 1 _).mpr (by simp [carries_past, carries_only])⟩

/-! ## TABLE_READ -/

theorem length_entryData (now : Time) (id : Nat) (e : Entry) : (entryData now id e).length = 12 := by simp [entryData]

theorem length_entriesData (now : Time) (id : Nat) (places : List (Option Entry)) :
    (entriesData now id places).length = 12 * places.countP Option.isSome := by
  induction places generalizing id with
  | nil => rfl
  | cons e rest ih =>
    cases e with
    | none => simp [entriesData, ih]
    | some x => 
      simp [entriesData, ih, length_entryData]
      omega

/-- An entry stands behind those of the places before its own. -/
theorem entriesData_entry (now : Time) (first : Nat) (places : List (Option Entry)) {i : Nat} {e : Entry}
    (hi : places[i]? = some (some e)) :
    ((entriesData now first places).drop (12 * (places.take i).countP Option.isSome)).take 12
      = entryData now (first + i) e := by
  induction places generalizing i first with
  | nil => simp at hi
  | cons x rest ih =>
    cases i with
    | zero =>
      obtain rfl : x = some e := by simpa using hi
      simp [entriesData, length_entryData]
    | succ i =>
      have later := ih (first + 1) (i := i) (by simpa using hi)
      rw [Nat.add_right_comm, Nat.add_assoc first] at later
      cases x with
      | none => simpa [entriesData] using later
      | some y =>
        simpa [entriesData, List.drop_append, length_entryData, Nat.mul_add, List.drop_eq_nil_of_le] using later

theorem tableData_fields (u : State) :
    (tableData u).length = 5 + 12 * u.table.count (fun _ => true)
        ∧ carries (tableData u) 0 4 u.now.toNat ∧ carries (tableData u) 4 1 (u.table.count fun _ => true) := by
  have all : u.table.count (fun _ => true) = u.table.places.countP Option.isSome := by
    simp [ActionTable.count, Option.any_true]
  refine ⟨?_, ?_, ?_⟩
  · simp [tableData, length_entriesData, all]
    omega
  · simp [tableData, carries_front]
  · simp [tableData, carries_front, carries_past]

theorem tableData_entry {u : State} {id : Nat} {e : Entry} (h : u.table.at id = some e) :
    ((tableData u).drop (5 + 12 * (u.table.places.take id).countP Option.isSome)).take 12 = entryData u.now id e := by
  have place : u.table.places[id]? = some (some e) := by
    simpa [ActionTable.at, Option.join_eq_some_iff] using h
  have entry := entriesData_entry u.now 0 u.table.places place
  rw [Nat.zero_add] at entry
  rw [tableData, ← entry]
  exact congrArg _ (List.drop_length_add_append _ (l₁ := bytesLE 4 u.now.toNat ++ bytesLE 1 (u.table.count fun _ => true)))

/-- A report that is made from what the request leaves alone. -/
theorem reportGiven_running {s u : State} {c : Instr} {kind tag : Byte} {payload : List Byte} {data : State → List Byte}
    (hf : c.frame? = some ⟨kind, tag, payload⟩) (hu : s.elapse c.after = u) (hp : u.time.phase = .running)
    (hq : u.link.queue.length < 4)
    (hd : ∀ x, x = dropFrame { u with pins := u.pins.found c.custody? } → data x = data u)
    (ha : ∀ x : State, x.time.phase = .running → x.settings = u.settings →
      handles c ⟨kind, tag, payload⟩ x = accept (data x) x) :
    ReportGiven s u c kind tag (data u) := by
  refine reportGiven hf hu (live_of_running hp) hq fun x hx => ?_
  rw [← hd x hx]
  refine ha x ?_ ?_
  · rw [hx]
    exact hp
  · rw [hx]
    rfl

/-- Settles O41: each field lies past the fields before it. -/
theorem stationReports : Obligations.StationReports := by
  refine ⟨alarm_iff, fun s u after tag hu hq => ⟨fun hl => ⟨_, reportGiven_ident hu hl hq, identData_fields u⟩,
    fun level hl => ⟨_, reportGiven_stationStatus hu hl hq, ?_⟩, fun hp => ⟨monitorStatusData u, ?_, ?_⟩, fun hp => ⟨tableData u, ?_, ?_⟩⟩⟩
  · obtain ⟨length, phase, now, index, count, heating, staged, hdr, hdrLatest, hdrGood, tank, tankLatest, tankGood, lines,
      custody, runs, pumps, rate, sequence, ring⟩ := stationStatusData_fields (showCustody level u)
    exact ⟨length, phase, now, index, count, fun _ h => stationStatusData_figures (u := showCustody level u) h,
      fun h => stationStatusData_noFigures (u := showCustody level u) h, heating, staged, hdr, hdrLatest, hdrGood, tank,
      tankLatest, tankGood, lines, custody, runs, pumps, rate, sequence, ring⟩
  · exact reportGiven_running rfl hu hp hq (fun _ h => h ▸ rfl) fun x hx _ => checks_passed (n := 0) hx rfl
  · refine ⟨?_, fun m => ⟨?_, ?_, ?_, ?_⟩, monitorStatusData_end u⟩
    · rw [monitorStatusData, List.length_append, List.length_append, length_flatMap_const (length_monitorData u)]
      simp [monitorIds]
    · rw [← Nat.add_zero (7 * m.val), monitorStatusData_monitor u m (by omega)]
      simp [monitorData, carries_front]
    all_goals 
      rw [monitorStatusData_monitor u m (by omega)]
      simp [monitorData, carries_front, carries_past, carries_only]
  · exact reportGiven_running rfl hu hp hq (fun _ h => h ▸ rfl) fun x hx _ => checks_passed (n := 0) hx rfl
  · obtain ⟨length, time, count⟩ := tableData_fields u
    exact ⟨length, time, count, fun id e h => tableData_entry h⟩

/-! ## RUN_STATUS -/

section RunStatus

variable {u : State} {r : RunId}

theorem runStatusData_last {f : LastInterval} (h : (u.run.get r).last = some f) :
    carries (runStatusData r u) 27 1 f.state.code ∧ carries (runStatusData r u) 28 4 f.pUsed
      ∧ carries (runStatusData r u) 32 2 f.tUsed ∧ carries (runStatusData r u) 34 2 (min (f.rate / 1000) 65535)
      ∧ carries (runStatusData r u) 36 2 f.flags.toNat := by
  unfold runStatusData
  simp [channelData, substituteData, lastIntervalData, h, carries_past, carries_front, rateField, heldAt]

theorem runStatusData_noLast (h : (u.run.get r).last = none) : carries (runStatusData r u) 27 11 0 := by
  unfold runStatusData
  simp [channelData, substituteData, lastIntervalData, h, carries_past, carries_front]

/-- The 27 bytes before the last interval figures. -/
theorem length_lastIntervalData (x : Option LastInterval) : (lastIntervalData x).length = 11 := by
  cases x <;> simp [lastIntervalData]

theorem length_lastResultsData (x : Option LastResults) : (lastResultsData x).length = 16 := by
  cases x <;> simp [lastResultsData]

/-- A field lies past the last interval figures. -/
theorem carries_past_last {offset : Nat} (h : 11 ≤ offset) (x : Option LastInterval) (n w : Nat) (rest : List Byte) :
    carries (lastIntervalData x ++ rest) offset n w ↔ carries rest (offset - 11) n w := by
  have past := carries_append_right (lastIntervalData x) rest (offset - 11) n w
  rwa [length_lastIntervalData, Nat.add_sub_cancel' h] at past

theorem carries_past_results {offset : Nat} (h : 16 ≤ offset) (x : Option LastResults) (n w : Nat) (rest : List Byte) :
    carries (lastResultsData x ++ rest) offset n w ↔ carries rest (offset - 16) n w := by
  have past := carries_append_right (lastResultsData x) rest (offset - 16) n w
  rwa [length_lastResultsData, Nat.add_sub_cancel' h] at past

theorem runStatusData_results {x : LastResults} (h : u.conv.last.get r = some x) :
    carries (runStatusData r u) 38 4 (min x.gross 4294967295) ∧ carries (runStatusData r u) 42 4 (min x.base 4294967295)
      ∧ carries (runStatusData r u) 46 4 (min x.energy 4294967295) ∧ carries (runStatusData r u) 50 4 x.ratio := by
  unfold runStatusData
  simp [channelData, substituteData, lastResultsData, h, carries_past, carries_past_last, carries_front,
    heldAt, top32]

theorem runStatusData_noResults (h : u.conv.last.get r = none) : carries (runStatusData r u) 38 16 0 := by
  unfold runStatusData
  simp [channelData, substituteData, lastResultsData, h, carries_past, carries_past_last, carries_front]

theorem runStatusData_bits :
    carries (runStatusData r u) 4 1 (runStatusBits (u.run.get r).last (u.conv.last.get r)) := by
  unfold runStatusData
  simp [carries_past, carries_front]

theorem runStatusData_fields (u : State) (r : RunId) : (runStatusData r u).length = 109
        ∧ carries (runStatusData r u) 0 1 r.val ∧ carries (runStatusData r u) 1 1 (u.run.get r).state.code
        ∧ carries (runStatusData r u) 2 2 (u.run.get r).settle
        ∧ carries (runStatusData r u) 5 1 (u.loop.p.get r).statusByte
        ∧ carries (runStatusData r u) 6 4 ((u.loop.p.get r).latest.getD 0)
        ∧ carries (runStatusData r u) 10 4 ((u.loop.p.get r).lastGood.getD 0)
        ∧ carries (runStatusData r u) 14 1 (u.loop.t.get r).statusByte
        ∧ carries (runStatusData r u) 15 2 ((u.loop.t.get r).latest.getD 0)
        ∧ carries (runStatusData r u) 17 2 ((u.loop.t.get r).lastGood.getD 0)
        ∧ carries (runStatusData r u) 19 1 (u.run.get r).pSubstitute.kind.code
        ∧ carries (runStatusData r u) 20 4 ((u.run.get r).pSubstitute.value.getD 0)
        ∧ carries (runStatusData r u) 24 1 (u.run.get r).tSubstitute.kind.code
        ∧ carries (runStatusData r u) 25 2 ((u.run.get r).tSubstitute.value.getD 0) := by
  unfold runStatusData
  simp [channelData, substituteData, totalsData, length_lastIntervalData, length_lastResultsData,
    carries_past, carries_front]

theorem runStatusData_totals (u : State) (r : RunId) : carries (runStatusData r u) 54 4 (u.conv.residue.get r)
        ∧ carries (runStatusData r u) 58 8 (u.recorder.totals.get r).gross
        ∧ carries (runStatusData r u) 66 2 (u.recorder.totals.get r).grossResidue
        ∧ carries (runStatusData r u) 68 8 (u.recorder.totals.get r).base
        ∧ carries (runStatusData r u) 76 2 (u.recorder.totals.get r).baseResidue
        ∧ carries (runStatusData r u) 78 8 (u.recorder.totals.get r).energy
        ∧ carries (runStatusData r u) 86 4 (u.recorder.totals.get r).energyResidue
        ∧ carries (runStatusData r u) 90 4 (u.pulse.get r).lastCount.a
        ∧ carries (runStatusData r u) 94 4 (u.pulse.get r).lastCount.b
        ∧ carries (runStatusData r u) 98 1 (Side.code (u.pulse.get r).lastChannel)
        ∧ carries (runStatusData r u) 99 1 (u.pulse.get r).integrityByte
        ∧ carries (runStatusData r u) 100 1 (u.pulse.get r).consecutiveClean
        ∧ carries (runStatusData r u) 101 4 (u.pulse.get r).maintenance.toNat
        ∧ carries (runStatusData r u) 105 4 u.now.toNat := by
  unfold runStatusData
  simp [channelData, substituteData, totalsData, carries_past, carries_past_last, carries_past_results,
    carries_front, carries_only]

end RunStatus

/-! ## DOSE_STATUS -/

theorem length_pumpData (x : Pump) : (pumpData x).length = 4 := by
  unfold pumpData
  split <;> simp

theorem pumpData_absent {x : Pump} (h : x.state = .absent) : pumpData x = bytesLE 4 0 := by simp [pumpData, h]

theorem pumpData_fitted {x : Pump} (h : x.state ≠ .absent) :
    pumpData x = bytesLE 1 x.state.code ++ bytesLE 1 (boolCode x.line) ++ bytesLE 1 x.misses ++ bytesLE 1 x.strays := by
  unfold pumpData
  split
  case h_1 e => exact absurd e h
  case h_2 => rfl

theorem carries_past_pump {offset : Nat} (h : 4 ≤ offset) (x : Pump) (n w : Nat) (rest : List Byte) :
    carries (pumpData x ++ rest) offset n w ↔ carries rest (offset - 4) n w := by
  have past := carries_append_right (pumpData x) rest (offset - 4) n w
  rwa [length_pumpData, Nat.add_sub_cancel' h] at past

section DoseStatus

variable (u : State)

theorem doseStatusData_controller : (doseStatusData u).length = 102
    ∧ carries (doseStatusData u) 0 1
        (packBits [u.dose.trimHoldOff.isSome, u.dose.lastReading.isSome, u.dose.lastDrive.isSome])
    ∧ carries (doseStatusData u) 1 1 u.dose.mode.code ∧ carries (doseStatusData u) 2 1 u.dose.state.code
    ∧ carries (doseStatusData u) 3 8 u.dose.account
    ∧ carries (doseStatusData u) 11 8 (u.odorant.debtLimit * u.odorant.strokeMass)
    ∧ carries (doseStatusData u) 19 4 u.dose.residue ∧ carries (doseStatusData u) 23 2 u.dose.trim
    ∧ carries (doseStatusData u) 25 4 (trimRemaining u) := by
  unfold doseStatusData
  simp [massesData, length_pumpData, carries_past, carries_front, OdorantSection.cap]

theorem doseStatusData_strokes : carries (doseStatusData u) 32 1 (Side.code u.dose.duty)
    ∧ carries (doseStatusData u) 33 4 ((u.dose.lastDrive.map (·.toNat)).getD 0)
    ∧ carries (doseStatusData u) 37 1 (boolCode u.dose.recentDrive)
    ∧ carries (doseStatusData u) 38 8 u.dose.massInFlight := by
  unfold doseStatusData
  simp [carries_past, carries_front]

theorem doseStatusData_masses : carries (doseStatusData u) 54 8 u.recorder.station.owed
    ∧ carries (doseStatusData u) 62 8 u.recorder.station.autoDelivered
    ∧ carries (doseStatusData u) 70 8 u.recorder.station.forgone
    ∧ carries (doseStatusData u) 78 8 u.recorder.station.surplus
    ∧ carries (doseStatusData u) 86 8 u.recorder.station.manualMass
    ∧ carries (doseStatusData u) 94 8 u.recorder.station.accountOpen := by
  unfold doseStatusData
  simp [massesData, carries_past, carries_past_pump, carries_front, carries_only]

variable {u}

theorem doseStatusData_reading {m : Nat} {flag : TrimFlag} (h : u.dose.lastReading = some (m, flag)) :
    carries (doseStatusData u) 29 2 m ∧ carries (doseStatusData u) 31 1 flag.code := by
  unfold doseStatusData
  simp [h, carries_past, carries_front]

theorem doseStatusData_noReading (h : u.dose.lastReading = none) : carries (doseStatusData u) 29 3 0 := by
  unfold doseStatusData
  simp [h, carries_past]
  rfl

theorem trimRemaining_started {e : Time} (h : u.dose.trimHoldOff = some e) :
    trimRemaining u = if reached e u.now = true then 0 else (e - u.now).toNat := by
  simp [trimRemaining, h]

theorem trimRemaining_ended (h : u.dose.trimHoldOff = none) : trimRemaining u = 0 := by simp [trimRemaining, h]

/-- The pumps' four bytes each stand behind 46 others. -/
theorem doseStatusData_split (u : State) : ∃ head tail : List Byte, head.length = 46
    ∧ doseStatusData u = head ++ (pumpData u.pump.a ++ (pumpData u.pump.b ++ tail)) := by
  refine ⟨?head, massesData u.recorder.station ++ bytesLE 8 u.recorder.station.accountOpen, ?length, ?split⟩
  case split =>
    rw [← List.append_assoc, ← List.append_assoc, ← List.append_assoc]
    rfl
  case length => simp

theorem doseStatusData_pump (p : Side) {offset n : Nat} (hn : offset + n ≤ 4) (w : Nat) :
    carries (doseStatusData u) (46 + (4 * Side.code p + offset)) n w ↔ carries (pumpData (u.pump.get p)) offset n w := by
  obtain ⟨head, tail, length, data⟩ := doseStatusData_split u
  rw [data, ← length, carries_append_right]
  cases p
  · rw [Side.code, Nat.mul_zero, Nat.zero_add, carries_append_left (by rw [length_pumpData]; exact hn)]
    rfl
  · rw [Side.code, carries_past_pump (by omega), Nat.mul_one, Nat.add_sub_cancel_left,
      carries_append_left (by rw [length_pumpData]; exact hn)]
    rfl

theorem doseStatusData_pump_fitted {p : Side} (h : (u.pump.get p).state ≠ .absent) :
    carries (doseStatusData u) (46 + 4 * Side.code p) 1 (u.pump.get p).state.code
      ∧ carries (doseStatusData u) (47 + 4 * Side.code p) 1 (boolCode (u.pump.get p).line)
      ∧ carries (doseStatusData u) (48 + 4 * Side.code p) 1 (u.pump.get p).misses
      ∧ carries (doseStatusData u) (49 + 4 * Side.code p) 1 (u.pump.get p).strays := by
  have place : ∀ i n w, i + n ≤ 4 → carries (pumpData (u.pump.get p)) i n w →
      carries (doseStatusData u) (46 + i + 4 * Side.code p) n w := fun i n w hn hc => by
    rw [show 46 + i + 4 * Side.code p = 46 + (4 * Side.code p + i) by omega]
    exact (doseStatusData_pump p hn w).mpr hc
  rw [pumpData_fitted h] at place
  exact ⟨place 0 1 _ (by omega) (by simp [carries_front]), place 1 1 _ (by omega) (by simp [carries_past, carries_front]),
    place 2 1 _ (by omega) (by simp [carries_past, carries_front]),
    place 3 1 _ (by omega) (by simp [carries_past, carries_only])⟩

theorem doseStatusData_pump_absent {p : Side} (h : (u.pump.get p).state = .absent) :
    carries (doseStatusData u) (46 + 4 * Side.code p) 4 0 := by
  have place := doseStatusData_pump (u := u) p (offset := 0) (n := 4) (by omega) 0
  rw [pumpData_absent h] at place
  exact place.mpr rfl

end DoseStatus

/-- Settles O42: each field lies past the fields before it; figures that are absent leave zeros of their length. -/
theorem runAndDoseReports : Obligations.RunAndDoseReports := by
  intro s u after tag hu ht
  obtain ⟨hp, hq⟩ := takes_iff.mp ht
  refine ⟨fun r hr => ⟨runStatusData r u, ?_, ?_⟩, doseStatusData u, ?_, ?_⟩
  · refine reportGiven_running rfl hu hp hq (fun _ h => h ▸ rfl) fun x hx hg => withRun_fitted hx ?_
    rw [State.fitted, hg]
    exact hr
  · obtain ⟨length, run, state, settle, p, pLatest, pGood, t, tLatest, tGood, pKind, pValue, tKind, tValue⟩ :=
      runStatusData_fields u r
    have bits := runStatusData_bits (u := u) (r := r)
    refine ⟨length, run, state, settle, p, pLatest, pGood, t, tLatest, tGood, pKind, pValue, tKind, tValue,
      fun f => runStatusData_last, runStatusData_noLast, fun x => runStatusData_results, runStatusData_noResults,
      fun f x hf hx => ?_, fun f hf hx => ?_, fun x hf hx => ?_, fun hf hx => ?_, runStatusData_totals u r⟩
    all_goals
      rw [hf, hx] at bits
      exact bits
  · exact reportGiven_running rfl hu hp hq (fun _ h => h ▸ rfl) fun x hx _ => checks_passed (n := 0) hx rfl
  · obtain ⟨length, bits, mode, state, account, cap, residue, trim, left⟩ := doseStatusData_controller u
    obtain ⟨duty, drive, recent, mass⟩ := doseStatusData_strokes u
    exact ⟨length, bits, mode, state, account, cap, residue, trim, fun e he => trimRemaining_started he ▸ left,
      fun he => trimRemaining_ended he ▸ left, fun m flag => doseStatusData_reading, doseStatusData_noReading, duty, drive,
      recent, mass, fun p => doseStatusData_pump_fitted, fun p => doseStatusData_pump_absent, doseStatusData_masses u⟩

/-! ## PERIOD_READ -/

theorem length_subRecordData (y : RunSubRecord) : (subRecordData y).length = 35 := by simp [subRecordData]

section PeriodRead

variable (x : PeriodRecord)

/-- The sub-records stand behind 103 bytes. -/
theorem recordData_split : ∃ head : List Byte, head.length = 103 ∧ recordData x = head ++ x.runs.flatMap subRecordData := by
  refine ⟨?head, ?length, ?split⟩
  case split => rfl
  case length => simp [massesData, strokesData]

theorem length_recordData : (recordData x).length = 103 + 35 * x.runs.length := by
  obtain ⟨head, length, data⟩ := recordData_split x
  rw [data, List.length_append, length, length_flatMap_const length_subRecordData]

theorem recordData_head : carries (recordData x) 0 4 x.sequence.toNat ∧ carries (recordData x) 4 1 x.cause.code
    ∧ carries (recordData x) 5 2 x.intervals ∧ carries (recordData x) 7 4 x.duration
    ∧ carries (recordData x) 11 4 x.lastIndex.toNat ∧ carries (recordData x) 15 1 x.runs.length
    ∧ carries (recordData x) 16 8 x.station.owed ∧ carries (recordData x) 24 8 x.station.autoDelivered
    ∧ carries (recordData x) 32 8 x.station.forgone ∧ carries (recordData x) 40 8 x.station.surplus
    ∧ carries (recordData x) 48 8 x.station.manualMass := by
  unfold recordData
  simp [massesData, carries_past, carries_front]

theorem recordData_strokes :
    carries (recordData x) 56 4 x.station.strokes.a.confirmed ∧ carries (recordData x) 60 4 x.station.strokes.a.missed
    ∧ carries (recordData x) 64 4 x.station.strokes.a.stray ∧ carries (recordData x) 68 4 x.station.strokes.b.confirmed
    ∧ carries (recordData x) 72 4 x.station.strokes.b.missed ∧ carries (recordData x) 76 4 x.station.strokes.b.stray
    ∧ carries (recordData x) 80 4 x.station.manualMisses ∧ carries (recordData x) 84 4 x.station.changeovers
    ∧ carries (recordData x) 88 1 (packBits [x.station.modes.off, x.station.modes.auto, x.station.modes.manual,
        x.station.abandoned])
    ∧ carries (recordData x) 89 2 x.trim ∧ carries (recordData x) 91 4 x.station.accountOpen
    ∧ carries (recordData x) 95 4 x.accountClose ∧ carries (recordData x) 99 4 0 := by
  unfold recordData
  simp [massesData, strokesData, carries_past, carries_front, StationAccumulators.modeByte]

variable {x}

/-- A run's sub-record stands behind the 103 bytes of the station's and the sub-records before it. -/
theorem recordData_run {i : Nat} {y : RunSubRecord} (hi : x.runs[i]? = some y) {offset n w : Nat} (hn : offset + n ≤ 35)
    (hc : carries (subRecordData y) offset n w) : carries (recordData x) (103 + offset + 35 * i) n w := by
  obtain ⟨head, length, data⟩ := recordData_split x
  rw [show 103 + offset + 35 * i = head.length + (35 * i + offset) by omega, data, carries_append_right,
    ← List.append_nil (x.runs.flatMap subRecordData), carries_flatMap length_subRecordData hn w [] hi]
  exact hc

theorem subRecordData_fields (y : RunSubRecord) : carries (subRecordData y) 0 1 y.run.val
    ∧ carries (subRecordData y) 1 1 y.state.code ∧ carries (subRecordData y) 2 4 y.gross.value
    ∧ carries (subRecordData y) 6 4 y.base.value ∧ carries (subRecordData y) 10 4 y.energy.value
    ∧ carries (subRecordData y) 14 4 (y.averages.getD (0, 0)).1 ∧ carries (subRecordData y) 18 2 (y.averages.getD (0, 0)).2
    ∧ carries (subRecordData y) 20 4 y.averageRate.value ∧ carries (subRecordData y) 24 4 y.peak
    ∧ carries (subRecordData y) 28 2 y.metered ∧ carries (subRecordData y) 30 2 y.integrityEvents
    ∧ carries (subRecordData y) 32 2 y.flags.toNat
    ∧ carries (subRecordData y) 34 1 (packBits [y.gross.saturated, y.base.saturated, y.energy.saturated,
        y.averageRate.saturated, y.averages.isSome]) := by
  unfold subRecordData
  simp [carries_past, carries_front, carries_only]

theorem subRecordData_noAverages {y : RunSubRecord} (h : y.averages = none) : carries (subRecordData y) 14 6 0 := by
  unfold subRecordData
  simp [h, carries_past]
  rfl

end PeriodRead

section PeriodReadHandled

variable {age : Nat} {x : State}

theorem periodRead_badValue (hx : x.time.phase = .running) (h : age ≤ 255) (ha : 47 < age) :
    handlePeriodRead [byteOf age] x = refuse .badValue x := by
  rw [handlePeriodRead, checks_passed (n := 1) hx rfl, fieldAt_byteOf h]
  exact if_pos ha

theorem periodRead_found {y : PeriodRecord} (hx : x.time.phase = .running) (ha : age ≤ 47)
    (hy : x.recorder.ring[age]? = some y) : handlePeriodRead [byteOf age] x = accept (recordData y) x := by
  rw [handlePeriodRead, checks_passed (n := 1) hx rfl, fieldAt_byteOf (by omega)]
  simp [Nat.not_lt.mpr ha, hy]

theorem periodRead_notFound (hx : x.time.phase = .running) (ha : age ≤ 47) (hy : x.recorder.ring.length ≤ age) :
    handlePeriodRead [byteOf age] x = refuse .notFound x := by
  rw [handlePeriodRead, checks_passed (n := 1) hx rfl, fieldAt_byteOf (by omega)]
  simp [Nat.not_lt.mpr ha, List.getElem?_eq_none hy]

end PeriodReadHandled

/-! ## SECTION_READ -/

section SectionReadHandled

variable {code : Nat} {bs : List Byte} {i : SectionId} {x : State} {upper : Bool}

theorem readLength_ne_zero (i : SectionId) : readLength i ≠ 0 := by cases i <;> simp [readLength]

/-- What the copy asked for gives (R167). -/
def sectionAnswer (i : SectionId) (staged upper : Bool) (x : State) : Answer :=
  if staged then
    match stagedRecord i upper x.settings.staged with
    | none => refuse .notFound x
    | some d => accept (bytesLE 1 (flagsByte i x.settings) ++ d) x
  else accept (bytesLE 1 (flagsByte i x.settings) ++ activeRecord i upper x.settings.active) x

theorem sectionAnswer_active : sectionAnswer i false upper x
    = accept (bytesLE 1 (flagsByte i x.settings) ++ activeRecord i upper x.settings.active) x := rfl

theorem sectionAnswer_staged {d : List Byte} (h : stagedRecord i upper x.settings.staged = some d) :
    sectionAnswer i true upper x = accept (bytesLE 1 (flagsByte i x.settings) ++ d) x := by
  simp [sectionAnswer, h]

theorem sectionAnswer_none (h : stagedRecord i upper x.settings.staged = none) :
    sectionAnswer i true upper x = refuse .notFound x := by
  simp [sectionAnswer, h]

theorem sectionRead_selected {staged : Bool} (hx : x.time.phase = .running) (hc : code ≤ 255)
    (hi : sectionId? code = some i) (hl : bs.length + 1 = readLength i)
    (hs : readSelector i (byteOf code :: bs) = some (staged, upper)) :
    handleSectionRead (byteOf code :: bs) x = sectionAnswer i staged upper x := by
  rw [handleSectionRead, unlessWarming_running _ _ hx, fieldAt_byteOf hc, hi]
  simp only [List.length_cons, hl, readLength_ne_zero, if_false, ne_eq, not_true_eq_false, hs]
  rfl

theorem sectionRead_wrongCopy (hx : x.time.phase = .running) (hc : code ≤ 255) (hi : sectionId? code = some i)
    (hl : bs.length + 1 = readLength i) (hs : readSelector i (byteOf code :: bs) = none) :
    handleSectionRead (byteOf code :: bs) x = refuse .badValue x := by
  rw [handleSectionRead, unlessWarming_running _ _ hx, fieldAt_byteOf hc, hi]
  simp only [List.length_cons, hl, readLength_ne_zero, if_false, ne_eq, not_true_eq_false, hs]

theorem sectionRead_wrongLength (hx : x.time.phase = .running) (hc : code ≤ 255) (hi : sectionId? code = some i)
    (hl : bs.length + 1 ≠ readLength i) : handleSectionRead (byteOf code :: bs) x = refuse .badLength x := by
  rw [handleSectionRead, unlessWarming_running _ _ hx, fieldAt_byteOf hc, hi]
  simp [hl]

theorem readLength_code {code : Nat} {i : SectionId} (h : sectionId? code = some i) :
    readLength i = (if code = 7 then 2 else 1) + 1 := by
  match code with
  | 0 | 1 | 2 | 3 | 4 | 5 | 6 | 7 =>
    cases h
    rfl
  | _ + 8 => cases h

theorem sectionId_known {code : Nat} (h : code < 8) : ∃ i, sectionId? code = some i := by
  match code, h with
  | 0, _ | 1, _ | 2, _ | 3, _ | 4, _ | 5, _ | 6, _ | 7, _ => exact ⟨_, rfl⟩

theorem sectionId_ne_monitors (h : code < 7) (hi : sectionId? code = some i) : i ≠ .monitors := by
  rintro rfl
  match code, h with
  | 0, _ | 1, _ | 2, _ | 3, _ | 4, _ | 5, _ | 6, _ => cases hi

theorem yesNo_none {n : Nat} (h : 2 ≤ n) : yesNo? n = none := by
  match n, h with
  | n + 2, _ => rfl

/-- The second byte of a payload. -/
theorem fieldAt_second {n : Nat} (h : n ≤ 255) (b : Byte) (rest : List Byte) : fieldAt (b :: byteOf n :: rest) 1 1 = n :=
  fieldAt_byteOf h rest

theorem fieldAt_third {n : Nat} (h : n ≤ 255) (b c : Byte) (rest : List Byte) :
    fieldAt (b :: c :: byteOf n :: rest) 2 1 = n :=
  fieldAt_byteOf h rest

theorem readSelector_copy (hi : i ≠ .monitors) {copy : Nat} (hc : copy ≤ 255) (b : Byte) :
    readSelector i [b, byteOf copy] = (yesNo? copy).map (·, false) := by
  unfold readSelector
  rw [fieldAt_second hc]
  cases yesNo? copy <;> cases i <;> simp at *

theorem readSelector_half {copy half : Nat} (hc : copy ≤ 255) (hh : half ≤ 255) (b : Byte) :
    readSelector .monitors [b, byteOf copy, byteOf half] = (yesNo? copy).bind fun c => (yesNo? half).map (c, ·) := by
  unfold readSelector
  rw [fieldAt_second hc]
  simp only [fieldAt_third hh]
  cases yesNo? copy <;> cases yesNo? half <;> rfl

theorem readSelector_monitors (copy upper : Bool) (b : Byte) :
    readSelector .monitors [b, boolByte copy, boolByte upper] = some (copy, upper) := by
  cases copy <;> cases upper <;> rfl

/-- The payload of a SECTION_READ of another section than MONITORS holds the copy alone. -/
theorem length_single (h : code < 7) (hi : sectionId? code = some i) (b : Byte) : [b].length + 1 = readLength i := by
  rw [readLength_code hi, if_neg (by omega)]
  rfl

end SectionReadHandled

/-- A report of a section, made from the settings alone. -/
theorem sectionReported {s u : State} {after : Nat} {tag : Byte} {payload : List Byte} {data : Settings → List Byte}
    (hu : s.elapse after = u) (ht : u.takes = true)
    (ha : ∀ x : State, x.time.phase = .running → x.settings = u.settings →
      handleSectionRead payload x = accept (data x.settings) x) :
    ReportGiven s u (.sectionRead after tag payload) 0x08#8 tag (data u.settings) := by
  obtain ⟨hp, hq⟩ := takes_iff.mp ht
  refine reportGiven_running (data := fun x => data x.settings) rfl hu hp hq (fun _ h => h ▸ rfl) ha

/-- Settles O43: the sub-records of a record are of one length, and a SECTION_READ names its copy by its second byte, and the
half of MONITORS by its third. -/
theorem recordAndSectionReads : Obligations.RecordAndSectionReads := by
  intro s u after tag hu ht
  obtain ⟨hp, hq⟩ := takes_iff.mp ht
  refine ⟨fun age x ha hx => ⟨recordData x, ?_, ?_⟩, fun age ha hn => ?_, fun age ha hn => ?_,
    fun code i hc hi => ⟨?_, fun bs hb => ?_, fun hb => ?_⟩, fun upper => ⟨?_, fun c hs => ?_, fun hs => ?_⟩,
    fun code bs hc hb => ?_, fun code copy hc h2 hb => ?_, fun copy half h hc hh => ?_⟩
  · exact reportGiven rfl hu (live_of_running hp) hq fun _ e => e ▸ periodRead_found hp ha hx
  · obtain ⟨sequence, cause, intervals, duration, index, runs, owed, delivered, forgone, surplus, manual⟩ := recordData_head x
    obtain ⟨confirmedA, missedA, strayA, confirmedB, missedB, strayB, misses, changeovers, modes, trim, opened, close,
      spare⟩ := recordData_strokes x
    refine ⟨length_recordData x, sequence, cause, intervals, duration, index, runs, owed, delivered, forgone, surplus, manual,
      confirmedA, missedA, strayA, confirmedB, missedB, strayB, misses, changeovers, modes, trim, opened, close, spare,
      fun i y hy => ?_⟩
    obtain ⟨run, state, gross, base, energy, p, t, rate, peak, metered, events, flags, bits⟩ := subRecordData_fields y
    refine ⟨recordData_run hy (by omega) run, recordData_run hy (by omega) state, recordData_run hy (by omega) gross,
      recordData_run hy (by omega) base, recordData_run hy (by omega) energy,
      fun p' t' ha => ⟨recordData_run (offset := 14) hy (by omega) ?_, recordData_run (offset := 18) hy (by omega) ?_⟩,
      fun ha => recordData_run hy (by omega) (subRecordData_noAverages ha), recordData_run hy (by omega) rate,
      recordData_run hy (by omega) peak, recordData_run hy (by omega) metered, recordData_run hy (by omega) events,
      recordData_run hy (by omega) flags, recordData_run hy (by omega) bits⟩
    · rw [ha] at p
      exact p
    · rw [ha] at t
      exact t
  · exact requestRefused rfl hu (live_of_running hp) hq (by decide) fun _ e => e ▸ periodRead_notFound hp ha hn
  · exact refused_running rfl hu ht (by decide) fun x hx _ => periodRead_badValue hx hn ha
  · exact sectionReported (data := fun g => bytesLE 1 (flagsByte i g) ++ activeRecord i false g.active) hu ht fun x hx _ =>
      sectionRead_selected hx (by omega) hi (length_single hc hi _)
        (readSelector_copy (sectionId_ne_monitors hc hi) (copy := 0) (by omega) _)
  · exact sectionReported (data := fun g => bytesLE 1 (flagsByte i g) ++ bs) hu ht fun x hx hg =>
      (sectionRead_selected hx (by omega) hi (length_single hc hi _)
        (readSelector_copy (sectionId_ne_monitors hc hi) (copy := 1) (by omega) _)).trans
        (sectionAnswer_staged (hg ▸ hb))
  · exact refused_running rfl hu ht (by decide) fun x hx hg =>
      (sectionRead_selected hx (by omega) hi (length_single hc hi _)
        (readSelector_copy (sectionId_ne_monitors hc hi) (copy := 1) (by omega) _)).trans (sectionAnswer_none (hg ▸ hb))
  · exact sectionReported (data := fun g => bytesLE 1 (flagsByte .monitors g) ++ encodeMonitorsHalf upper g.active.monitors)
      hu ht fun x hx _ => sectionRead_selected (code := 7) hx (by omega) rfl rfl (readSelector_monitors false upper _)
  · exact sectionReported (data := fun g => bytesLE 1 (flagsByte .monitors g) ++ encodeMonitorsHalf upper c) hu ht
      fun x hx hg => (sectionRead_selected (code := 7) hx (by omega) rfl rfl (readSelector_monitors true upper _)).trans
        (sectionAnswer_staged (by simp [stagedRecord, hg, hs]))
  · exact refused_running rfl hu ht (by decide) fun x hx hg =>
      (sectionRead_selected (code := 7) hx (by omega) rfl rfl (readSelector_monitors true upper _)).trans
        (sectionAnswer_none (by simp [stagedRecord, hg, hs]))
  · obtain ⟨i, hi⟩ := sectionId_known hc
    refine refused_running rfl hu ht (by decide) fun x hx _ => sectionRead_wrongLength hx (by omega) hi ?_
    rw [readLength_code hi]
    omega
  · obtain ⟨i, hi⟩ := sectionId_known (Nat.lt_succ_of_lt hc)
    refine refused_running rfl hu ht (by decide) fun x hx _ =>
      sectionRead_wrongCopy hx (by omega) hi (length_single hc hi _) ?_
    rw [readSelector_copy (sectionId_ne_monitors hc hi) hb, yesNo_none h2]
    rfl
  · refine refused_running rfl hu ht (by decide) fun x hx _ => sectionRead_wrongCopy (code := 7) hx (by omega) rfl rfl ?_
    rw [readSelector_half hc hh]
    rcases h with h | h
    · rw [yesNo_none h]
      rfl
    · rw [yesNo_none h]
      cases yesNo? copy <;> rfl

end Sys2Proof.Proofs.Reports
end

section
/-! PROOFS. The requests that act: runs, readings, modes, pumps, monitors, sections and the table (chapters 3, 5, 7, 9, 10). -/

namespace Sys2Proof.Proofs.Orders

open Sys2Proof Sys2Proof.Machine Sys2Proof.Proofs.Arms Sys2Proof.Proofs.Steps Sys2Proof.Proofs.Requests
  Sys2Proof.Proofs.Reports
  Sys2Proof.Proofs.LimitMonitors

/-! ## A request carried out in RUNNING -/

/-- A request that finds RUNNING and a free place, carried out: its work plays no part in the frame being received. -/
theorem exec_done {c : Instr} {kind tag : Byte} {payload d : List Byte} {s u v : State}
    (hf : c.frame? = some ⟨kind, tag, payload⟩) (hc : c.custody? = none) (hu : s.elapse c.after = u)
    (ht : u.takes = true) (ha : handles c ⟨kind, tag, payload⟩ (dropFrame u) = accept d (dropFrame v)) :
    exec c s = .next (answered (okReply kind tag d) v) := by
  obtain ⟨hp, hq⟩ := takes_iff.mp ht
  refine exec_accepted hf hu (live_of_running hp) hq ?_
  rw [hc]
  exact ha

/-- A request refused in RUNNING for what it finds. -/
theorem exec_refused {c : Instr} {kind tag : Byte} {payload : List Byte} {s u : State} {o : OutcomeCode}
    (hf : c.frame? = some ⟨kind, tag, payload⟩) (hc : c.custody? = none) (hu : s.elapse c.after = u)
    (ht : u.takes = true) (ho : o ≠ .ok)
    (ha : handles c ⟨kind, tag, payload⟩ (dropFrame u) = refuse o (dropFrame u)) : RequestRefused s u c kind tag o := by
  obtain ⟨hp, hq⟩ := takes_iff.mp ht
  refine requestRefused hf hu (live_of_running hp) hq ho fun x hx => ?_
  rw [hc] at hx
  exact hx ▸ ha

/-- What an answered request gives in notices and leaves in memory. -/
theorem answered_given {c : NoticeClass} {n : Nat} {f : Frame} {u v : State} (hn : Notice.subjectInRange ⟨c, n⟩ = true)
    (hu : v.link.tx = u.link.tx) (he : v.settings.active.station.enables.get c = true) :
    noticeGiven c n u (answered f (raise c n v)) = true :=
  noticeGiven_answered c n f u _ hn (by simp [hu]) (noticeGiven_raise c n u v he)

@[simp] theorem answered_run (f : Frame) (v : State) : (answered f v).run = v.run := by
  simp [answered]

@[simp] theorem answered_monitors (f : Frame) (v : State) : (answered f v).monitors = v.monitors := by
  simp [answered]

@[simp] theorem answered_dose (f : Frame) (v : State) : (answered f v).dose = v.dose := by
  simp [answered]

@[simp] theorem answered_table (f : Frame) (v : State) : (answered f v).table = v.table := by
  simp [answered]

/-! ## Chapter 3: runs opened and closed -/

theorem runSubject_inRange (r : RunId) : Notice.subjectInRange ⟨.run, r.val⟩ = true := by
  simp [Notice.subjectInRange]

/-- The run in service, before its notice (R41, R42). -/
def opened (r : RunId) (u : State) : State :=
  { u with
    pulse := u.pulse.set r
      { u.pulse.get r with
        ring := .both [], maintenance := 0, consecutiveEvents := 0, consecutiveClean := 0, integrityAlarm := false }
    run := u.run.set r
      { u.run.get r with
        state :=
          if 0 < (u.runSection r).settleTime then .starting
          else if (u.loop.p.get r).usable = true ∧ (u.loop.t.get r).usable = true then .metering
          else .degraded
        settle := (u.runSection r).settleTime } }

theorem openRun_eq (r : RunId) (u : State) : openRun r u = raise .run r.val (opened r u) := by
  have states : (if (u.runSection r).settleTime = 0 then meteringState r u.loop else .starting)
      = if 0 < (u.runSection r).settleTime then .starting
        else if (u.loop.p.get r).usable = true ∧ (u.loop.t.get r).usable = true then .metering else .degraded := by
    simp only [meteringState, channelsUsable, Bool.and_eq_true, Nat.pos_iff_ne_zero, ite_not]
  unfold openRun
  dsimp only
  rw [states]
  rfl

theorem openRun_dropFrame (r : RunId) (u : State) : openRun r (dropFrame u) = dropFrame (openRun r u) := by
  rw [openRun_eq, openRun_eq, dropFrame_raise]
  rfl

theorem runOpen_done {x : State} {r : RunId} (hx : x.time.phase = .running) (hr : x.fitted r = true)
    (ho : (x.run.get r).state = .out) (hd : x.settings.defaulted.run.get r = false) :
    handleRunOpen [byteOf r.val] x = accept (bytesLE 1 ((openRun r x).run.get r).state.code) (openRun r x) := by
  rw [handleRunOpen, withRun_fitted hx hr]
  simp only [ho, ne_eq, not_true_eq_false, if_false, hd, Bool.false_eq_true]

theorem runOpen_wrongState {x : State} {r : RunId} (hx : x.time.phase = .running) (hr : x.fitted r = true)
    (h : (x.run.get r).state ≠ .out ∨ x.settings.defaulted.run.get r = true) :
    handleRunOpen [byteOf r.val] x = refuse .wrongState x := by
  rw [handleRunOpen, withRun_fitted hx hr]
  by_cases ho : (x.run.get r).state = .out
  · simp [ho, h.resolve_left (not_not_intro ho)]
  · exact if_pos ho

/-- The run taken out, before its monitors are cleared and its notice is raised (R46). -/
def shut (r : RunId) (u : State) : State :=
  { u with
    pulse := u.pulse.set r { u.pulse.get r with ring := .both [] }
    run := u.run.set r
      { u.run.get r with
        state := .out, settle := 0, closedInInterval := true, stateForInterval := some (u.run.get r).state } }

theorem closeRun_eq (r : RunId) (u : State) :
    closeRun r u = raise .run r.val { shut r u with monitors := (closeRun r u).monitors } := by
  rw [show (closeRun r u).monitors = (clearRunMonitors r (shut r u)).monitors from by
    simp [closeRun, clearRunMonitors, shut]]
  rfl

theorem closeRun_dropFrame (r : RunId) (u : State) : closeRun r (dropFrame u) = dropFrame (closeRun r u) := by
  unfold closeRun raiseRun
  rw [dropFrame_raise]
  rfl

theorem closeRun_state (r : RunId) (u : State) : ((closeRun r u).run.get r).state = .out := by
  simp [closeRun]

theorem closeRun_monitor (r : RunId) (u : State) (m : Fin 16) :
    (closeRun r u).monitors.each.get m = if monitorRun m = some r then clearedMonitor else u.monitors.each.get m := by
  have cleared : (closeRun r u).monitors.each = { u.monitors.each with
      rate := u.monitors.each.rate.set r clearedMonitor, pressure := u.monitors.each.pressure.set r clearedMonitor
      temperature := u.monitors.each.temperature.set r clearedMonitor } := by
    simp [closeRun, clearRunMonitors]
  rw [cleared]
  unfold Sixteen.get monitorRun
  split
  case h_4 first second third =>
    have high : ¬ m.val < 12 := fun h => by
      have h0 : m.val / 4 ≠ 0 := first
      have h1 : m.val / 4 ≠ 1 := second
      have h2 : m.val / 4 ≠ 2 := third
      omega
    simp [high]
  all_goals
    have low : m.val < 12 := by omega
    simp [Four.get_set, low]

theorem closeRun_limitLock (r : RunId) (u : State) : (closeRun r u).monitors.limitLock = u.monitors.limitLock := by
  simp [closeRun, clearRunMonitors]

theorem runClose_done {x : State} {r : RunId} (hx : x.time.phase = .running) (hr : x.fitted r = true)
    (ho : (x.run.get r).state ≠ .out) :
    handleRunClose [byteOf r.val] x = accept [0] (closeRun r x) := by
  rw [handleRunClose, withRun_fitted hx hr]
  simp only [ho, if_false, closeRun_state]
  rfl

theorem runClose_wrongState {x : State} {r : RunId} (hx : x.time.phase = .running) (hr : x.fitted r = true)
    (ho : (x.run.get r).state = .out) : handleRunClose [byteOf r.val] x = refuse .wrongState x := by
  rw [handleRunClose, withRun_fitted hx hr]
  exact if_pos ho

/-- Settles O44: what RUN_OPEN and RUN_CLOSE do to the run, before its notice. -/
theorem runOpensAndCloses : Obligations.RunOpensAndCloses := by
  intro s u after tag r hu ht
  have hx : (dropFrame u).time.phase = .running := (takes_iff.mp ht).1
  refine ⟨fun hr ho hd => ?_, fun hr ho => ?_, fun hr h => ?_, fun hr ho => ?_, fun hr => ⟨?_, ?_⟩⟩
  · refine ⟨answered (okReply 0x10#8 tag (bytesLE 1 ((openRun r u).run.get r).state.code)) (openRun r u), ?_, ?_, fun he => ?_⟩
    · refine exec_done rfl rfl hu ht ((runOpen_done hx hr ho hd).trans ?_)
      rw [openRun_dropFrame]
      rfl
    · simp only [answered_run]
      exact congrArg _ (openRun_eq r u)
    · rw [openRun_eq]
      exact answered_given (runSubject_inRange r) rfl he
  · refine ⟨answered (okReply 0x11#8 tag [0]) (closeRun r u), ?_, ?_, ?_, fun m => ?_, fun he => ?_⟩
    · refine exec_done rfl rfl hu ht ((runClose_done hx hr ho).trans ?_)
      rw [closeRun_dropFrame]
    · rw [answered_monitors]
      exact congrArg _ (closeRun_eq r u)
    · rw [answered_monitors]
      exact closeRun_limitLock r u
    · rw [answered_monitors]
      exact closeRun_monitor r u m
    · rw [closeRun_eq]
      exact answered_given (runSubject_inRange r) rfl he
  · exact exec_refused rfl rfl hu ht (by decide) (runOpen_wrongState hx hr h)
  · exact exec_refused rfl rfl hu ht (by decide) (runClose_wrongState hx hr ho)
  · exact exec_refused rfl rfl hu ht (by decide) (withRun_noSubject hx hr)
  · exact exec_refused rfl rfl hu ht (by decide) (withRun_noSubject hx hr)

/-! ## Chapters 5.7 and 10.2: readings -/

/-- A number that fits its field is read back from its bytes. -/
theorem natLE_bytesLE {n v : Nat} (h : v < 256 ^ n) : natLE (bytesLE n v) = v := by
  induction n generalizing v with
  | zero =>
    rw [Nat.pow_zero] at h
    exact (Nat.lt_one_iff.mp h).symm
  | succ n ih =>
    have high : v / 256 < 256 ^ n := by
      rw [Nat.pow_succ] at h
      exact Nat.div_lt_of_lt_mul (by rwa [Nat.mul_comm])
    rw [bytesLE, natLE, ih high, BitVec.toNat_ofNat]
    omega

theorem fieldAt_bytesLE {n v : Nat} (h : v < 256 ^ n) : fieldAt (bytesLE n v) 0 n = v := by
  rw [fieldAt, List.drop_zero, take_bytesLE, natLE_bytesLE h]

theorem gasQuality_staged {x : State} {cv : Nat} (hx : x.time.phase = .running) (lo : 30000 ≤ cv) (hi : cv ≤ 50000) :
    handleGasQuality (bytesLE 2 cv) x = accept (bytesLE 2 x.settings.heatingValue ++ bytesLE 2 cv)
      (x.onSettings fun g => { g with stagedHeatingValue := some cv }) := by
  rw [handleGasQuality, checks_passed (n := 2) hx rfl, fieldAt_bytesLE (by omega)]
  simp [inRange, lo, hi]

theorem gasQuality_refused {x : State} {cv : Nat} (hx : x.time.phase = .running) (fits : cv ≤ 65535)
    (h : cv < 30000 ∨ 50000 < cv) : handleGasQuality (bytesLE 2 cv) x = refuse .badValue x := by
  rw [handleGasQuality, checks_passed (n := 2) hx rfl, fieldAt_bytesLE (by omega)]
  have outside : inRange 30000 50000 cv = false := by
    simp [inRange]
    omega
  simp [outside]

/-- An evaluation is the same with or without a change it neither reads nor makes. -/
theorem evaluate_commutes {change : State → State} {m : Fin 16} {u : State}
    (raised : ∀ c n x, raise c n (change x) = change (raise c n x))
    (set : ∀ y x, setMonitor m y (change x) = change (setMonitor m y x))
    (monitors : (change u).monitors = u.monitors) (settings : (change u).settings = u.settings)
    (stands : standing m (change u) = standing m u) (v : Nat) :
    evaluate m v (change u) = change (evaluate m v u) := by
  have notices : ∀ was is x, monitorNotices m was is (change x) = change (monitorNotices m was is x) :=
    fun was is x => by
      unfold monitorNotices
      dsimp only
      rw [raised, ← apply_ite change, raised, ← apply_ite change]
  unfold evaluate
  dsimp only
  rw [stands, monitors, settings, set, notices, ← apply_ite change]

/-- An evaluation plays no part in the frame being received. -/
theorem evaluate_dropFrame (m : Fin 16) (v : Nat) (u : State) : evaluate m v (dropFrame u) = dropFrame (evaluate m v u) :=
  evaluate_commutes (fun c n x => (dropFrame_raise c n x).symm) (fun _ _ => rfl) rfl rfl rfl v

theorem raise_onDose (c : NoticeClass) (n : Nat) (f : Dose → Dose) (s : State) :
    raise c n (s.onDose f) = (raise c n s).onDose f := by
  unfold raise
  rw [apply_ite (State.onDose f)]
  rfl

theorem evaluate_onDose (m : Fin 16) (v : Nat) (f : Dose → Dose) (u : State) :
    evaluate m v (u.onDose f) = (evaluate m v u).onDose f :=
  evaluate_commutes (change := State.onDose f) (fun c n x => raise_onDose c n f x) (fun _ _ => rfl) rfl rfl rfl v

/-- The trim a reading applied moves to (R94). -/
def trimmed (m : Nat) (u : State) : Nat :=
  max 8000 (min 12500
    (if m ≤ u.odorant.target then u.dose.trim + u.dose.trim * (u.odorant.target - m) / (8 * u.odorant.target)
     else u.dose.trim - u.dose.trim * (m - u.odorant.target) / (8 * u.odorant.target)))

theorem updatedTrim_eq (trim target m : Nat) : updatedTrim trim target m = max 8000 (min 12500
    (if m ≤ target then trim + trim * (target - m) / (8 * target) else trim - trim * (m - target) / (8 * target))) := by
  unfold updatedTrim truncated
  dsimp only
  split
  case isTrue h =>
    have step : ((trim : Int) * ((target : Int) - m)).tdiv ((8 * target : Nat) : Int)
        = ((trim * (target - m) / (8 * target) : Nat) : Int) := by
      rw [← Int.natCast_sub h, ← Int.natCast_mul, ← Int.ofNat_tdiv]
    rw [step]
    omega
  case isFalse h =>
    have step : ((trim : Int) * ((target : Int) - m)).tdiv ((8 * target : Nat) : Int)
        = - ((trim * (m - target) / (8 * target) : Nat) : Int) := by
      rw [← Int.neg_sub, ← Int.natCast_sub (Nat.le_of_not_le h), Int.mul_neg, Int.neg_tdiv, ← Int.natCast_mul,
        ← Int.ofNat_tdiv]
    rw [step]
    omega

/-- The controller after a reading, before its notice (R93, R94). -/
def readingTaken (m : Nat) (u : State) : Dose :=
  if trimFlag m u = .applied then
    { u.dose with
      lastReading := some (m, .applied)
      trimHoldOff := some (u.now + BitVec.ofNat 32 (u.odorant.trimHoldOff * 1000)), trim := trimmed m u }
  else { u.dose with lastReading := some (m, trimFlag m u) }

theorem takeReading_eq (m : Nat) (u : State) : takeReading m u
    = if trimFlag m u = .applied then raise .dosing 0 (u.onDose fun _ => readingTaken m u)
      else u.onDose fun _ => readingTaken m u := by
  unfold takeReading readingTaken
  dsimp only
  split
  case isTrue applied =>
    rw [applied, show trimmed m u = _ from (updatedTrim_eq _ _ _).symm]
    rfl
  case isFalse => rfl

theorem readingTaken_cases (m : Nat) (u : State) :
    if u.dose.mode ≠ .auto then
      trimFlag m u = .notAuto ∧ readingTaken m u = { u.dose with lastReading := some (m, .notAuto) }
    else if m = 0 ∨ 3 * u.odorant.target < m then
      trimFlag m u = .implausible ∧ readingTaken m u = { u.dose with lastReading := some (m, .implausible) }
    else if u.dose.trimHoldOff ≠ none then
      trimFlag m u = .held ∧ readingTaken m u = { u.dose with lastReading := some (m, .held) }
    else
      trimFlag m u = .applied
        ∧ readingTaken m u = { u.dose with
            lastReading := some (m, .applied)
            trimHoldOff := some (u.now + BitVec.ofNat 32 (u.odorant.trimHoldOff * 1000)), trim := trimmed m u } := by
  have flag : ∀ f, trimFlag m u = f → f ≠ .applied →
      trimFlag m u = f ∧ readingTaken m u = { u.dose with lastReading := some (m, f) } := fun f hf ha => by
    subst hf
    exact ⟨rfl, if_neg ha⟩
  split
  · exact flag .notAuto (by simp_all [trimFlag]) (by decide)
  · split
    · exact flag .implausible (by simp_all [trimFlag]) (by decide)
    · split
      · exact flag .held (by simp_all [trimFlag, Option.isSome_iff_ne_none]) (by decide)
      · have applied : trimFlag m u = .applied := by simp_all [trimFlag]
        exact ⟨applied, if_pos applied⟩

/-- What ANALYSER_READING does: M15 evaluated, then the trim (R93, R94). -/
def readingWork (m : Nat) (u : State) : State :=
  if trimFlag m u = .applied then raise .dosing 0 (evaluate 15 m { u with dose := readingTaken m u })
  else evaluate 15 m { u with dose := readingTaken m u }

theorem takeReading_evaluate (m : Nat) (u : State) : takeReading m (evaluate 15 m u) = readingWork m u := by
  have odorant : (evaluate 15 m u).odorant = u.odorant := by simp [State.odorant]
  have now : (evaluate 15 m u).now = u.now := by simp [State.now]
  have flag : trimFlag m (evaluate 15 m u) = trimFlag m u := by simp only [trimFlag, evaluate_dose, odorant]
  have taken : readingTaken m (evaluate 15 m u) = readingTaken m u := by
    simp only [readingTaken, flag, trimmed, evaluate_dose, odorant, now]
  rw [takeReading_eq, flag, taken, ← evaluate_onDose]
  rfl

theorem readingWork_dropFrame (m : Nat) (u : State) : readingWork m (dropFrame u) = dropFrame (readingWork m u) := by
  rw [← takeReading_evaluate, evaluate_dropFrame, ← takeReading_evaluate, takeReading_eq, takeReading_eq]
  rw [apply_ite dropFrame, dropFrame_raise]
  rfl

@[simp] theorem readingWork_dose (m : Nat) (u : State) : (readingWork m u).dose = readingTaken m u := by
  unfold readingWork
  split <;> simp

theorem readingWork_monitors (m : Nat) (u : State) :
    (readingWork m u).monitors = (evaluate 15 m u).monitors := by
  have kept : (evaluate 15 m { u with dose := readingTaken m u }).monitors = (evaluate 15 m u).monitors :=
    (congrArg State.monitors (evaluate_onDose 15 m (fun _ => readingTaken m u) u)).trans (State.onDose_monitors ..)
  unfold readingWork
  split <;> simp [kept]

theorem analyserReading_done {x : State} {m : Nat} (hx : x.time.phase = .running) (fits : m ≤ 65535) :
    handleAnalyserReading (bytesLE 2 m) x
      = accept (bytesLE 1 (trimFlag m x).code ++ bytesLE 2 (readingWork m x).dose.trim) (readingWork m x) := by
  rw [handleAnalyserReading, checks_passed (n := 2) hx rfl, fieldAt_bytesLE (by omega)]
  simp only [takeReading_evaluate]

/-- M15 has no channel and no run: it is evaluated when enabled (R151). -/
theorem standing_m15 (u : State) :
    standing 15 u = if (u.settings.active.monitors.get 15).enabled then .evaluated else .disabled := by
  unfold standing
  cases (u.settings.active.monitors.get 15).enabled <;> rfl

/-- Only M15 is evaluated on a reading, and only when it is enabled (R151). -/
theorem evaluate15_monitors (m : Nat) (u : State) :
    (∀ i, i ≠ 15 → (evaluate 15 m u).monitors.each.get i = u.monitors.each.get i)
      ∧ (evaluate 15 m u).monitors.limitLock = u.monitors.limitLock
      ∧ ((u.settings.active.monitors.get 15).enabled = true → (evaluate 15 m u).monitors.each.get 15
          = evaluated true (u.settings.active.monitors.get 15) m (u.monitors.each.get 15))
      ∧ ((u.settings.active.monitors.get 15).enabled = false → (evaluate 15 m u).monitors = u.monitors) := by
  have stands := standing_m15 u
  by_cases h : (u.settings.active.monitors.get 15).enabled = true
  · rw [if_pos h] at stands
    rw [evaluate_monitors stands]
    exact ⟨fun i other => by simp [Sixteen.get_set, other], rfl, fun _ => Sixteen.get_set_same u.monitors.each 15 _, fun e => by simp [h] at e⟩
  · rw [if_neg h] at stands
    have kept : evaluate 15 m u = u := if_neg (by rw [stands]; decide)
    rw [kept]
    exact ⟨fun _ _ => rfl, rfl, fun e => absurd e h, fun _ => rfl⟩

theorem readingWork_given {f : Frame} {m : Nat} {u : State} (applied : trimFlag m u = .applied)
    (he : u.settings.active.station.enables.dosing = true) : noticeGiven .dosing 0 u (answered f (readingWork m u)) = true := by
  rw [readingWork, if_pos applied]
  exact answered_given rfl (by simp) (by simpa [NoticeEnables.get] using he)

/-- Settles O45: a reading's evaluation and its trim do not read each other's work. -/
theorem readingsTaken : Obligations.ReadingsTaken := by
  refine ⟨fun s u after cv tag hu ht => ⟨fun lo hi => ?_, fun fits h => ?_⟩, fun s u after m tag hu ht fits => ?_⟩
  · exact exec_done rfl rfl hu ht (gasQuality_staged (x := dropFrame u) (takes_iff.mp ht).1 lo hi)
  · exact exec_refused rfl rfl hu ht (by decide) (gasQuality_refused (takes_iff.mp ht).1 fits h)
  · obtain ⟨others, lock, enabled, disabled⟩ := evaluate15_monitors m u
    refine ⟨answered (okReply 0x14#8 tag (bytesLE 1 (trimFlag m u).code ++ bytesLE 2 (readingTaken m u).trim))
      (readingWork m u), trimFlag m u, ?_, ?_, ?_, ?_, ?_, ?_, ?_⟩
    · refine exec_done rfl rfl hu ht ((analyserReading_done (x := dropFrame u) (takes_iff.mp ht).1 fits).trans ?_)
      rw [readingWork_dropFrame]
      simp only [dropFrame_dose, readingWork_dose]
      rfl
    · simp only [answered_dose, readingWork_dose]
      rfl
    · rw [answered_monitors, readingWork_monitors]
      exact others
    · rw [answered_monitors, readingWork_monitors]
      exact lock
    · rw [answered_monitors, readingWork_monitors]
      exact enabled
    · rw [answered_monitors, readingWork_monitors]
      exact disabled
    · have cases := readingTaken_cases m u
      simp only [answered_dose, readingWork_dose]
      by_cases auto : u.dose.mode ≠ .auto
      · rw [if_pos auto] at cases ⊢
        exact cases
      · rw [if_neg auto] at cases ⊢
        by_cases plausible : m = 0 ∨ 3 * u.odorant.target < m
        · rw [if_pos plausible] at cases ⊢
          exact cases
        · rw [if_neg plausible] at cases ⊢
          by_cases held : u.dose.trimHoldOff ≠ none
          · rw [if_pos held] at cases ⊢
            exact cases
          · rw [if_neg held] at cases ⊢
            exact ⟨cases.1, cases.2, readingWork_given cases.1⟩

end Sys2Proof.Proofs.Orders
end

section
/-! PROOFS. The dose controller and the pumps: the scheduling check, DOSE_MODE, MANUAL_STROKE and PUMP_RESET (chapters 5 to 7). -/

namespace Sys2Proof.Proofs.Dosing

open Sys2Proof Sys2Proof.Machine Sys2Proof.Proofs.Arms Sys2Proof.Proofs.Steps Sys2Proof.Proofs.Requests
  Sys2Proof.Proofs.Orders

/-! ## Places of the action table -/

theorem at_none_iff {t : ActionTable} {id : Nat} (h : id < t.places.length) : t.at id = none ↔ t.places[id]? = some none := by
  simp [ActionTable.at, List.getElem?_eq_getElem h]

/-- The lowest free id (R121). -/
theorem lowestFree_spec {l : List (Option Entry)} (h : l.countP Option.isSome < l.length) :
    ∃ id, lowestFree l = some id ∧ id < l.length ∧ l[id]? = some none ∧ ∀ j, j < id → ∃ e, l[j]? = some (some e) := by
  induction l with
  | nil => simp at h
  | cons x rest ih =>
    cases x with
    | none => exact ⟨0, rfl, by simp, rfl, fun j hj => absurd hj (Nat.not_lt_zero j)⟩
    | some e =>
      obtain ⟨id, low, bound, free, below⟩ := ih (by simpa using h)
      refine ⟨id + 1, by simp [lowestFree, low], by simpa using bound, by simpa using free, fun j hj => ?_⟩
      cases j with
      | zero => exact ⟨e, rfl⟩
      | succ j => exact below j (by omega)

/-- An entry placed in a table that is not full takes the lowest free id. -/
theorem place_lowest {t : ActionTable} (h : t.count (fun _ => true) < t.places.length) (e : Entry) :
    ∃ id, lowestFree t.places = some id ∧ id < t.places.length ∧ t.at id = none ∧ (∀ j, j < id → t.at j ≠ none)
      ∧ t.place e = { t with places := t.places.set id (some e) } := by
  have count : t.places.countP Option.isSome < t.places.length := by
    simpa [ActionTable.count, Option.any_true] using h
  obtain ⟨id, low, bound, free, below⟩ := lowestFree_spec count
  refine ⟨id, low, bound, by simp [ActionTable.at, free], fun j hj => ?_, by simp [ActionTable.place, low]⟩
  obtain ⟨x, hx⟩ := below j hj
  simp [ActionTable.at, hx]

theorem drop_any (test : Entry → Bool) (t : ActionTable) : (t.drop test).any test = false := by
  simp [ActionTable.drop, ActionTable.any, Option.any_filter]

theorem drop_count (test gone : Entry → Bool) (t : ActionTable) :
    (t.drop gone).count test = t.count fun e => test e && !gone e := by
  simp only [ActionTable.drop, ActionTable.count, List.countP_map]
  refine List.countP_congr fun x _ => ?_
  cases x with
  | none => simp
  | some e => cases h : gone e <;> simp [h]

/-! ## The scheduling check (R85) -/

theorem strokeOwed_iff (s : State) : strokeOwed s = true ↔
    s.dose.mode = .auto ∧ s.dose.state = .armed ∧ (s.pump.get s.dose.duty).state = .ready
      ∧ s.odorant.strokeMass ≤ s.dose.account := by
  simp [strokeOwed, State.pumpReady, State.duty, and_assoc]

/-- The STROKE entry of a stroke owed now (R85, R86). -/
def strokeEntry (s : State) : Entry :=
  { owner := .dosing, kind := .stroke, target := Side.code s.dose.duty, due := strokeDue s }

theorem schedulingCheck_owed {s : State} (h : strokeOwed s = true) : schedulingCheck s =
    { s with table := s.table.place (strokeEntry s)
             dose := { s.dose with state := .strokeWait, massInFlight := s.odorant.strokeMass } } :=
  if_pos h

theorem schedulingCheck_notOwed {s : State} (h : strokeOwed s ≠ true) : schedulingCheck s = s := if_neg h

theorem schedulingCheck_dropFrame (s : State) : schedulingCheck (dropFrame s) = dropFrame (schedulingCheck s) := by
  by_cases h : strokeOwed s = true
  · exact (schedulingCheck_owed (s := dropFrame s) h).trans (congrArg dropFrame (schedulingCheck_owed h)).symm
  · exact (schedulingCheck_notOwed (s := dropFrame s) h).trans (congrArg dropFrame (schedulingCheck_notOwed h)).symm

/-- A notice raised changes the link alone. -/
theorem raise_eq (c : NoticeClass) (n : Nat) (s : State) : raise c n s = { s with link := (raise c n s).link } := by
  unfold raise
  split <;> rfl

theorem schedulingCheck_raise (c : NoticeClass) (n : Nat) (s : State) :
    schedulingCheck (raise c n s) = raise c n (schedulingCheck s) := by
  have owed : strokeOwed (raise c n s) = strokeOwed s := by
    rw [raise_eq]
    rfl
  by_cases h : strokeOwed s = true
  · rw [schedulingCheck_owed (owed.trans h), schedulingCheck_owed h]
    unfold raise
    split <;> rfl
  · rw [schedulingCheck_notOwed (owed ▸ h), schedulingCheck_notOwed h]

theorem schedulingCheck_of_not_armed {s : State} (h : s.dose.state ≠ .armed) : schedulingCheck s = s :=
  schedulingCheck_notOwed fun e => h ((strokeOwed_iff s).mp e).2.1

theorem schedulingCheck_armed {s : State} (h : s.dose.state = .armed) :
    (schedulingCheck s).dose.state = .armed ∨ (schedulingCheck s).dose.state = .strokeWait := by
  by_cases owed : strokeOwed s = true
  · rw [schedulingCheck_owed owed]
    exact .inr rfl
  · rw [schedulingCheck_notOwed owed]
    exact .inl h

/-- The check leaves the account, the trim, the mode and the duty. -/
theorem schedulingCheck_dose (s : State) :
    (schedulingCheck s).dose = { s.dose with state := (schedulingCheck s).dose.state
                                             massInFlight := (schedulingCheck s).dose.massInFlight } := by
  by_cases h : strokeOwed s = true
  · rw [schedulingCheck_owed h]
  · rw [schedulingCheck_notOwed h]

/-! ## DOSE_MODE -/

section Mode

variable (u : State)

/-- The duty as AUTO is entered (R90). -/
theorem autoDuty_eq : autoDuty u
    = if (u.pump.get u.dose.duty).state ≠ .ready ∧ (u.pump.get u.dose.duty.other).state = .ready
      then u.dose.duty.other else u.dose.duty := by
  simp [autoDuty, State.pumpReady, State.duty]

/-- AUTO entered (R84). -/
theorem enterAuto_eq : enterAuto u = { u with
    dose := { u.dose with
      mode := .auto, duty := autoDuty u, state := if (u.pump.get (autoDuty u)).state = .ready then .armed else .fault }
    recorder := { u.recorder with station :=
      { u.recorder.station with modes := { u.recorder.station.modes with auto := true } } } } := by
  have ready : (if u.pumpReady (autoDuty u) then DosingState.armed else .fault)
      = if (u.pump.get (autoDuty u)).state = .ready then .armed else .fault := by simp [State.pumpReady]
  rw [← ready]
  rfl

/-- What AUTO is entered with (R84, R85). -/
theorem changeMode_auto : changeMode .auto u = raise .dosing 0 (schedulingCheck (enterAuto u)) := rfl

theorem changeMode_auto_dropFrame : changeMode .auto (dropFrame u) = dropFrame (changeMode .auto u) := by
  rw [changeMode_auto, changeMode_auto, dropFrame_raise, ← schedulingCheck_dropFrame]
  rfl

/-- OFF or MANUAL entered from another mode (R84). -/
def leftAuto (m : DosingMode) (u : State) : State :=
  { u with
    dose := { u.dose with
      mode := m, state := .idle, account := 0
      massInFlight := if u.dose.state = .strokeWait then 0 else u.dose.massInFlight }
    table := if u.dose.state = .strokeWait then u.table.drop isStroke else u.table
    recorder := { u.recorder with station :=
      { u.recorder.station with
        forgone := u.recorder.station.forgone + u.dose.account
        modes := u.recorder.station.modes.mark m } } }

theorem leftAuto_eq (m : DosingMode) : setMode m (setDosingState .idle
    (forgoAccount (if u.dose.state = .strokeWait then withdrawStroke u else u))) = leftAuto m u := by
  unfold leftAuto
  by_cases wait : u.dose.state = .strokeWait
  · simp only [if_pos wait, setMode, setDosingState, forgoAccount, withdrawStroke, onStation, State.onDose, State.onTable,
      State.onRecorder]
  · simp only [if_neg wait, setMode, setDosingState, forgoAccount, onStation, State.onDose, State.onRecorder]

theorem changeMode_other {m : DosingMode} (h : m ≠ .auto) : changeMode m u = raise .dosing 0 (leftAuto m u) := by
  rw [← leftAuto_eq]
  cases m
  case auto => exact absurd rfl h
  all_goals rfl

theorem leftAuto_table {m : DosingMode} : (u.dose.state ≠ .strokeWait → (leftAuto m u).table = u.table)
    ∧ (u.dose.state = .strokeWait → (leftAuto m u).table.any isStroke = false ∧ (leftAuto m u).table.aux = u.table.aux
        ∧ (leftAuto m u).table.count isLink = u.table.count fun e => isLink e && !isStroke e) := by
  refine ⟨fun h => if_neg h, fun h => ?_⟩
  rw [show (leftAuto m u).table = u.table.drop isStroke from if_pos h]
  exact ⟨drop_any isStroke u.table, rfl, drop_count isLink isStroke u.table⟩

/-- What the check makes of a duty pump just chosen (R84, R85). -/
theorem enterAuto_check : let v := schedulingCheck (enterAuto u)
    ((u.pump.get (autoDuty u)).state ≠ .ready → v.dose.state = .fault ∧ v.table = u.table)
      ∧ ((u.pump.get (autoDuty u)).state = .ready → u.dose.account < u.odorant.strokeMass →
          v.dose.state = .armed ∧ v.table = u.table)
      ∧ ((u.pump.get (autoDuty u)).state = .ready → u.odorant.strokeMass ≤ u.dose.account →
          v.dose.state = .strokeWait ∧ v.dose.massInFlight = u.odorant.strokeMass) := by
  intro v
  have owed := strokeOwed_iff (enterAuto u)
  have entered := enterAuto_eq u
  refine ⟨fun h => ?_, fun h less => ?_, fun h enough => ?_⟩
  · have state : (enterAuto u).dose.state = .fault := by rw [entered]; exact if_neg h
    have idle : strokeOwed (enterAuto u) ≠ true := fun e => by
      rw [state] at owed
      exact absurd (owed.mp e).2.1 (by decide)
    rw [show v = _ from schedulingCheck_notOwed idle]
    exact ⟨state, by rw [entered]⟩
  · have state : (enterAuto u).dose.state = .armed := by rw [entered]; exact if_pos h
    have idle : strokeOwed (enterAuto u) ≠ true := fun e => by
      obtain ⟨_, _, _, mass⟩ := owed.mp e
      rw [entered] at mass
      exact absurd mass (Nat.not_le.mpr less)
    rw [show v = _ from schedulingCheck_notOwed idle]
    exact ⟨state, by rw [entered]⟩
  · have due : strokeOwed (enterAuto u) = true := by
      rw [owed, entered]
      exact ⟨rfl, if_pos h, h, enough⟩
    rw [show v = _ from schedulingCheck_owed due, entered]
    exact ⟨rfl, rfl⟩

theorem dosingMode_code (m : DosingMode) : dosingMode? m.code = some m := by cases m <;> rfl

theorem mode_code_le (m : DosingMode) : m.code ≤ 255 := by cases m <;> decide

variable {u}

theorem doseMode_busy {x : State} {m : DosingMode} (hx : x.time.phase = .running)
    (h : x.dose.state = .confirmWait ∨ x.dose.state = .manualWait) :
    handleDoseMode [byteOf m.code] x = refuse .busy x := by
  rw [handleDoseMode, checks_passed (n := 1) hx rfl, fieldAt_byteOf (mode_code_le m), dosingMode_code]
  exact if_pos h

theorem doseMode_wrongState {x : State} (hx : x.time.phase = .running) (hc : x.dose.state ≠ .confirmWait)
    (hm : x.dose.state ≠ .manualWait) (hd : x.settings.defaulted.odorant = true) :
    handleDoseMode [1] x = refuse .wrongState x := by
  rw [handleDoseMode, checks_passed (n := 1) hx rfl]
  exact (if_neg (not_or.mpr ⟨hc, hm⟩)).trans (if_pos ⟨rfl, hd⟩)

theorem doseMode_done {x : State} {m : DosingMode} (hx : x.time.phase = .running) (hc : x.dose.state ≠ .confirmWait)
    (hm : x.dose.state ≠ .manualWait) (hd : m = .auto → x.settings.defaulted.odorant = false) :
    handleDoseMode [byteOf m.code] x =
      accept (bytesLE 1 (if m = x.dose.mode then x else changeMode m x).dose.mode.code
        ++ bytesLE 1 (if m = x.dose.mode then x else changeMode m x).dose.state.code)
        (if m = x.dose.mode then x else changeMode m x) := by
  have allowed : ¬ (m = .auto ∧ x.settings.defaulted.odorant = true) := fun ⟨auto, e⟩ => by
    rw [hd auto] at e
    cases e
  rw [handleDoseMode, checks_passed (n := 1) hx rfl, fieldAt_byteOf (mode_code_le m), dosingMode_code]
  exact (if_neg (not_or.mpr ⟨hc, hm⟩)).trans (if_neg allowed)

end Mode

theorem requestReported {c : Instr} {kind tag : Byte} {payload d : List Byte} {s u : State}
    (hf : c.frame? = some ⟨kind, tag, payload⟩) (hc : c.custody? = none) (hu : s.elapse c.after = u)
    (ht : u.takes = true) (ha : handles c ⟨kind, tag, payload⟩ (dropFrame u) = accept d (dropFrame u)) :
    ReportGiven s u c kind tag d := by
  unfold ReportGiven
  rw [exec_done hf hc hu ht ha, hc]
  rfl

/-- What DOSE_MODE leaves of the controller as AUTO is entered. -/
theorem checked_dose (u : State) : let v := schedulingCheck (enterAuto u)
    v.dose.mode = .auto ∧ v.dose.account = u.dose.account ∧ v.dose.trim = u.dose.trim ∧ v.dose.duty = autoDuty u := by
  intro v
  have dose := schedulingCheck_dose (enterAuto u)
  have entered := enterAuto_eq u
  rw [show v.dose = _ from dose]
  exact ⟨by rw [entered], by rw [entered], by rw [entered], by rw [entered]⟩

theorem exec_doseMode_auto {s u : State} {after : Nat} {tag : Byte} (hu : s.elapse after = u) (ht : u.takes = true)
    (ha : u.dose.mode ≠ .auto) (hc : u.dose.state ≠ .confirmWait) (hm : u.dose.state ≠ .manualWait)
    (hd : u.settings.defaulted.odorant = false) :
    exec (.doseMode after tag [1]) s = .next (answered (okReply 0x15#8 tag
      (bytesLE 1 1 ++ bytesLE 1 (schedulingCheck (enterAuto u)).dose.state.code))
      (raise .dosing 0 (schedulingCheck (enterAuto u)))) := by
  obtain ⟨mode, _⟩ := checked_dose u
  have other : ¬ DosingMode.auto = (dropFrame u).dose.mode := fun e => ha e.symm
  have done := doseMode_done (x := dropFrame u) (m := .auto) (takes_iff.mp ht).1 hc hm fun _ => hd
  rw [if_neg other, changeMode_auto_dropFrame, dropFrame_dose, changeMode_auto, raise_dose, mode] at done
  exact exec_done rfl rfl hu ht done

theorem exec_doseMode_other {s u : State} {after : Nat} {tag : Byte} {m : DosingMode} (hu : s.elapse after = u)
    (ht : u.takes = true) (ha : m ≠ .auto) (hn : m ≠ u.dose.mode) (hc : u.dose.state ≠ .confirmWait)
    (hm : u.dose.state ≠ .manualWait) :
    exec (.doseMode after tag [byteOf m.code]) s = .next (answered (okReply 0x15#8 tag
      (bytesLE 1 m.code ++ bytesLE 1 0)) (raise .dosing 0 (leftAuto m u))) := by
  have done := doseMode_done (x := dropFrame u) (m := m) (takes_iff.mp ht).1 hc hm fun e => absurd e ha
  rw [if_neg (show ¬ m = (dropFrame u).dose.mode from hn), changeMode_other _ ha,
    show leftAuto m (dropFrame u) = dropFrame (leftAuto m u) from rfl, ← dropFrame_raise, dropFrame_dose, raise_dose] at done
  exact exec_done rfl rfl hu ht done

/-- Settles O46: AUTO is entered with its duty and the check; the other modes drop the account and a waiting stroke. -/
theorem doseModeChanges : Obligations.DoseModeChanges := by
  intro s u after tag hu ht
  have hx : (dropFrame u).time.phase = .running := (takes_iff.mp ht).1
  refine ⟨fun ha hc hm hd => ?_, fun m ha hn hc hm => ?_, fun hc hm hd => ?_, fun m h => ?_, fun hc hm hd => ?_⟩
  · refine ⟨_, exec_doseMode_auto hu ht ha hc hm hd, ?_, ?_, ?_⟩
    all_goals simp only [answered_dose, answered_table, raise_dose, raise_table]
    · rw [enterAuto_eq, autoDuty_eq]
    · exact (checked_dose u).1
    · obtain ⟨_, account, trim, duty⟩ := checked_dose u
      obtain ⟨faulty, less, enough⟩ := enterAuto_check u
      have chosen := autoDuty_eq u
      rw [duty]
      refine ⟨account, trim, fun h => ?_, fun h other => ?_, faulty, less, enough, fun he => answered_given rfl ?_ ?_⟩
      · rw [chosen, if_neg fun e => e.1 h]
      · rw [chosen, if_pos ⟨h, other⟩]
      · simp [enterAuto]
      · simpa [enterAuto, NoticeEnables.get] using he
  · obtain ⟨kept, withdrawn⟩ := leftAuto_table u (m := m)
    refine ⟨_, exec_doseMode_other hu ht ha hn hc hm, rfl, ?_, ?_, fun he => answered_given rfl rfl he⟩
    all_goals simp only [answered_table, raise_table]
    · exact kept
    · exact withdrawn
  · refine requestReported rfl rfl hu ht ((doseMode_done hx hc hm hd).trans ?_)
    rw [if_pos (show u.dose.mode = (dropFrame u).dose.mode from rfl)]
    rfl
  · exact exec_refused rfl rfl hu ht (by decide) (doseMode_busy hx h)
  · exact exec_refused rfl rfl hu ht (by decide) (doseMode_wrongState hx hc hm hd)

/-! ## A pump that becomes READY (R90, R91) -/

theorem addNotice_addNotice (n : Notice) (l : List Notice) : addNotice n (addNotice n l) = addNotice n l := by
  induction l with
  | nil => simp [addNotice]
  | cons m rest ih =>
    by_cases same : n = m
    · simp [addNotice, same]
    · by_cases before : n.rank < m.rank
      · simp [addNotice, same, before]
      · simp [addNotice, same, before, ih]

theorem raise_raise (c : NoticeClass) (n : Nat) (s : State) : raise c n (raise c n s) = raise c n s := by
  by_cases h : s.settings.active.station.enables.get c = true
  · simp [raise, h, addNotice_addNotice, State.onLink]
  · simp [raise, h]

/-- The controller once the pump is READY: its duty (R90), and FAULT ended (R91). -/
def readied (p : Side) (s : State) : State :=
  { s with dose := { s.dose with
      duty := if (s.pump.get s.dose.duty).state = .ready ∨ s.dose.state = .confirmWait then s.dose.duty else p
      state := if s.dose.state = .fault then .armed else s.dose.state } }

/-- A notice is the same with or without a change it neither reads nor makes. -/
theorem raise_commutes {change : State → State} {s : State} (settings : (change s).settings = s.settings)
    (link : ∀ f, (change s).onLink f = change (s.onLink f)) (c : NoticeClass) (n : Nat) :
    raise c n (change s) = change (raise c n s) := by
  unfold raise
  rw [settings, link, apply_ite change]

theorem readied_raise (p : Side) (c : NoticeClass) (n : Nat) (s : State) :
    readied p (raise c n s) = raise c n (readied p s) :=
  (raise_commutes (change := readied p) rfl (fun _ => rfl) c n).symm

/-- A pump that becomes READY may take the duty and end FAULT, and the check is made. -/
theorem pumpBecameReady_work (p : Side) (s : State) : pumpBecameReady p s
    = if s.dose.state = .fault then raise .dosing 0 (schedulingCheck (readied p s))
      else schedulingCheck (readied p s) := by
  have duty : (if !s.pumpReady s.duty && s.dose.state != .confirmWait then s.onDose fun d => { d with duty := p } else s)
      = s.onDose fun d => { d with
          duty := if (s.pump.get s.dose.duty).state = .ready ∨ s.dose.state = .confirmWait then s.dose.duty else p } := by
    by_cases kept : (s.pump.get s.dose.duty).state = .ready ∨ s.dose.state = .confirmWait
    · have stays : ¬ (!s.pumpReady s.duty && s.dose.state != .confirmWait) = true := by
        simpa [State.pumpReady, State.duty, or_iff_not_imp_left] using kept
      rw [if_neg stays]
      simp only [if_pos kept]
      rfl
    · have moves : (!s.pumpReady s.duty && s.dose.state != .confirmWait) = true := by
        simpa [State.pumpReady, State.duty, or_iff_not_imp_left] using kept
      rw [if_pos moves]
      simp only [if_neg kept]
  unfold pumpBecameReady
  dsimp only
  rw [duty]
  by_cases fault : s.dose.state = .fault
  · refine (congrArg schedulingCheck (if_pos fault)).trans ?_
    rw [if_pos fault, raiseDosing, schedulingCheck_raise]
    refine congrArg _ (congrArg _ ?_)
    simp only [readied, if_pos fault]
    rfl
  · refine (congrArg schedulingCheck (if_neg fault)).trans ?_
    rw [if_neg fault]
    refine congrArg _ ?_
    simp only [readied, if_neg fault]
    rfl

/-! ## MANUAL_STROKE and PUMP_RESET -/

theorem resetPump_eq (p : Side) (u : State) : resetPump p u = raise .dosing 0 (schedulingCheck (readied p { u with
    pump := u.pump.set p { u.pump.get p with state := .ready, misses := 0, strays := 0 } })) := by
  rw [resetPump, raiseDosing, pumpBecameReady_work, readied_raise, schedulingCheck_raise, raise_raise, ite_self]
  rfl

/-- PUMP_RESET of a FAILED pump, before its notice (R90, R91, R115). -/
def reset (p : Side) (u : State) : State :=
  { u with
    pump := u.pump.set p { u.pump.get p with state := .ready, misses := 0, strays := 0 }
    dose := { u.dose with
      duty := if (u.pump.get u.dose.duty).state = .ready ∨ u.dose.state = .confirmWait then u.dose.duty else p
      state := if u.dose.state = .fault then .armed else u.dose.state } }

/-- A pump that is not READY when it is reset takes the duty when it has it. -/
theorem readied_reset {p : Side} {u : State} (h : (u.pump.get p).state ≠ .ready) : readied p { u with
    pump := u.pump.set p { u.pump.get p with state := .ready, misses := 0, strays := 0 } } = reset p u := by
  unfold readied reset
  by_cases own : u.dose.duty = p
  · subst own
    simp
  · simp [Two.get_set, own]

theorem manualDrive_eq (p : Side) (u : State) : manualDrive p u = { u with
    pump := u.pump.set p
      { u.pump.get p with
        state := .driving, line := true, confirmedInDrive := false
        driveEnd := some (u.now + BitVec.ofNat 32 u.odorant.driveWidth) }
    dose := { u.dose with
      state := .manualWait, massInFlight := u.odorant.strokeMass, lastDrive := some u.now, recentDrive := true }
    table := u.table.place
      { owner := .dosing, kind := .confirm, target := Side.code p
        due := u.now + BitVec.ofNat 32 u.odorant.confirmWindow } } := rfl

section Pumps

variable {x : State} {p : Side}

theorem manualStroke_done (hx : x.time.phase = .running) (hp : x.pumpIsFitted p = true) (hm : x.dose.mode = .manual)
    (hw : x.dose.state ≠ .manualWait) (ha : x.pump.a.line = false) (hb : x.pump.b.line = false)
    (hr : (x.pump.get p).state = .ready) : handleManualStroke [byteOf (Side.code p)] x
      = accept (bytesLE 1 (Side.code p) ++ bytesLE 4 (x.now + BitVec.ofNat 32 x.odorant.driveWidth).toNat
          ++ bytesLE 4 (x.now + BitVec.ofNat 32 x.odorant.confirmWindow).toNat) (manualDrive p x) := by
  rw [handleManualStroke, withPump_fitted hx hp]
  have ready : ¬ x.pumpReady p = false := by simp [State.pumpReady, hr]
  have idle : ¬ (x.dose.state = .manualWait ∨ x.pump.a.line = true ∨ x.pump.b.line = true) := by simp [hw, ha, hb]
  exact (if_neg (not_not_intro hm)).trans ((if_neg idle).trans (if_neg ready))

theorem manualStroke_notManual (hx : x.time.phase = .running) (hp : x.pumpIsFitted p = true)
    (hm : x.dose.mode ≠ .manual) : handleManualStroke [byteOf (Side.code p)] x = refuse .wrongState x := by
  rw [handleManualStroke, withPump_fitted hx hp]
  exact if_pos hm

theorem manualStroke_busy (hx : x.time.phase = .running) (hp : x.pumpIsFitted p = true) (hm : x.dose.mode = .manual)
    (h : x.dose.state = .manualWait ∨ x.pump.a.line = true ∨ x.pump.b.line = true) :
    handleManualStroke [byteOf (Side.code p)] x = refuse .busy x := by
  rw [handleManualStroke, withPump_fitted hx hp]
  exact (if_neg (not_not_intro hm)).trans (if_pos h)

theorem manualStroke_notReady (hx : x.time.phase = .running) (hp : x.pumpIsFitted p = true) (hm : x.dose.mode = .manual)
    (hw : x.dose.state ≠ .manualWait) (ha : x.pump.a.line = false) (hb : x.pump.b.line = false)
    (hr : (x.pump.get p).state ≠ .ready) : handleManualStroke [byteOf (Side.code p)] x = refuse .wrongState x := by
  rw [handleManualStroke, withPump_fitted hx hp]
  simp [hm, hw, ha, hb, State.pumpReady, hr]

theorem pumpReset_done (hx : x.time.phase = .running) (hp : x.pumpIsFitted p = true)
    (hf : (x.pump.get p).state = .failed) (hl : (x.pump.get p).line = false) :
    handlePumpReset [byteOf (Side.code p)] x
      = accept (bytesLE 1 ((resetPump p x).pump.get p).state.code ++ bytesLE 1 (Side.code (resetPump p x).dose.duty))
          (resetPump p x) := by
  rw [handlePumpReset, withPump_fitted hx hp]
  simp [hf, hl]

theorem pumpReset_notFailed (hx : x.time.phase = .running) (hp : x.pumpIsFitted p = true)
    (hf : (x.pump.get p).state ≠ .failed) : handlePumpReset [byteOf (Side.code p)] x = refuse .wrongState x := by
  rw [handlePumpReset, withPump_fitted hx hp]
  exact if_pos hf

theorem pumpReset_busy (hx : x.time.phase = .running) (hp : x.pumpIsFitted p = true)
    (hf : (x.pump.get p).state = .failed) (hl : (x.pump.get p).line = true) :
    handlePumpReset [byteOf (Side.code p)] x = refuse .busy x := by
  rw [handlePumpReset, withPump_fitted hx hp]
  simp [hf, hl]

end Pumps

theorem exec_pumpReset {s u : State} {after : Nat} {tag : Byte} {p : Side} (hu : s.elapse after = u) (ht : u.takes = true)
    (hp : u.pumpIsFitted p = true) (hf : (u.pump.get p).state = .failed) (hl : (u.pump.get p).line = false) :
    exec (.pumpReset after tag [byteOf (Side.code p)]) s = .next (answered (okReply 0x17#8 tag
      (bytesLE 1 1 ++ bytesLE 1 (Side.code (reset p u).dose.duty))) (raise .dosing 0 (schedulingCheck (reset p u)))) := by
  have notReady : (u.pump.get p).state ≠ .ready := by rw [hf]; decide
  have work : ∀ x : State, (x.pump.get p).state ≠ .ready →
      resetPump p x = raise .dosing 0 (schedulingCheck (reset p x)) := fun x h => by
    rw [resetPump_eq, readied_reset h]
  refine exec_done rfl rfl hu ht ((pumpReset_done (x := dropFrame u) (takes_iff.mp ht).1 hp hf hl).trans ?_)
  rw [work (dropFrame u) notReady, show reset p (dropFrame u) = dropFrame (reset p u) from rfl, schedulingCheck_dropFrame,
    ← dropFrame_raise]
  simp only [dropFrame_pump, dropFrame_dose, raise_pump, raise_dose, schedulingCheck_pump]
  rw [schedulingCheck_dose]
  simp [reset]
  rfl

/-- Settles O47: MANUAL_STROKE is a drive that starts with the request; a reset pump is READY and the check is made. -/
theorem pumpRequests : Obligations.PumpRequests := by
  refine ⟨fun s u after tag p hu ht hp => ⟨?_, ?_⟩, fun s u after tag p hu ht hp => ⟨fun hm hw ha hb hr full => ?_,
    fun hm => ?_, fun hm h => ?_, fun hm hw ha hb hr => ?_⟩, fun s u after tag p hu ht hp => ⟨fun hf hl => ?_,
    fun hf => ?_, fun hf hl => ?_⟩⟩
  · exact exec_refused rfl rfl hu ht (by decide) (withPump_noSubject (takes_iff.mp ht).1 hp)
  · exact exec_refused rfl rfl hu ht (by decide) (withPump_noSubject (takes_iff.mp ht).1 hp)
  · obtain ⟨id, _, bound, free, below, placed⟩ := place_lowest full
      { owner := .dosing, kind := .confirm, target := Side.code p, due := u.now + BitVec.ofNat 32 u.odorant.confirmWindow }
    refine ⟨id, bound, free, below, ?_⟩
    rw [← placed, ← manualDrive_eq]
    exact exec_done rfl rfl hu ht (manualStroke_done (x := dropFrame u) (takes_iff.mp ht).1 hp hm hw ha hb hr)
  · exact exec_refused rfl rfl hu ht (by decide) (manualStroke_notManual (takes_iff.mp ht).1 hp hm)
  · exact exec_refused rfl rfl hu ht (by decide) (manualStroke_busy (takes_iff.mp ht).1 hp hm h)
  · exact exec_refused rfl rfl hu ht (by decide) (manualStroke_notReady (takes_iff.mp ht).1 hp hm hw ha hb hr)
  · refine ⟨_, exec_pumpReset hu ht hp hf hl, ?_, ?_⟩
    · simp only [answered_dose, raise_dose]
      rw [schedulingCheck_dose]
      rfl
    · simp only [answered_dose, answered_table, raise_dose, raise_table]
      have dose := schedulingCheck_dose (reset p u)
      refine ⟨by rw [dose]; rfl, by rw [dose]; rfl, by rw [dose]; rfl, fun fault => ?_, fun fault armed => ?_, fun he => ?_⟩
      · exact schedulingCheck_armed (if_pos fault)
      · rw [schedulingCheck_of_not_armed (s := reset p u) fun e => armed ((if_neg fault).symm.trans e)]
        exact ⟨if_neg fault, rfl⟩
      · exact answered_given rfl (by simp [reset]) (by simpa [reset, NoticeEnables.get] using he)
  · exact exec_refused rfl rfl hu ht (by decide) (pumpReset_notFailed (takes_iff.mp ht).1 hp hf)
  · exact exec_refused rfl rfl hu ht (by decide) (pumpReset_busy (takes_iff.mp ht).1 hp hf hl)

end Sys2Proof.Proofs.Dosing
end

section
/-! PROOFS. Frames and section records read back (chapters 10.1, 11.1 to 11.3 and 11.5). -/

namespace Sys2Proof.Proofs.Codec

open Sys2Proof Sys2Proof.Machine Sys2Proof.Proofs.Reports Sys2Proof.Proofs.Orders Sys2Proof.Proofs.Sections

/-! ## Fields read from a record -/

/-- A field at the front of a record is read back when its number fits it. -/
theorem fieldAt_front {n v : Nat} (h : v < 256 ^ n) (rest : List Byte) : fieldAt (bytesLE n v ++ rest) 0 n = v := by
  rw [fieldAt, List.drop_zero, List.take_left' (by simp), natLE_bytesLE h]

theorem fieldAt_past {k offset : Nat} (h : k ≤ offset) (v n : Nat) (rest : List Byte) :
    fieldAt (bytesLE k v ++ rest) offset n = fieldAt rest (offset - k) n := by
  simp [fieldAt, List.drop_append, List.drop_eq_nil_of_le, h]

/-- The bytes of the number a list of bytes holds are that list. -/
theorem bytesLE_natLE (bs : List Byte) : bytesLE bs.length (natLE bs) = bs := by
  induction bs with
  | nil => rfl
  | cons b bs ih =>
    have small := b.isLt
    have low : BitVec.ofNat 8 (b.toNat + 256 * natLE bs) = b := by
      apply BitVec.eq_of_toNat_eq
      rw [BitVec.toNat_ofNat]
      omega
    have high : (b.toNat + 256 * natLE bs) / 256 = natLE bs := by omega
    rw [List.length_cons, natLE, bytesLE, low, high, ih]

/-- A field written again is the bytes it was read from. -/
theorem bytesLE_fieldAt {bs : List Byte} {offset n : Nat} (h : offset + n ≤ bs.length) :
    bytesLE n (fieldAt bs offset n) = (bs.drop offset).take n := by
  have length : ((bs.drop offset).take n).length = n := by
    rw [List.length_take, List.length_drop]
    omega
  have again := bytesLE_natLE ((bs.drop offset).take n)
  rwa [length] at again

/-- A field written again in front of what follows it. -/
theorem field_rest {bs : List Byte} {offset n next : Nat} (hn : offset + n = next) (h : next ≤ bs.length) :
    bytesLE n (fieldAt bs offset n) ++ bs.drop next = bs.drop offset := by
  subst hn
  rw [bytesLE_fieldAt h, ← List.drop_drop, List.take_append_drop]

/-- The last field of a record. -/
theorem field_last {bs : List Byte} {offset n : Nat} (h : offset + n = bs.length) :
    bytesLE n (fieldAt bs offset n) = bs.drop offset := by
  rw [bytesLE_fieldAt h.le, List.take_of_length_le]
  rw [List.length_drop]
  omega

/-! ## Codes -/

theorem pressureType_code (t : PressureType) : pressureType? t.code = some t := by cases t <;> rfl
theorem substitutePolicy_code (p : SubstitutePolicy) : substitutePolicy? p.code = some p := by cases p <;> rfl
theorem linkRate_code (r : LinkRate) : linkRate? r.code = some r := by cases r <;> rfl
theorem yesNo_code (b : Bool) : yesNo? (boolCode b) = some b := by cases b <;> rfl
theorem noticeEnables_toNat (e : NoticeEnables) : noticeEnables? e.toNat = some e := by
  obtain ⟨a, b, c, d, e, f⟩ := e
  cases a <;> cases b <;> cases c <;> cases d <;> cases e <;> cases f <;> rfl

theorem code_of_pressureType {n : Nat} {t : PressureType} (h : pressureType? n = some t) : t.code = n := by
  unfold pressureType? at h
  split at h <;> cases h <;> rfl

theorem code_of_substitutePolicy {n : Nat} {p : SubstitutePolicy} (h : substitutePolicy? n = some p) : p.code = n := by
  unfold substitutePolicy? at h
  split at h <;> cases h <;> rfl

theorem code_of_linkRate {n : Nat} {r : LinkRate} (h : linkRate? n = some r) : r.code = n := by
  unfold linkRate? at h
  split at h <;> cases h <;> rfl

theorem code_of_yesNo {n : Nat} {b : Bool} (h : yesNo? n = some b) : boolCode b = n := by
  unfold yesNo? at h
  split at h <;> cases h <;> rfl

theorem code_of_side {n : Nat} {p : Side} (h : side? n = some p) : Side.code p = n := by
  unfold side? at h
  split at h <;> cases h <;> rfl

theorem code_of_monitorMode {n : Nat} {m : MonitorMode} (h : monitorMode? n = some m) : m.code = n := by
  unfold monitorMode? at h
  split at h <;> cases h <;> rfl

theorem toNat_of_noticeEnables {n : Nat} {e : NoticeEnables} (h : noticeEnables? n = some e) : e.toNat = n := by
  unfold noticeEnables? at h
  split at h
  · rename_i small
    cases h
    interval_cases n <;> rfl
  · cases h

theorem pressureType_code_lt (t : PressureType) : t.code < 256 := by cases t <;> decide
theorem substitutePolicy_code_lt (p : SubstitutePolicy) : p.code < 256 := by cases p <;> decide
theorem linkRate_code_lt (r : LinkRate) : r.code < 256 := by cases r <;> decide
theorem boolCode_lt (b : Bool) : boolCode b < 256 := by cases b <;> decide
theorem side_code_lt (p : Side) : Side.code p < 256 := by cases p <;> decide
theorem side_code_read (p : Side) : side? (Side.code p) = some p := by cases p <;> rfl

theorem noticeEnables_lt (e : NoticeEnables) : e.toNat < 256 := by
  have bit : ∀ b : Bool, boolCode b ≤ 1 := fun b => by cases b <;> decide
  have critical := bit e.critical
  have dosing := bit e.dosing
  have run := bit e.run
  have limit := bit e.limit
  have period := bit e.period
  have timer := bit e.timer
  simp only [NoticeEnables.toNat, packBits]
  omega

theorem boolCode_eq (b : Bool) : boolCode b = if b = true then 1 else 0 := rfl

theorem pressureType_code_eq (t : PressureType) : t.code = if t = .gauge then 1 else 0 := by cases t <;> rfl

theorem substitutePolicy_code_eq (p : SubstitutePolicy) : p.code = if p = .fallback then 1 else 0 := by cases p <;> rfl

theorem side_code_eq (p : Side) : Side.code p = if p = .b then 1 else 0 := by cases p <;> rfl

/-! ## STATION -/

theorem station_laidOut (c : StationSection) : LaysOutStation c (encodeStation c) := by
  unfold LaysOutStation encodeStation
  simp [carries_past, carries_front, carries_only, pressureType_code_eq, NoticeEnables.toNat]
  rfl

theorem decode_encodeStation {c : StationSection} (h : c.valid = true) : decodeStation (encodeStation c) = some c := by
  have bounds := h
  simp only [StationSection.valid, inRange, Bool.and_eq_true, decide_eq_true_eq] at bounds
  have type := pressureType_code_lt c.hdrType
  have enables := noticeEnables_lt c.enables
  have rate := linkRate_code_lt c.build.rate
  unfold decodeStation encodeStation
  simp (disch := omega) [fieldAt_past, fieldAt_front, pressureType_code, noticeEnables_toNat, linkRate_code, h,
    fieldAt_bytesLE]

theorem encode_decodeStation {bs : List Byte} {c : StationSection} (hl : bs.length = 25) (h : decodeStation bs = some c) :
    encodeStation c = bs := by
  unfold decodeStation at h
  simp only [Option.bind_eq_bind, Option.bind_eq_some_iff, Option.ite_none_right_eq_some, Option.some.injEq] at h
  obtain ⟨type, ht, enables, he, rate, hr, -, rfl⟩ := h
  unfold encodeStation
  simp only [code_of_pressureType ht, toNat_of_noticeEnables he, code_of_linkRate hr, List.append_assoc]
  simp [field_last, field_rest, hl]

/-! ## RUN0 to RUN3 -/

theorem run_laidOut (c : RunSection) : LaysOutRun c (encodeRun c) := by
  unfold LaysOutRun encodeRun
  simp [carries_past, carries_front, carries_only, pressureType_code_eq, substitutePolicy_code_eq, boolCode_eq]

theorem decode_encodeRun {c : RunSection} (h : c.valid = true) : decodeRun (encodeRun c) = some c := by
  have bounds := h
  simp only [RunSection.valid, inRange, Bool.and_eq_true, decide_eq_true_eq] at bounds
  have type := pressureType_code_lt c.pType
  have policy := substitutePolicy_code_lt c.policy
  have check := boolCode_lt c.bCheck
  unfold decodeRun encodeRun
  simp (disch := omega) [fieldAt_past, fieldAt_front, pressureType_code, substitutePolicy_code, yesNo_code, h,
    fieldAt_bytesLE]

theorem encode_decodeRun {bs : List Byte} {c : RunSection} (hl : bs.length = 42) (h : decodeRun bs = some c) :
    encodeRun c = bs := by
  unfold decodeRun at h
  simp only [Option.bind_eq_bind, Option.bind_eq_some_iff, Option.ite_none_right_eq_some, Option.some.injEq] at h
  obtain ⟨type, ht, policy, hp, check, hc, -, rfl⟩ := h
  unfold encodeRun
  simp only [code_of_pressureType ht, code_of_substitutePolicy hp, code_of_yesNo hc, List.append_assoc]
  simp [field_last, field_rest, hl]

/-! ## ODORANT -/

theorem odorant_laidOut (c : OdorantSection) : LaysOutOdorant c (encodeOdorant c) := by
  unfold LaysOutOdorant encodeOdorant
  simp [carries_past, carries_front, carries_only, side_code_eq, boolCode_eq]

theorem decode_encodeOdorant {c : OdorantSection} (h : c.valid = true) : decodeOdorant (encodeOdorant c) = some c := by
  have bounds := h
  simp only [OdorantSection.valid, inRange, Bool.and_eq_true, decide_eq_true_eq] at bounds
  have start := boolCode_lt c.startAuto
  have preferred := side_code_lt c.preferred
  unfold decodeOdorant encodeOdorant
  simp (disch := omega) [fieldAt_past, fieldAt_front, yesNo_code, side_code_read, h, fieldAt_bytesLE]

theorem encode_decodeOdorant {bs : List Byte} {c : OdorantSection} (hl : bs.length = 23) (h : decodeOdorant bs = some c) :
    encodeOdorant c = bs := by
  unfold decodeOdorant at h
  simp only [Option.bind_eq_bind, Option.bind_eq_some_iff, Option.ite_none_right_eq_some, Option.some.injEq] at h
  obtain ⟨start, hs, preferred, hp, -, rfl⟩ := h
  unfold encodeOdorant
  simp only [code_of_yesNo hs, code_of_side hp, List.append_assoc]
  simp [field_last, field_rest, hl]

/-! ## COMPRESS -/

theorem compress_laidOut (c : CompressSection) : LaysOutCompress c (encodeCompress c) := by
  unfold LaysOutCompress encodeCompress encodeRow
  refine ⟨by simp, fun i hi => ?_, fun j hj => ?_, fun i j hi hj => ?_⟩
  · interval_cases i <;> simp [carries_past, carries_front, Five.nth]
  · interval_cases j <;> simp [carries_past, carries_front, Four.nth]
  · interval_cases i <;> interval_cases j <;> simp [carries_past, carries_front, carries_only, Five.nth, Four.nth]

theorem decode_encodeCompress {c : CompressSection} (h : c.valid = true) :
    decodeCompress (encodeCompress c) = some c := by
  have bounds := h
  simp only [CompressSection.valid, inRange, Bool.and_eq_true, decide_eq_true_eq, Four.toList, Five.toList, List.all_cons,
    List.all_nil, and_true] at bounds
  unfold decodeCompress encodeCompress encodeRow decodeRow
  simp (disch := omega) [fieldAt_past, fieldAt_front, h, fieldAt_bytesLE]

theorem encode_decodeCompress {bs : List Byte} {c : CompressSection} (hl : bs.length = 108)
    (h : decodeCompress bs = some c) : encodeCompress c = bs := by
  unfold decodeCompress at h
  simp only [Option.ite_none_right_eq_some, Option.some.injEq] at h
  obtain ⟨-, rfl⟩ := h
  unfold encodeCompress encodeRow decodeRow
  simp [field_last, field_rest, hl]

/-! ## MONITORS -/

theorem length_encodeMonitor (c : MonitorSettings) : (encodeMonitor c).length = 17 := by simp [encodeMonitor]

theorem length_encodeMonitorGroup (g : Four MonitorSettings) : (encodeMonitorGroup g).length = 68 := by
  simp [encodeMonitorGroup, length_encodeMonitor]

theorem length_encodeMonitorsHalf (upper : Bool) (c : MonitorsSection) : (encodeMonitorsHalf upper c).length = 137 := by
  cases upper <;> simp [encodeMonitorsHalf, length_encodeMonitorGroup]

/-- The eight monitors of a half. -/
def monitorsOfHalf (upper : Bool) (c : MonitorsSection) : List MonitorSettings :=
  if upper then c.temperature.toList ++ c.station.toList else c.rate.toList ++ c.pressure.toList

theorem encodeMonitorsHalf_eq (upper : Bool) (c : MonitorsSection) :
    encodeMonitorsHalf upper c = bytesLE 1 (boolCode upper) ++ (monitorsOfHalf upper c).flatMap encodeMonitor := by
  cases upper <;> simp [encodeMonitorsHalf, encodeMonitorGroup, monitorsOfHalf, Four.toList]

theorem monitorsOfHalf_get {upper : Bool} {c : MonitorsSection} {k : Nat} {m : Fin 16} (hk : k < 8)
    (hm : m.val = if upper = true then 8 + k else k) : (monitorsOfHalf upper c)[k]? = some (c.get m) := by
  cases upper
  · obtain rfl : m = ⟨k, by clear hm; omega⟩ := Fin.ext hm
    interval_cases k <;> simp [monitorsOfHalf, Four.toList, Sixteen.get, Four.get, monitorPlace]
  · obtain rfl : m = ⟨8 + k, by clear hm; omega⟩ := Fin.ext hm
    interval_cases k <;> simp [monitorsOfHalf, Four.toList, Sixteen.get, Four.get, monitorPlace]

theorem encodeMonitor_fields (c : MonitorSettings) : carries (encodeMonitor c) 0 1 c.byte
    ∧ carries (encodeMonitor c) 1 4 c.low ∧ carries (encodeMonitor c) 5 4 c.high
    ∧ carries (encodeMonitor c) 9 4 c.critical ∧ carries (encodeMonitor c) 13 4 c.hysteresis := by
  unfold encodeMonitor
  simp [carries_past, carries_front, carries_only]

theorem monitors_laidOut (upper : Bool) (c : MonitorsSection) : LaysOutMonitors upper c (encodeMonitorsHalf upper c) := by
  refine ⟨length_encodeMonitorsHalf upper c, ?_, fun k m hk hm => ?_⟩
  · simp [encodeMonitorsHalf, carries_front, boolCode_eq]
  · have field : ∀ {offset n w}, offset + n ≤ 17 → carries (encodeMonitor (c.get m)) offset n w →
        carries (encodeMonitorsHalf upper c) (1 + offset + 17 * k) n w := fun {offset n w} hn hc => by
      rw [encodeMonitorsHalf_eq, carries_past (by omega), show 1 + offset + 17 * k - 1 = 17 * k + offset by omega,
        ← List.append_nil (List.flatMap ..), carries_flatMap length_encodeMonitor hn w [] (monitorsOfHalf_get hk hm)]
      exact hc
    obtain ⟨byte, low, high, critical, hysteresis⟩ := encodeMonitor_fields (c.get m)
    refine ⟨?_, field (offset := 1) (by omega) low, field (offset := 5) (by omega) high,
      field (offset := 9) (by omega) critical, field (offset := 13) (by omega) hysteresis⟩
    have code := field (offset := 0) (by omega) byte
    unfold MonitorSettings.byte MonitorMode.code at code
    exact code

/-- Every limit of a monitor fits its field. -/
def Fits (c : MonitorSettings) : Prop :=
  c.low < 4294967296 ∧ c.high < 4294967296 ∧ c.critical < 4294967296 ∧ c.hysteresis < 4294967296

theorem monitorsFit_get {c : MonitorsSection} (h : monitorsFit c = true) (m : Fin 16) : Fits (c.get m) := by
  have each := List.all_eq_true.mp h m (List.mem_of_getElem? (monitorIds_get m))
  simp only [Bool.and_eq_true, decide_eq_true_eq] at each
  obtain ⟨⟨⟨low, high⟩, critical⟩, hysteresis⟩ := each
  exact ⟨low, high, critical, hysteresis⟩

theorem fieldAt_drop (bs : List Byte) (offset k n : Nat) : fieldAt bs (offset + k) n = fieldAt (bs.drop offset) k n := by
  simp [fieldAt]

theorem monitorByte_read (c : MonitorSettings) :
    c.byte < 256 ∧ monitorMode? (c.byte / 2) = some c.mode ∧ (c.byte % 2 == 1) = c.enabled := by
  unfold MonitorSettings.byte
  cases c.mode <;> cases c.enabled <;> decide

section MonitorRecords

variable {bs rest : List Byte} {offset : Nat}

theorem decodeMonitor_at {low : Bool} {c : MonitorSettings} (hb : bs.drop offset = encodeMonitor c ++ rest)
    (hv : c.valid low = true) (fits : Fits c) : decodeMonitor low bs offset = some c := by
  obtain ⟨hlow, hhigh, hcritical, hhysteresis⟩ := fits
  obtain ⟨small, mode, enabled⟩ := monitorByte_read c
  have first : fieldAt bs offset 1 = fieldAt (bs.drop offset) 0 1 := fieldAt_drop bs offset 0 1
  have fields : fieldAt (bs.drop offset) 0 1 = c.byte ∧ fieldAt (bs.drop offset) 1 4 = c.low
      ∧ fieldAt (bs.drop offset) 5 4 = c.high ∧ fieldAt (bs.drop offset) 9 4 = c.critical
      ∧ fieldAt (bs.drop offset) 13 4 = c.hysteresis := by
    rw [hb]
    simp (disch := omega) [encodeMonitor, fieldAt_past, fieldAt_front]
  obtain ⟨f0, f1, f5, f9, f13⟩ := fields
  unfold decodeMonitor
  simp only [first, fieldAt_drop, f0, f1, f5, f9, f13, mode, enabled, hv, if_true]

theorem drop_after {data : List Byte} (hb : bs.drop offset = data ++ rest) : bs.drop (offset + data.length) = rest := by
  rw [← List.drop_drop, hb, List.drop_left]

theorem decodeMonitorGroup_at {first : Fin 16} {g : Four MonitorSettings}
    (hb : bs.drop offset = encodeMonitorGroup g ++ rest) (hv : groupValid first g = true) (fits : ∀ r, Fits (g.get r)) :
    decodeMonitorGroup first bs offset = some g := by
  simp only [groupValid, Bool.and_eq_true] at hv
  obtain ⟨⟨⟨v0, v1⟩, v2⟩, v3⟩ := hv
  simp only [encodeMonitorGroup, List.append_assoc] at hb
  have hb1 := drop_after hb
  have hb2 := drop_after hb1
  have hb3 := drop_after hb2
  simp only [length_encodeMonitor, Nat.add_assoc, Nat.reduceAdd] at hb1 hb2 hb3
  unfold decodeMonitorGroup
  rw [decodeMonitor_at hb v0 (fits 0), decodeMonitor_at hb1 v1 (fits 1), decodeMonitor_at hb2 v2 (fits 2),
    decodeMonitor_at hb3 v3 (fits 3)]
  rfl

theorem encode_decodeMonitor {low : Bool} {c : MonitorSettings} (hl : offset + 17 ≤ bs.length)
    (h : decodeMonitor low bs offset = some c) : encodeMonitor c ++ bs.drop (offset + 17) = bs.drop offset := by
  unfold decodeMonitor at h
  dsimp only at h
  split at h
  · cases h
  · rename_i mode hm
    simp only [Option.ite_none_right_eq_some, Option.some.injEq] at h
    obtain ⟨-, rfl⟩ := h
    have byte : boolCode (fieldAt bs offset 1 % 2 == 1) + 2 * mode.code = fieldAt bs offset 1 := by
      rw [code_of_monitorMode hm]
      rcases Nat.mod_two_eq_zero_or_one (fieldAt bs offset 1) with e | e <;> simp [e, boolCode] <;> omega
    unfold encodeMonitor MonitorSettings.byte
    dsimp only
    rw [byte]
    simp (disch := omega) only [List.append_assoc, field_rest]

theorem encode_decodeMonitorGroup {first : Fin 16} {g : Four MonitorSettings} (hl : offset + 68 ≤ bs.length)
    (h : decodeMonitorGroup first bs offset = some g) : encodeMonitorGroup g ++ bs.drop (offset + 68) = bs.drop offset := by
  unfold decodeMonitorGroup at h
  simp only [Option.bind_eq_bind, Option.bind_eq_some_iff, Option.some.injEq] at h
  obtain ⟨m0, h0, m1, h1, m2, h2, m3, h3, rfl⟩ := h
  rw [encodeMonitorGroup, List.append_assoc, encode_decodeMonitor (offset := offset + 51) (by omega) h3, List.append_assoc,
    encode_decodeMonitor (offset := offset + 34) (by omega) h2, List.append_assoc,
    encode_decodeMonitor (offset := offset + 17) (by omega) h1, encode_decodeMonitor (by omega) h0]

end MonitorRecords

theorem decode_encodeMonitorsHalf {upper : Bool} {base c : MonitorsSection} (hv : monitorsValid c = true)
    (hf : monitorsFit c = true) : decodeMonitorsHalf base (encodeMonitorsHalf upper c) = some (withHalf upper c base) := by
  rw [monitorsValid_groups] at hv
  simp only [Bool.and_eq_true] at hv
  obtain ⟨⟨⟨v0, v1⟩, v2⟩, v3⟩ := hv
  have groups := fun r => sixteen_get_group c r
  have half : fieldAt (encodeMonitorsHalf upper c) 0 1 = boolCode upper := by
    rw [encodeMonitorsHalf, fieldAt_front (boolCode_lt upper)]
  unfold decodeMonitorsHalf
  rw [half, yesNo_code]
  cases upper
  · have lower : (encodeMonitorsHalf false c).drop 1 = encodeMonitorGroup c.rate ++ encodeMonitorGroup c.pressure := rfl
    have later : (encodeMonitorsHalf false c).drop 69 = encodeMonitorGroup c.pressure ++ [] := by
      have past := drop_after lower
      rwa [length_encodeMonitorGroup, ← List.append_nil (encodeMonitorGroup _)] at past
    have g0 := decodeMonitorGroup_at lower v0 fun r => (groups r).1 ▸ monitorsFit_get hf _
    have g1 := decodeMonitorGroup_at later v1 fun r => (groups r).2.1 ▸ monitorsFit_get hf _
    simp [g0, g1, withHalf]
  · have lower : (encodeMonitorsHalf true c).drop 1 = encodeMonitorGroup c.temperature ++ encodeMonitorGroup c.station := rfl
    have later : (encodeMonitorsHalf true c).drop 69 = encodeMonitorGroup c.station ++ [] := by
      have past := drop_after lower
      rwa [length_encodeMonitorGroup, ← List.append_nil (encodeMonitorGroup _)] at past
    have g2 := decodeMonitorGroup_at lower v2 fun r => (groups r).2.2.1 ▸ monitorsFit_get hf _
    have g3 := decodeMonitorGroup_at later v3 fun r => (groups r).2.2.2 ▸ monitorsFit_get hf _
    simp [g2, g3, withHalf]

theorem encode_decodeMonitorsHalf {bs : List Byte} {base c : MonitorsSection} (hl : bs.length = 137)
    (h : decodeMonitorsHalf base bs = some c) : ∃ upper, encodeMonitorsHalf upper c = bs ∧ c = withHalf upper c base := by
  unfold decodeMonitorsHalf at h
  simp only [Option.bind_eq_bind, Option.bind_eq_some_iff] at h
  obtain ⟨upper, hu, h⟩ := h
  have start : bytesLE 1 (boolCode upper) ++ bs.drop 1 = bs := by
    rw [code_of_yesNo hu]
    exact field_rest rfl (by omega)
  have nothing : bs.drop 137 = [] := List.drop_eq_nil_of_le (by omega)
  refine ⟨upper, ?_⟩
  split at h <;> simp only [Option.bind_eq_some_iff, Option.some.injEq] at h <;> obtain ⟨g, hg, k, hk, rfl⟩ := h
  all_goals
    have second := encode_decodeMonitorGroup (by omega) hk
    have first := encode_decodeMonitorGroup (by omega) hg
    rw [nothing, List.append_nil] at second
    rw [← second] at first
  case isTrue ht =>
    subst ht
    exact ⟨(congrArg _ first).trans start, rfl⟩
  case isFalse hf =>
    obtain rfl := Bool.eq_false_iff.mpr hf
    exact ⟨(congrArg _ first).trans start, rfl⟩

/-! ## Frames -/

/-- The receiver and the frames after bytes with no long gap between them. -/
def receives (r : Receiver) : List Byte → Receiver × List Frame
  | [] => (r, [])
  | b :: bs => ((receives (takeByte r b).1 bs).1, (takeByte r b).2.toList ++ (receives (takeByte r b).1 bs).2)

theorem receives_append (r : Receiver) (xs ys : List Byte) : receives r (xs ++ ys)
    = ((receives (receives r xs).1 ys).1, (receives r xs).2 ++ (receives (receives r xs).1 ys).2) := by
  induction xs generalizing r with
  | nil => simp [receives]
  | cons x xs ih => simp [receives, ih]

theorem waited_short {gap : Nat} (h : gap ≤ 20000) (r : Receiver) : waited gap r = r := by
  have short : gapExceeded gap = false := decide_eq_false (Nat.not_lt.mpr h)
  simp [waited, short]

theorem waited_hunt (gap : Nat) : waited gap huntReceiver = huntReceiver := by
  unfold waited
  split <;> rfl

theorem takeBytes_short {bytes : List LineByte} (h : ∀ x ∈ bytes, x.gap ≤ 20000) (r : Receiver) :
    takeBytes r bytes = receives r (bytes.map (·.byte)) := by
  induction bytes generalizing r with
  | nil => rfl
  | cons x rest ih =>
    have later := fun q => ih (fun y hy => h y (List.mem_cons_of_mem _ hy)) q
    rw [takeBytes, waited_short (h x List.mem_cons_self), List.map_cons, receives, ← later]

/-- The gap before the first byte of a frame is of no account. -/
theorem takeBytes_hunt {bytes : List LineByte} (h : ∀ x ∈ bytes.drop 1, x.gap ≤ 20000) :
    takeBytes huntReceiver bytes = receives huntReceiver (bytes.map (·.byte)) := by
  cases bytes with
  | nil => rfl
  | cons x rest =>
    have later := takeBytes_short (bytes := rest) h
    rw [takeBytes, waited_hunt, List.map_cons, receives, ← later]

/-- A byte of the body: the length byte says when it is whole (R180). -/
theorem takeByte_body (first b : Byte) (done : List Byte) : takeByte ⟨.body, first :: done⟩ b
    = if done.length + 1 = first.toNat then (⟨.check, first :: (done ++ [b])⟩, none)
      else (⟨.body, first :: (done ++ [b])⟩, none) := by
  simp [takeByte, natLE]

/-- A byte of the check: two of them end the frame (R180). -/
theorem takeByte_check (first b : Byte) (done : List Byte) : takeByte ⟨.check, first :: done⟩ b
    = if done.length + 1 = first.toNat + 2 then (huntReceiver, checkedFrame (first :: (done ++ [b])))
      else (⟨.check, first :: (done ++ [b])⟩, none) := by
  simp [takeByte, natLE]

/-- The body of a frame is taken whole. -/
theorem receives_body {first : Byte} (done more : List Byte) (hl : done.length + more.length = first.toNat)
    (hm : more ≠ []) : receives ⟨.body, first :: done⟩ more = (⟨.check, first :: (done ++ more)⟩, []) := by
  induction more generalizing done with
  | nil => exact absurd rfl hm
  | cons b more ih =>
    rw [List.length_cons] at hl
    by_cases last : more = []
    · subst last
      rw [receives, takeByte_body, if_pos (by simpa using hl)]
      rfl
    · have notYet : ¬ done.length + 1 = first.toNat := by
        have := List.length_pos_iff.mpr last
        omega
      have rest := ih (done ++ [b]) (by rw [List.length_append, List.length_singleton]; omega) last
      rw [receives, takeByte_body, if_neg notYet, rest, List.append_assoc]
      rfl

/-- The two check bytes complete the frame (R179, R180). -/
theorem receives_check {first : Byte} {body : List Byte} (hl : body.length = first.toNat) (c d : Byte) :
    receives ⟨.check, first :: body⟩ [c, d] = (huntReceiver, (checkedFrame (first :: body ++ [c, d])).toList) := by
  have notYet : ¬ body.length + 1 = first.toNat + 2 := by omega
  have full : (body ++ [c]).length + 1 = first.toNat + 2 := by
    rw [List.length_append, List.length_singleton, hl]
  rw [receives, takeByte_check, if_neg notYet, receives, takeByte_check, if_pos full, receives]
  simp

/-- A frame's own check passes (R179). -/
theorem checkedFrame_frame (f : Frame) :
    checkedFrame (frameBody f ++ bytesLE 2 (crc16 (frameBody f)).toNat) = some f := by
  have fits : (crc16 (frameBody f)).toNat < 256 ^ 2 := (crc16 (frameBody f)).isLt
  unfold checkedFrame
  have length : (frameBody f ++ bytesLE 2 (crc16 (frameBody f)).toNat).length - 2 = (frameBody f).length := by simp
  rw [length, List.take_left, List.drop_left, natLE_bytesLE fits, if_pos rfl]
  rfl

theorem receives_frame {f : Frame} (h : payloadFits f.payload = true) :
    receives huntReceiver (frameBytes f) = (huntReceiver, [f]) := by
  have fits : f.payload.length ≤ 248 := of_decide_eq_true h
  have length : (byteOf (f.payload.length + 2)).toNat = f.payload.length + 2 := by
    rw [byteOf, BitVec.toNat_ofNat]
    omega
  have start : receives huntReceiver [startByte, byteOf (f.payload.length + 2)]
      = (⟨.body, [byteOf (f.payload.length + 2)]⟩, []) := by
    have long : inRange 2 250 (byteOf (f.payload.length + 2)).toNat = true := by
      rw [length]
      simp [inRange, fits]
    simp [receives, takeByte, huntReceiver, long]
  have whole : (f.kind :: f.tag :: f.payload).length = (byteOf (f.payload.length + 2)).toNat := length.symm
  have bytes : frameBytes f = [startByte, byteOf (f.payload.length + 2)] ++ ((f.kind :: f.tag :: f.payload)
      ++ bytesLE 2 (crc16 (frameBody f)).toNat) := rfl
  rw [bytes, receives_append, start, receives_append,
    receives_body [] _ (by rw [List.length_nil, Nat.zero_add, whole]) (List.cons_ne_nil _ _), List.nil_append,
    show bytesLE 2 (crc16 (frameBody f)).toNat = [_, _] from rfl, receives_check whole]
  refine congrArg (huntReceiver, ·) (congrArg Option.toList (checkedFrame_frame f))

/-- Settles O51: each field of a record lies past the fields before it, and the bytes of a field are those it was read from. -/
theorem framesAndRecordsReadBack : Obligations.FramesAndRecordsReadBack := by
  refine ⟨fun f bytes hp hb => ⟨fun hg => ?_, ?_⟩, station_laidOut, run_laidOut, odorant_laidOut, compress_laidOut,
    monitors_laidOut, fun bs c hl h => ⟨decodeStation_valid h, encode_decodeStation hl h⟩,
    fun bs c hl h => ⟨decodeRun_valid h, encode_decodeRun hl h⟩,
    fun bs c hl h => ⟨decodeOdorant_valid h, encode_decodeOdorant hl h⟩,
    fun bs c hl h => ⟨decodeCompress_valid h, encode_decodeCompress hl h⟩,
    fun bs base c hl hb h => ⟨decodeMonitorsHalf_valid hb h, encode_decodeMonitorsHalf hl h⟩,
    fun c h => ⟨(station_laidOut c).1, decode_encodeStation h⟩, fun c h => ⟨(run_laidOut c).1, decode_encodeRun h⟩,
    fun c h => ⟨(odorant_laidOut c).1, decode_encodeOdorant h⟩, fun c h => ⟨(compress_laidOut c).1, decode_encodeCompress h⟩,
    fun upper base c hv hf => ⟨length_encodeMonitorsHalf upper c, decode_encodeMonitorsHalf hv hf⟩⟩
  · rw [takeBytes_hunt hg, hb, receives_frame hp]
  · simp [frameBytes, frameBody]

end Sys2Proof.Proofs.Codec
end

section
/-! PROOFS. The requests of the monitors, the sections, their protection, and the action table (chapters 7, 9 and 10). -/

namespace Sys2Proof.Proofs.Writes

open Sys2Proof Sys2Proof.Machine Sys2Proof.Proofs.Arms Sys2Proof.Proofs.Steps Sys2Proof.Proofs.Requests
  Sys2Proof.Proofs.Reports Sys2Proof.Proofs.Orders Sys2Proof.Proofs.Dosing Sys2Proof.Proofs.Codec

/-! ## EVENT_CLEAR and LIMIT_LOCK -/

theorem sixteen_set_get {α : Type} (t : Sixteen α) (m : Fin 16) : t.set m (t.get m) = t := by
  unfold Sixteen.set Sixteen.get
  have own : ∀ (g : Four α) (r : RunId), g.set r (g.get r) = g := fun g r => by
    match r with
    | 0 | 1 | 2 | 3 => rfl
  split <;> simp only [own]

/-- A monitor after EVENT_CLEAR (R155). -/
def cleared (m : Fin 16) (u : State) : MonitorState :=
  let old := u.monitors.each.get m
  if (u.settings.active.monitors.get m).enabled = true
      ∧ (∀ r, monitorRun m = some r → u.fitted r = true ∧ (u.run.get r).state ≠ .out)
      ∧ (u.settings.active.monitors.get m).mode = .latch then
    { old with latch := old.low || old.high, event := old.low || old.high || old.critical }
  else old

theorem monitorActs_iff (m : Fin 16) (u : State) : monitorActs m u = true ↔
    (u.settings.active.monitors.get m).enabled = true
      ∧ ∀ r, monitorRun m = some r → u.fitted r = true ∧ (u.run.get r).state ≠ .out := by
  unfold monitorActs
  cases monitorRun m with
  | none => simp
  | some r => simp

theorem clearEvent_eq (m : Fin 16) (u : State) :
    clearEvent m u = { u with monitors := { u.monitors with each := u.monitors.each.set m (cleared m u) } } := by
  have kept : u = { u with monitors := { u.monitors with each := u.monitors.each.set m (u.monitors.each.get m) } } := by
    rw [sixteen_set_get]
  unfold clearEvent
  by_cases acts : monitorActs m u = true
  · obtain ⟨enabled, inService⟩ := (monitorActs_iff m u).mp acts
    rw [if_pos acts]
    unfold acknowledged
    by_cases latch : (u.settings.active.monitors.get m).mode = .latch
    · rw [latch, cleared, if_pos ⟨enabled, inService, latch⟩]
      rfl
    · rw [show cleared m u = u.monitors.each.get m from if_neg fun h => latch h.2.2]
      split
      · rename_i h
        exact absurd h latch
      · rfl
  · have still : cleared m u = u.monitors.each.get m :=
      if_neg fun h => acts ((monitorActs_iff m u).mpr ⟨h.1, h.2.1⟩)
    rw [if_neg acts, still]
    exact kept

theorem monitorId_val (m : Fin 16) : monitorId? m.val = some m := dif_pos m.isLt

theorem eventClear_done {x : State} (hx : x.time.phase = .running) (m : Fin 16) : handleEventClear [byteOf m.val] x
    = accept (bytesLE 1 ((clearEvent m x).monitors.each.get m).conditionByte) (clearEvent m x) := by
  rw [handleEventClear, checks_passed (n := 1) hx rfl, fieldAt_byteOf (by omega), monitorId_val]

theorem limitLock_done {x : State} (hx : x.time.phase = .running) : handleLimitLock [] x
    = if x.monitors.limitLock then accept (bytesLE 1 0) x
      else accept (bytesLE 1 (boolCode x.settings.staged.monitors.isSome)) (setLimitLock x) :=
  checks_passed (n := 0) hx rfl

/-- Settles O48: EVENT_CLEAR acts on a monitor in LATCH that is enabled and in service; a lock found set is left as it is. -/
theorem monitorRequests : Obligations.MonitorRequests := by
  intro s u after tag hu ht
  have hx : (dropFrame u).time.phase = .running := (takes_iff.mp ht).1
  refine ⟨fun m => ?_, ?_⟩
  · have done := eventClear_done hx m
    rw [clearEvent_eq, Sixteen.get_set_same] at done
    exact exec_done rfl rfl hu ht done
  · have done := limitLock_done hx
    by_cases lock : u.monitors.limitLock = true
    · have unlocked : ¬ (u.monitors.limitLock = false ∧ u.settings.staged.monitors ≠ none) := fun h => by simp [lock] at h
      have same : { u with
          monitors := { u.monitors with limitLock := true }
          settings := { u.settings with staged := { u.settings.staged with monitors := u.settings.staged.monitors } } }
          = u := by
        rw [← lock]
      rw [if_neg unlocked, if_pos lock, same]
      rw [if_pos (show (dropFrame u).monitors.limitLock = true from lock)] at done
      exact exec_done rfl rfl hu ht done
    · have dropped : (if u.monitors.limitLock = false ∧ u.settings.staged.monitors ≠ none then 1 else 0)
          = boolCode u.settings.staged.monitors.isSome := by
        cases u.settings.staged.monitors <;> simp [lock, boolCode]
      rw [dropped, if_neg lock]
      rw [if_neg (show ¬ (dropFrame u).monitors.limitLock = true from lock)] at done
      exact exec_done rfl rfl hu ht done

/-! ## SECTION_WRITE -/

theorem sectionId_run (r : RunId) : sectionId? (1 + r.val) = some (.run r) := by
  match r with
  | 0 | 1 | 2 | 3 => rfl

section SectionWrite

variable {code : Nat} {i : SectionId} {bs : List Byte} {x : State}

theorem sectionWrite_wrongLength (hx : x.time.phase = .running) (hc : code ≤ 255) (hi : sectionId? code = some i)
    (hl : bs.length ≠ i.recordLength) : handleSectionWrite (byteOf code :: bs) x = refuse .badLength x := by
  rw [handleSectionWrite, unlessWarming_running _ _ hx, fieldAt_byteOf hc, hi]
  have wrong : (byteOf code :: bs).length ≠ 1 + i.recordLength := by
    rw [List.length_cons]
    omega
  exact (if_neg (by simp)).trans (if_pos wrong)

/-- A SECTION_WRITE of the right length is refused by the first of its checks that fails (R165). -/
theorem sectionWrite_checks (hx : x.time.phase = .running) (hc : code ≤ 255) (hi : sectionId? code = some i)
    (hl : bs.length = i.recordLength) : handleSectionWrite (byteOf code :: bs) x
      = if x.settings.protection.get i then refuse .isProtected x
        else if i = .monitors ∧ x.monitors.limitLock = true then refuse .locked x
        else if x.storeBusy then refuse .busy x
        else ((stageRecord i bs x.settings).map fun staged =>
          accept (bytesLE 1 (boolCode ((stagedMarks x.settings.staged).get i)))
            (x.onSettings fun g => { g with staged := staged })).getD (refuse .badValue x) := by
  rw [handleSectionWrite, unlessWarming_running _ _ hx, fieldAt_byteOf hc, hi]
  have right : ¬ (byteOf code :: bs).length ≠ 1 + i.recordLength := by
    rw [List.length_cons, hl, Nat.add_comm]
    exact not_not_intro rfl
  refine (if_neg (by simp)).trans ((if_neg right).trans ?_)
  rw [List.drop_one, List.tail_cons]
  cases stageRecord i bs x.settings <;> rfl

theorem sectionWrite_staged {staged : StagedSections} (hx : x.time.phase = .running) (hc : code ≤ 255)
    (hi : sectionId? code = some i) (hl : bs.length = i.recordLength) (hp : x.settings.protection.get i = false)
    (hk : i = .monitors → x.monitors.limitLock = false) (hb : x.storeBusy = false)
    (hs : stageRecord i bs x.settings = some staged) : handleSectionWrite (byteOf code :: bs) x
      = accept (bytesLE 1 (boolCode ((stagedMarks x.settings.staged).get i)))
          (x.onSettings fun g => { g with staged := staged }) := by
  have free : ¬ (i = .monitors ∧ x.monitors.limitLock = true) := fun h => by simp [hk h.1] at h
  rw [sectionWrite_checks hx hc hi hl, hp, hb, hs]
  exact (if_neg Bool.false_ne_true).trans ((if_neg free).trans (if_neg Bool.false_ne_true))

end SectionWrite

/-- A record staged by SECTION_WRITE. -/
theorem exec_staged {s u : State} {after : Nat} {tag : Byte} {code : Nat} {i : SectionId} {bs : List Byte}
    {staged : StagedSections} (hu : s.elapse after = u) (ht : u.takes = true) (hb : u.storeBusy = false)
    (hc : code ≤ 255) (hi : sectionId? code = some i) (hl : bs.length = i.recordLength)
    (hp : u.settings.protection.get i = false) (hk : i = .monitors → u.monitors.limitLock = false)
    (hs : stageRecord i bs u.settings = some staged) :
    exec (.sectionWrite after tag (byteOf code :: bs)) s = .next (answered
      (okReply 0x20#8 tag (bytesLE 1 (boolCode ((stagedMarks u.settings.staged).get i))))
      { u with settings := { u.settings with staged := staged } }) :=
  exec_done rfl rfl hu ht (sectionWrite_staged (x := dropFrame u) (takes_iff.mp ht).1 hc hi hl hp hk hb hs)

/-- Settles O49: a valid record is read back by its decoder, and the refusals come in their order. -/
theorem sectionWriteStages : Obligations.SectionWriteStages := by
  intro s u after tag hu ht
  have hx : (dropFrame u).time.phase = .running := (takes_iff.mp ht).1
  refine ⟨fun hb => ⟨fun c hv hp => ?_, fun r c hv hp => ?_, fun c hv hp => ?_, fun c hv hp => ?_,
    fun upper c hv hf hp hk => ?_⟩, fun code i bs hc hi => ⟨fun hl => ?_, fun hl hp => ?_, fun hl hp hm hk => ?_,
    fun hl hp hk hb => ?_, fun hl hp hk hb hs => ?_⟩⟩
  · exact exec_staged (code := 0) (i := .station) hu ht hb (by decide) rfl (station_laidOut c).1 hp (fun e => nomatch e)
      (by simp [stageRecord, decode_encodeStation hv])
  · have staged := exec_staged (i := .run r) (tag := tag)
      (staged := { u.settings.staged with run := u.settings.staged.run.set r (some c) }) hu ht hb (by omega) (sectionId_run r) (run_laidOut c).1 hp
      (fun e => nomatch e) (by simp only [stageRecord, decode_encodeRun hv, Option.map_some])
    rwa [show (stagedMarks u.settings.staged).get (.run r) = _ from Four.get_map ..] at staged
  · exact exec_staged (code := 5) (i := .odorant) hu ht hb (by decide) rfl (odorant_laidOut c).1 hp (fun e => nomatch e)
      (by simp [stageRecord, decode_encodeOdorant hv])
  · exact exec_staged (code := 6) (i := .compress) hu ht hb (by decide) rfl (compress_laidOut c).1 hp (fun e => nomatch e)
      (by simp [stageRecord, decode_encodeCompress hv])
  · exact exec_staged (code := 7) (i := .monitors) hu ht hb (by decide) rfl (length_encodeMonitorsHalf upper c) hp
      (fun _ => hk) (by simp [stageRecord, decode_encodeMonitorsHalf hv hf])
  · exact exec_refused rfl rfl hu ht (by decide) (sectionWrite_wrongLength hx (by omega) hi hl)
  · exact exec_refused rfl rfl hu ht (by decide) ((sectionWrite_checks hx (by omega) hi hl).trans (if_pos hp))
  · exact exec_refused rfl rfl hu ht (by decide) ((sectionWrite_checks hx (by omega) hi hl).trans
      ((if_neg (Bool.eq_false_iff.mp hp)).trans (if_pos ⟨hm, hk⟩)))
  · have free : ¬ (i = .monitors ∧ u.monitors.limitLock = true) := fun h => Bool.eq_false_iff.mp (hk h.1) h.2
    exact exec_refused rfl rfl hu ht (by decide) ((sectionWrite_checks hx (by omega) hi hl).trans
      ((if_neg (Bool.eq_false_iff.mp hp)).trans ((if_neg free).trans (if_pos hb))))
  · have free : ¬ (i = .monitors ∧ u.monitors.limitLock = true) := fun h => Bool.eq_false_iff.mp (hk h.1) h.2
    refine exec_refused rfl rfl hu ht (by decide) ((sectionWrite_checks hx (by omega) hi hl).trans
      ((if_neg (Bool.eq_false_iff.mp hp)).trans ((if_neg free).trans ((if_neg (Bool.eq_false_iff.mp hb)).trans ?_))))
    rw [dropFrame_settings, hs]
    rfl

/-! ## SECTION_PROTECT and PROTECT_CLEAR -/

theorem stagedMarks_drop (i j : SectionId) (g : StagedSections) :
    (stagedMarks (dropStaged i g)).get j = if j = i then false else (stagedMarks g).get j := by
  cases i <;> cases j <;> simp [stagedMarks, dropStaged, PerSection.get, Four.get_set]
  split <;> simp [*]

theorem listed_addItem_flags (s : State) : Listed .flags (addItem .flags s) := .inl rfl

theorem flags_listed {s : State} (h : Listed .flags s) :
    s.store.list.flags = true ∨ s.store.writing.map (·.content.item) = some .flags :=
  h.imp_left fun e => (congrArg WriteList.flags e).symm

section Protection

variable {code : Nat} {i : SectionId} {x : State}

theorem sectionProtect_checks (hx : x.time.phase = .running) (hc : code ≤ 255) (hi : sectionId? code = some i) :
    handleSectionProtect [byteOf code] x
      = if x.storeBusy then refuse .busy x
        else if x.settings.protection.get i then accept (bytesLE 1 0) x
        else accept (bytesLE 1 (boolCode ((stagedMarks x.settings.staged).get i))) (protectSection i x) := by
  rw [handleSectionProtect, checks_passed (n := 1) hx rfl, fieldAt_byteOf hc, hi]

theorem protectClear_closed (hx : x.time.phase = .running) (h : x.pins.custody = .closed) :
    handleProtectClear [] x = refuse .switchClosed x :=
  (checks_passed (n := 0) hx rfl).trans (if_pos h)

theorem protectClear_open (hx : x.time.phase = .running) (h : x.pins.custody ≠ .closed) :
    handleProtectClear [] x = accept (bytesLE 1 (flagsSet x.settings.protection))
      (if flagsSet x.settings.protection = 0 then x
       else addItem .flags (x.onSettings fun g => { g with protection := .all false, flagsUnstored := true })) :=
  (checks_passed (n := 0) hx rfl).trans (if_neg h)

end Protection

theorem perSection_none {f : PerSection Bool} (h : f.toList.any id = false) : f = .all false := by
  obtain ⟨a, ⟨b, c, d, e⟩, g, i, j⟩ := f
  simp only [PerSection.toList, List.any_cons, List.any_nil, id, Bool.or_eq_false_iff] at h
  obtain ⟨rfl, rfl, rfl, rfl, rfl, rfl, rfl, rfl, -⟩ := h
  rfl

theorem flagsSet_zero_iff (f : PerSection Bool) : flagsSet f = 0 ↔ f.toList.any id = false := by
  simp [flagsSet, List.countP_eq_zero]

/-- Every protection flag cleared, the contact found open (R171). -/
def unprotected (u : State) : State :=
  { u with
    settings := { u.settings with
      protection := .all false
      flagsUnstored := u.settings.flagsUnstored || u.settings.protection.toList.any id }
    pins := { u.pins with custody := .opened } }

theorem exec_protectClear_open {s u : State} {after : Nat} {tag : Byte} (hu : s.elapse after = u) (ht : u.takes = true) :
    exec (.protectClear after tag [] .opened) s = .next (answered
      (okReply 0x22#8 tag (bytesLE 1 (u.settings.protection.toList.countP id)))
      (if u.settings.protection.toList.any id = true then addItem .flags (unprotected u) else unprotected u)) := by
  obtain ⟨hp, hq⟩ := takes_iff.mp ht
  refine exec_accepted rfl hu (live_of_running hp) hq
    ((protectClear_open (x := dropFrame { u with pins := { u.pins with custody := .opened } }) hp nofun).trans ?_)
  by_cases any : u.settings.protection.toList.any id = true
  · have some : flagsSet u.settings.protection ≠ 0 := fun e => by simp [(flagsSet_zero_iff _).mp e] at any
    refine (congrArg (accept _) (if_neg some)).trans ?_
    rw [if_pos any, unprotected, any, Bool.or_true]
    rfl
  · have none := Bool.eq_false_iff.mpr any
    refine (congrArg (accept _) (if_pos ((flagsSet_zero_iff _).mpr none))).trans ?_
    rw [if_neg any, unprotected, none, Bool.or_false, ← perSection_none none]
    rfl

/-- Settles O50: a flag set drops its staged copy, and FLAGS is listed by every change of a flag. -/
theorem protectionSetAndCleared : Obligations.ProtectionSetAndCleared := by
  intro s u after tag hu ht
  have hx : (dropFrame u).time.phase = .running := (takes_iff.mp ht).1
  refine ⟨fun code i hc hi => ⟨fun hb hp => ?_, fun hb hp => ?_, fun hb => ?_⟩, ?_, ?_⟩
  · refine ⟨answered (okReply 0x21#8 tag (bytesLE 1 (boolCode ((stagedMarks u.settings.staged).get i))))
      (protectSection i u), ?_, rfl, fun j => ?_, ?_⟩
    · exact exec_done rfl rfl hu ht ((sectionProtect_checks hx (by omega) hi).trans
        ((if_neg (Bool.eq_false_iff.mp hb)).trans (if_neg (Bool.eq_false_iff.mp hp))))
    · rw [(answered_leaves _ _).1]
      exact stagedMarks_drop i j u.settings.staged
    · exact flags_listed (answered_listed .flags _ _ (listed_addItem_flags _) (by decide))
  · exact requestReported rfl rfl hu ht ((sectionProtect_checks hx (by omega) hi).trans
      ((if_neg (Bool.eq_false_iff.mp hb)).trans (if_pos hp)))
  · exact exec_refused rfl rfl hu ht (by decide) ((sectionProtect_checks hx (by omega) hi).trans (if_pos hb))
  · refine ⟨_, exec_protectClear_open hu ht, rfl, fun h => ?_⟩
    rw [if_pos h]
    exact flags_listed (answered_listed .flags _ _ (listed_addItem_flags _) (by decide))
  · obtain ⟨hp, hq⟩ := takes_iff.mp ht
    exact requestRefused rfl hu (live_of_running hp) hq (by decide) fun y hy => hy ▸ protectClear_closed hp rfl

/-! ## SCHEDULE and CANCEL -/

section Schedule

variable {k target delay : Nat} {x : State}

/-- The payload of a SCHEDULE: kind, target and delay. -/
def schedulePayload (k target delay : Nat) : List Byte := bytesLE 1 k ++ bytesLE 1 target ++ bytesLE 4 delay

theorem schedulePayload_fields (hk : k ≤ 255) (ht : target ≤ 255) (hd : delay ≤ 4294967295) :
    fieldAt (schedulePayload k target delay) 0 1 = k ∧ fieldAt (schedulePayload k target delay) 1 1 = target
      ∧ fieldAt (schedulePayload k target delay) 2 4 = delay := by
  unfold schedulePayload
  simp (disch := omega) [fieldAt_past, fieldAt_front, fieldAt_bytesLE]

/-- SCHEDULE of a kind that has a code (R124). -/
theorem schedule_checks {kind : EntryKind} (hx : x.time.phase = .running) (hk : k ≤ 255) (ht : target ≤ 255)
    (hd : delay ≤ 4294967295) (hc : entryKind? k = some kind) : handleSchedule (schedulePayload k target delay) x
      = if !(linkTarget kind target && inRange 1 longestDelay delay) then refuse .badValue x
        else if 6 ≤ x.table.count isLink then refuse .tableFull x
        else accept (bytesLE 1 ((lowestFree x.table.places).getD 0) ++ bytesLE 4 (x.now + ms delay).toNat)
          (x.onTable (·.place { owner := .link, kind := kind, target := target, due := x.now + ms delay })) := by
  obtain ⟨fk, ft, fd⟩ := schedulePayload_fields hk ht hd
  rw [handleSchedule, checks_passed (n := 6) hx rfl, fk, ft, fd, hc]

theorem schedule_noKind (hx : x.time.phase = .running) (hk : k ≤ 255) (ht : target ≤ 255) (hd : delay ≤ 4294967295)
    (hc : entryKind? k = none) : handleSchedule (schedulePayload k target delay) x = refuse .badValue x := by
  obtain ⟨fk, -, -⟩ := schedulePayload_fields hk ht hd
  rw [handleSchedule, checks_passed (n := 6) hx rfl, fk, hc]

/-- The kinds and targets of LINK entries (R124). -/
def LinkEntry (k target : Nat) : Prop := (k = 2 ∨ k = 3) ∧ (target = 1 ∨ target = 2) ∨ k = 4 ∧ target = 0 ∨ k = 5

theorem aux_isSome_iff (n : Nat) : (aux? n).isSome = true ↔ n = 1 ∨ n = 2 := by
  match n with
  | 0 | 1 | 2 | _ + 3 => simp [aux?]

theorem linkEntry_iff {kind : EntryKind} (hc : entryKind? k = some kind) (ht : target ≤ 255) :
    linkTarget kind target = true ↔ LinkEntry k target := by
  match k with
  | 0 | 1 | 2 | 3 | 4 | 5 =>
    cases hc
    simp [linkTarget, LinkEntry, aux_isSome_iff, ht]
  | _ + 6 => cases hc

theorem not_linkEntry (hc : entryKind? k = none) : ¬ LinkEntry k target := by
  match k with
  | 0 | 1 | 2 | 3 | 4 | 5 => cases hc
  | _ + 6 => simp [LinkEntry]

theorem entryKind_code (kind : EntryKind) : entryKind? kind.code = some kind := by cases kind <;> rfl

theorem entryKind_code_le (kind : EntryKind) : kind.code ≤ 255 := by cases kind <;> decide

theorem linkTarget_le {kind : EntryKind} (h : linkTarget kind target = true) : target ≤ 255 := by
  cases kind <;> simp [linkTarget, aux_isSome_iff] at h <;> omega

end Schedule

section Cancel

variable {x : State}

theorem entryId_val (id : Fin 8) : entryId? id.val = some id := dif_pos id.isLt

theorem cancel_link {id : Fin 8} {e : Entry} (hx : x.time.phase = .running) (he : x.table.at id.val = some e)
    (ho : e.owner = .link) : handleCancel [byteOf id.val] x
      = accept (bytesLE 1 e.kind.code ++ bytesLE 1 e.target ++ bytesLE 4 e.due.toNat) (x.onTable (·.free id.val)) := by
  rw [handleCancel, checks_passed (n := 1) hx rfl, fieldAt_byteOf (by omega), entryId_val]
  simp [he, isLink, ho]

theorem cancel_notFound {id : Fin 8} (hx : x.time.phase = .running) (he : x.table.at id.val = none) :
    handleCancel [byteOf id.val] x = refuse .notFound x := by
  rw [handleCancel, checks_passed (n := 1) hx rfl, fieldAt_byteOf (by omega), entryId_val]
  simp [he]

theorem cancel_dosing {id : Fin 8} {e : Entry} (hx : x.time.phase = .running) (he : x.table.at id.val = some e)
    (ho : e.owner = .dosing) : handleCancel [byteOf id.val] x = refuse .noSubject x := by
  rw [handleCancel, checks_passed (n := 1) hx rfl, fieldAt_byteOf (by omega), entryId_val]
  simp [he, isLink, ho]

theorem cancel_badValue {id : Nat} (hx : x.time.phase = .running) (hi : 8 ≤ id) (hb : id ≤ 255) :
    handleCancel [byteOf id] x = refuse .badValue x := by
  rw [handleCancel, checks_passed (n := 1) hx rfl, fieldAt_byteOf hb, entryId?, dif_neg (Nat.not_lt.mpr hi)]

end Cancel

/-- Settles O34: an entry placed takes the lowest free id, and CANCEL removes only an entry of the station host. -/
theorem scheduleAndCancel : Obligations.ScheduleAndCancel := by
  intro s u after tag hu ht
  have hx : (dropFrame u).time.phase = .running := (takes_iff.mp ht).1
  refine ⟨fun k target delay hl h1 hd full hlen hcount => ?_, fun k target delay hk htt hd => ⟨fun hv => ?_, fun hv full => ?_⟩,
    fun id e he ho => ?_, fun id he => ?_, fun id e he ho => ?_, fun id hi hb => ?_⟩
  · obtain ⟨id, low, bound, free, below, placed⟩ := place_lowest (t := u.table) (by omega)
      { owner := .link, kind := k, target := target, due := u.now + BitVec.ofNat 32 delay }
    have valid : ¬ (!(linkTarget k target && inRange 1 longestDelay delay)) = true := by
      simp [hl, inRange, longestDelay, h1, hd]
    have work := (schedule_checks hx (entryKind_code_le k) (linkTarget_le hl) (by omega) (entryKind_code k)).trans
      ((if_neg valid).trans (if_neg (Nat.not_le.mpr full)))
    rw [dropFrame_table, low] at work
    refine ⟨id, by omega, free, below, ?_⟩
    rw [← placed]
    exact exec_done rfl rfl hu ht work
  · refine exec_refused rfl rfl hu ht (by decide) ?_
    cases hc : entryKind? k with
    | none => exact schedule_noKind hx hk htt hd hc
    | some kind =>
      have wrong : (!(linkTarget kind target && inRange 1 longestDelay delay)) = true := by
        by_contra right
        simp only [Bool.not_eq_true', Bool.not_eq_false, Bool.and_eq_true, inRange, decide_eq_true_eq] at right
        exact hv ⟨(linkEntry_iff hc htt).mp right.1, right.2⟩
      exact (schedule_checks hx hk htt hd hc).trans (if_pos wrong)
  · refine exec_refused rfl rfl hu ht (by decide) ?_
    cases hc : entryKind? k with
    | none => exact absurd hv.1 (not_linkEntry hc)
    | some kind =>
      have right : ¬ (!(linkTarget kind target && inRange 1 longestDelay delay)) = true := by
        simp [(linkEntry_iff hc htt).mpr hv.1, inRange, longestDelay, hv.2.1, hv.2.2]
      exact (schedule_checks hx hk htt hd hc).trans ((if_neg right).trans (if_pos full))
  · exact exec_done rfl rfl hu ht (cancel_link hx he ho)
  · exact exec_refused rfl rfl hu ht (by decide) (cancel_notFound hx he)
  · exact exec_refused rfl rfl hu ht (by decide) (cancel_dosing hx he ho)
  · exact exec_refused rfl rfl hu ht (by decide) (cancel_badValue hx hi hb)

end Sys2Proof.Proofs.Writes
end

section
/-! PROOFS. When the event of a command can happen, for every command; the pulse edges and the timed ends. -/

namespace Sys2Proof.Proofs.Events

open Sys2Proof Sys2Proof.Machine Sys2Proof.Proofs.Arms Sys2Proof.Proofs.Steps Sys2Proof.Proofs.Requests

/-! ## An event at the state its time has brought -/

section Event

variable {dt : Nat} {guard : State → Bool} {body : State → State} {s u : State}

theorem event_at (hu : s.elapse dt = u) (due : guard u = true) : event dt guard body s = .next (finish (body u)) := by
  subst hu
  exact event_taken _ _ _ _ due

theorem event_still (hu : s.elapse dt = u) (due : ¬ guard u = true) : event dt guard body s = .next u := by
  subst hu
  exact event_not _ _ _ _ (by simpa using due)

/-- An event that does not occur leaves the part as its command finds it. -/
theorem exec_still {c : Instr} (he : exec c s = event c.after guard body s) (hc : c.custody? = none)
    (due : ¬ guard (s.elapse c.after) = true) : exec c s = .next (found c s) := by
  rw [he, event_still rfl due, found_eq s hc]

end Event

/-! ## The guards of the events (log entry 3) -/

section Guards

variable {u : State}

theorem restartReady_iff : restartReady u = true ↔
    u.time.phase = .running ∧ u.time.restartDue = true
      ∨ u.time.phase = .halt ∧ u.time.riseHeld = true ∧ u.store.writing = none ∧ u.store.warningResume = false := by
  simp [restartReady, State.storeWorkDone, and_assoc]

theorem warmupDone_iff : warmupDone u = true ↔ u.time.phase = .warmup ∧ reached u.time.warmupEnd u.now = true := by
  simp [warmupDone]

theorem boundaryDue_iff : boundaryDue u = true ↔
    u.time.phase = .running ∧ reached (u.time.intervalStart + 1000) u.now = true := by
  simp [boundaryDue, show ms 1000 = 1000 from rfl]

theorem holdOffOver_iff {t0 now : Time} : holdOffOver t0 now = true ↔ 50 ≤ (now - t0).toNat :=
  decide_eq_true_iff

theorem pulseTaken_iff {r : RunId} {ch : Side} : pulseTaken r ch u = true ↔ u.live = true ∧ u.fitted r = true
    ∧ ∀ t0, (u.pulse.get r).holdOff.get ch = some t0 → 50 ≤ (u.time.captureClock - t0).toNat := by
  cases h : (u.pulse.get r).holdOff.get ch <;> simp [pulseTaken, edgeAccepted, h, holdOffOver_iff, and_assoc]

theorem pulseHoldOffDone_iff {r : RunId} {ch : Side} : pulseHoldOffDone r ch u = true ↔ u.time.phase ≠ .off
    ∧ ∃ t0, (u.pulse.get r).holdOff.get ch = some t0 ∧ 50 ≤ (u.time.captureClock - t0).toNat := by
  cases h : (u.pulse.get r).holdOff.get ch <;> simp [pulseHoldOffDone, h, holdOffOver_iff]

theorem conversionDone_eq {c : ChannelId} :
    conversionDone u = some c ↔ u.live = true ∧ u.loop.converter = .converting c 0 := by
  unfold conversionDone
  split <;> simp_all

theorem conversionDone_isSome :
    (conversionDone u).isSome = true ↔ u.live = true ∧ ∃ c, u.loop.converter = .converting c 0 := by
  simp [Option.isSome_iff_exists, conversionDone_eq]

theorem senseOver_iff {left : Option Nat} : senseOver left = true ↔ left = none ∨ left = some 0 := by
  cases left <;> simp [senseOver]

theorem senseTaken_iff {p : Side} : senseTaken p u = true ↔
    u.live = true ∧ u.pumpIsFitted p = true ∧ (u.sense.get p = none ∨ u.sense.get p = some 0) := by
  simp [senseTaken, senseOver_iff, and_assoc]

theorem senseHoldOffDone_iff {p : Side} :
    senseHoldOffDone p u = true ↔ u.time.phase ≠ .off ∧ u.sense.get p = some 0 := by
  simp [senseHoldOffDone]

theorem driveEnded_iff {p : Side} :
    driveEnded p u = true ↔ ∃ d, (u.pump.get p).driveEnd = some d ∧ reached d u.now = true := by
  cases h : (u.pump.get p).driveEnd <;> simp [driveEnded, h]

theorem recentDriveDone_iff : recentDriveDone u = true ↔ u.live = true ∧ u.dose.recentDrive = true
    ∧ ∃ d, u.dose.lastDrive = some d ∧ reached (d + 60000) u.now = true := by
  cases h : u.dose.lastDrive <;> simp [recentDriveDone, h, and_assoc, show ms 60000 = 60000 from rfl]

theorem trimHoldOffDone_iff : trimHoldOffDone u = true ↔
    u.live = true ∧ ∃ d, u.dose.trimHoldOff = some d ∧ reached d u.now = true := by
  cases h : u.dose.trimHoldOff <;> simp [trimHoldOffDone, h]

theorem entryDue_iff {k : EntryKind} {id : Fin 8} : entryDue k id u = true ↔ EntryReached k id u := by
  unfold EntryReached entryDue
  cases u.table.at id.val <;> simp [and_assoc]

theorem writeDone_iff : writeDone u = true ↔ u.time.phase ≠ .off ∧ ∃ w, u.store.writing = some w ∧ w.left = 0 := by
  cases h : u.store.writing <;> simp [writeDone, h]

theorem frameDone_iff : frameDone u = true ↔ u.live = true ∧ ∃ x, u.link.tx = some x ∧ x.left = 0 := by
  cases h : u.link.tx <;> simp [frameDone, h]

theorem gapExceeded_iff {gap : Nat} : gapExceeded gap = true ↔ 20000 < gap := decide_eq_true_iff

end Guards

/-! ## A command whose event cannot happen -/

/-- A request finds no part live. -/
theorem request_still {c : Instr} {f : Frame} {s : State} (hf : c.frame? = some f)
    (dead : ¬ (s.elapse c.after).live = true) : exec c s = .next (found c s) := by
  have hl : ¬ (found c s).live = true := dead
  rw [exec_request hf, if_neg hl]

/-- An entry is not carried out before it is due (R127). -/
theorem entry_still {c : Instr} {k : EntryKind} {id : Fin 8} {action : Nat → State → State} {s : State}
    (he : exec c s = carryOut k action c.after id s) (hc : c.custody? = none)
    (due : ¬ EntryReached k id (s.elapse c.after)) : exec c s = .next (found c s) :=
  exec_still he hc fun g => due (entryDue_iff.mp g)

/-- Whatever the command, nothing but time (and the contact) moves where its event cannot happen (log entry 3). -/
theorem exec_notHappening (s : State) (c : Instr) (h : ¬ Happens (s.elapse c.after) c) : exec c s = .next (found c s) := by
  cases c
  case powerOn after => exact exec_still (exec_powerOn after s) rfl fun g => h (by simpa [Happens] using g)
  case powerFailWarning => exact absurd trivial h
  case pfwRise => exact absurd trivial h
  case restartBegin after => exact exec_still (exec_restartBegin after s) rfl fun g => h (restartReady_iff.mp g)
  case warmupEnd after => exact exec_still (exec_warmupEnd after s) rfl fun g => h (warmupDone_iff.mp g)
  case boundary after => exact exec_still (exec_boundary after s) rfl fun g => h (boundaryDue_iff.mp g)
  case lossOfSupply after => exact exec_still (exec_lossOfSupply after s) rfl fun g => h (by simpa [Happens] using g)
  case pulseEdge after r ch => exact exec_still (exec_pulseEdge after r ch s) rfl fun g => h (pulseTaken_iff.mp g)
  case pulseHoldOffEnd after r ch =>
    exact exec_still (exec_pulseHoldOffEnd after r ch s) rfl fun g => h (pulseHoldOffDone_iff.mp g)
  case conversionCompletion after current =>
    exact exec_still (exec_conversionCompletion after current s) rfl fun g => h (conversionDone_isSome.mp g)
  case senseEdge after p => exact exec_still (exec_senseEdge after p s) rfl fun g => h (senseTaken_iff.mp g)
  case senseHoldOffEnd after p =>
    exact exec_still (exec_senseHoldOffEnd after p s) rfl fun g => h (senseHoldOffDone_iff.mp g)
  case driveEnd after p =>
    exact exec_still (exec_driveEnd after p s) rfl fun g => h ((Bool.and_eq_true_iff.mp g).imp_right driveEnded_iff.mp)
  case recentDriveEnd after =>
    exact exec_still (exec_recentDriveEnd after s) rfl fun g => h (recentDriveDone_iff.mp g)
  case trimHoldOffEnd after =>
    exact exec_still (exec_trimHoldOffEnd after s) rfl fun g => h (trimHoldOffDone_iff.mp g)
  case strokeEntryDue after id => exact entry_still (exec_strokeEntryDue after id s) rfl h
  case confirmEntryDue after id => exact entry_still (exec_confirmEntryDue after id s) rfl h
  case auxOnEntryDue after id => exact entry_still (exec_auxOnEntryDue after id s) rfl h
  case auxOffEntryDue after id => exact entry_still (exec_auxOffEntryDue after id s) rfl h
  case closePeriodEntryDue after id => exact entry_still (exec_closePeriodEntryDue after id s) rfl h
  case timerNoticeEntryDue after id => exact entry_still (exec_timerNoticeEntryDue after id s) rfl h
  case storeWriteComplete after =>
    exact exec_still (exec_storeWriteComplete after s) rfl fun g => h (writeDone_iff.mp g)
  case frameSent after => exact exec_still (exec_frameSent after s) rfl fun g => h (frameDone_iff.mp g)
  case receiveTimeout after bytes =>
    exact exec_still (exec_receiveTimeout after bytes s) rfl fun g => h ((Bool.and_eq_true_iff.mp g).imp_right gapExceeded_iff.mp)
  case frameCheckFail after bytes => exact exec_still (exec_frameCheckFail after bytes s) rfl h
  case stopBitError after bytes => exact exec_still (exec_stopBitError after bytes s) rfl h
  all_goals exact request_still rfl h

/-! ## Pulse edges -/

/-- A ring of at most 8 times, the oldest discarded when it is full (R21). -/
theorem appendRing_eq (t : Time) (ring : List Time) : appendRing t ring = (ring ++ [t]).drop (ring.length + 1 - 8) := by
  unfold appendRing
  split
  · have : ring.length + 1 - 8 = 0 := by omega
    rw [this, List.drop_zero]
  · rw [List.drop_append_of_le_length (by omega), show ring.length + 1 - 8 = ring.length - 7 by omega]

theorem takeEdge_eq (ch : Side) (out : Bool) (now : Time) (p : PulseRun) : takeEdge ch out now p =
    if out = false then
      { p with
        holdOff := p.holdOff.set ch (some now)
        count := p.count.set ch (p.count.get ch + 1)
        ring := p.ring.set ch ((p.ring.get ch ++ [now]).drop ((p.ring.get ch).length + 1 - 8)) }
    else if ch = .a then { p with holdOff := p.holdOff.set ch (some now), maintenance := p.maintenance + 1 }
    else { p with holdOff := p.holdOff.set ch (some now) } := by
  cases out
  case false => simp [takeEdge, countEdge, Two.modify, appendRing_eq]
  case true => cases ch <;> simp [takeEdge, maintainEdge]

/-- Settles O21: an accepted edge is `takeEdge`; the hold-off of 50 µs decides whether it is taken. -/
theorem pulseEdgeRouted : Obligations.PulseEdgeRouted := by
  intro s u after r ch hu hl hf p now
  refine ⟨fun ended => ?_, fun t0 held within => ?_⟩
  · rw [exec_pulseEdge, event_at hu (pulseTaken_iff.mpr ⟨hl, hf, ended⟩)]
    simp only [pulseEdge, State.onPulse, Four.modify, takeEdge_eq, beq_eq_false_iff_ne]
    rfl
  · rw [exec_pulseEdge, event_still hu fun g => ?_]
    obtain ⟨-, -, ended⟩ := pulseTaken_iff.mp g
    exact Nat.not_le.mpr within (ended t0 held)

/-! ## The timed ends -/

/-- With a run fitted a scan begins with run 0's pressure (R28). -/
theorem startScan_first {s : State} (h : 0 < s.settings.build.runs) :
    startScan s = s.onLoop fun l => { l with converter := .converting (.p 0) 25000 } := by
  have first : (scanList s).head? = some (.p 0) := by
    simp [scanList, scanOrder, channelFitted, State.fitted, h]
  rw [startScan, first]
  rfl

/-- Settles O22: each guard is the condition of `Happens`, and each timed end is its own body. -/
theorem timedEndsTaken : Obligations.TimedEndsTaken := by
  refine ⟨exec_notHappening, fun s u after hu => ⟨fun hp hr hb => ?_, fun r ch t0 hp hh ho => ?_, fun p hp hs => ?_,
    fun d hl hr hd ho => ?_, fun e hl he ho => ?_⟩⟩
  · rw [exec_warmupEnd, event_at hu (warmupDone_iff.mpr ⟨hp, hr⟩), enterRunning, startScan_first (by exact hb)]
    rfl
  · rw [exec_pulseHoldOffEnd, event_at hu (pulseHoldOffDone_iff.mpr ⟨hp, t0, hh, ho⟩)]
    rfl
  · rw [exec_senseHoldOffEnd, event_at hu (senseHoldOffDone_iff.mpr ⟨hp, hs⟩)]
    rfl
  · rw [exec_recentDriveEnd, event_at hu (recentDriveDone_iff.mpr ⟨hl, hr, d, hd, ho⟩)]
    rfl
  · rw [exec_trimHoldOffEnd, event_at hu (trimHoldOffDone_iff.mpr ⟨hl, e, he, ho⟩)]
    rfl

end Sys2Proof.Proofs.Events
end

section
/-! PROOFS. A pair once pending stays pending: what raises it, what keeps it, and that its notice is then given. -/

namespace Sys2Proof.Proofs.Raised

open Sys2Proof Sys2Proof.Machine

/-- A pair of a class and a subject is pending (R187). -/
def Pending (c : NoticeClass) (n : Nat) (s : State) : Prop := s.link.notices.contains ⟨c, n⟩ = true

section

variable {c : NoticeClass} {n : Nat} {u s : State}

theorem given_of_pending (h : Pending c n s) : noticeGiven c n u s = true := by
  rw [noticeGiven, h, Bool.true_or]

/-- A pair pending as an event ends is given, unless the line was busy before and is free now. -/
theorem given_finish (hn : Notice.subjectInRange ⟨c, n⟩ = true) (hu : s.link.tx = u.link.tx) (h : Pending c n s) :
    noticeGiven c n u (finish s) = true :=
  noticeGiven_finish c n u s hn (by simp [hu]) (given_of_pending h)

theorem given_answered {f : Frame} (hn : Notice.subjectInRange ⟨c, n⟩ = true) (hu : s.link.tx = u.link.tx)
    (h : Pending c n s) : noticeGiven c n u (answered f s) = true :=
  noticeGiven_answered c n f u s hn (by simp [hu]) (given_of_pending h)

theorem pending_of_link {t : State} (hl : t.link = s.link) (h : Pending c n s) : Pending c n t := by
  rwa [Pending, hl]

/-- A notice raised while its class is enabled is pending. -/
theorem pending_raise (h : s.settings.active.station.enables.get c = true) : Pending c n (raise c n s) := by
  simp [Pending, raise, h, addNotice_self, -List.contains_eq_mem]

theorem raise_pending {d : NoticeClass} {m : Nat} (h : Pending c n s) : Pending c n (raise d m s) := by
  unfold raise
  split
  · exact addNotice_keeps _ _ _ h
  · exact h

/-- A fold of steps that keep a pair keeps it. -/
theorem foldl_pending {α : Type} {f : State → α → State} {l : List α} (hf : ∀ s a, Pending c n s → Pending c n (f s a))
    (h : Pending c n s) : Pending c n (l.foldl f s) := by
  induction l generalizing s with
  | nil => exact h
  | cons a l ih => exact ih (hf s a h)

/-- A fold one of whose steps raises a pair that every step keeps leaves it pending. -/
theorem foldl_raises {α : Type} {f : State → α → State} {l : List α} {a : α} (ha : a ∈ l)
    (hf : ∀ s b, Pending c n s → Pending c n (f s b)) (raises : ∀ front, front ++ [a] <+: l →
      Pending c n (f (front.foldl f s) a)) : Pending c n (l.foldl f s) := by
  obtain ⟨front, back, rfl⟩ := List.append_of_mem ha
  rw [List.foldl_append, List.foldl_cons]
  exact foldl_pending hf (raises front ⟨back, by simp⟩)

theorem raiseRuns_pending {test : RunId → Bool} (h : Pending c n s) : Pending c n (raiseRuns test s) :=
  foldl_pending (fun s r hs => by
    split
    · exact raise_pending hs
    · exact hs) h

/-- The RUN notice of a run that the test names is pending. -/
theorem pending_raiseRuns {test : RunId → Bool} {r : RunId} (ht : test r = true)
    (he : s.settings.active.station.enables.run = true) : Pending .run r.val (raiseRuns test s) := by
  refine foldl_raises (a := r) (by fin_cases r <;> decide) (fun s k hs => ?_) fun front _ => ?_
  · split
    · exact raise_pending hs
    · exact hs
  · have settings : (front.foldl (fun s r => if test r then raiseRun r s else s) s).settings = s.settings :=
      foldl_keeps (·.settings) _ (fun s r => by split <;> simp) _ s
    rw [if_pos ht]
    exact pending_raise (by rw [settings]; exact he)

theorem monitorNotices_pending {m : Fin 16} {was is : MonitorState} (h : Pending c n s) :
    Pending c n (monitorNotices m was is s) := by
  have critical : Pending c n (if is.critical && !was.critical then raise .critical m.val s else s) := by
    split
    · exact raise_pending h
    · exact h
  unfold monitorNotices
  dsimp only
  split
  · exact raise_pending critical
  · exact critical

/-- A CRITICAL condition newly set raises its notice (R156). -/
theorem pending_critical {m : Fin 16} {was is : MonitorState} (hw : was.critical = false) (hi : is.critical = true)
    (he : s.settings.active.station.enables.critical = true) : Pending .critical m.val (monitorNotices m was is s) := by
  simp only [monitorNotices, hw, hi, Bool.not_false, Bool.not_true, Bool.and_true, Bool.and_false, if_true,
    Bool.false_eq_true, if_false]
  exact pending_raise he

/-- An event newly asserted, without CRITICAL, raises its notice (R156). -/
theorem pending_limit {m : Fin 16} {was is : MonitorState} (hw : was.event = false) (hi : is.event = true)
    (hc : is.critical = false) (he : s.settings.active.station.enables.limit = true) :
    Pending .limit m.val (monitorNotices m was is s) := by
  simp only [monitorNotices, hw, hi, hc, Bool.not_false, Bool.and_true, Bool.false_and, if_true,
    Bool.false_eq_true, if_false]
  exact pending_raise he

/-- Where neither rises, no notice is raised (R156). -/
theorem monitorNotices_none {m : Fin 16} {was is : MonitorState} (hc : was.critical = true ∨ is.critical = false)
    (hl : was.event = true ∨ is.event = false ∨ is.critical = true) : monitorNotices m was is s = s := by
  have noCritical : (is.critical && !was.critical) = false := by
    rcases hc with h | h <;> simp [h]
  have noLimit : (is.event && !was.event && !is.critical) = false := by
    rcases hl with h | h | h <;> simp [h]
  rw [monitorNotices, noCritical, noLimit]
  rfl

theorem evaluate_pending {m : Fin 16} {v : Nat} (h : Pending c n s) : Pending c n (evaluate m v s) := by
  unfold evaluate
  split
  · exact monitorNotices_pending h
  · exact h

theorem limitSubject_inRange (m : Fin 16) : Notice.subjectInRange ⟨.limit, m.val⟩ = true := by
  simp [Notice.subjectInRange]

theorem criticalSubject_inRange (m : Fin 16) : Notice.subjectInRange ⟨.critical, m.val⟩ = true := by
  simp [Notice.subjectInRange]

end

end Sys2Proof.Proofs.Raised
end

section
/-! PROOFS. The loop-current front end, the runs its channels move, and what an evaluation makes of an event. -/

namespace Sys2Proof.Proofs.Conversions

open Sys2Proof Sys2Proof.Machine Sys2Proof.Proofs.Arms Sys2Proof.Proofs.Events Sys2Proof.Proofs.Raised
open Sys2Proof.Proofs.Steps Sys2Proof.Proofs.Orders Sys2Proof.Proofs.Dosing Sys2Proof.Proofs.LimitMonitors

/-! ## Readings (R31, R33) -/

section Zones

variable {lrv urv current : Nat}

theorem scaled_valid (lo : 4000 ≤ current) (hi : current ≤ 20000) : scaled lrv urv current =
    some (.valid, lrv + roundHalfUp ((current - 4000) * (urv - lrv)) 16000) := by
  simp [scaled, inRange, lo, hi]

theorem scaled_clampedLow (lo : 3800 ≤ current) (hi : current ≤ 3999) :
    scaled lrv urv current = some (.clampedLow, lrv) := by
  have outside : inRange 4000 20000 current = false := by simp [inRange]; omega
  have inside : inRange 3800 3999 current = true := by simp [inRange, lo, hi]
  simp only [scaled, outside, inside, Bool.false_eq_true, if_false, if_true]

theorem scaled_clampedHigh (lo : 20001 ≤ current) (hi : current ≤ 20500) :
    scaled lrv urv current = some (.clampedHigh, urv) := by
  have outside : inRange 4000 20000 current = false := by simp [inRange]; omega
  have notLow : inRange 3800 3999 current = false := by simp [inRange]; omega
  have inside : inRange 20001 20500 current = true := by simp [inRange, lo, hi]
  simp only [scaled, outside, notLow, inside, Bool.false_eq_true, if_false, if_true]

theorem scaled_none (out : current < 3800 ∨ 20500 < current) : scaled lrv urv current = none := by
  have never : ∀ lo hi, 3800 ≤ lo → hi ≤ 20500 → inRange lo hi current = false := fun lo hi _ _ => by
    simp [inRange]
    omega
  simp only [scaled, never 4000 20000 (by omega) (by omega), never 3800 3999 (by omega) (by omega),
    never 20001 20500 (by omega) (by omega)]
  rfl

end Zones

/-- A current beyond 25,000 µA is out of bounds either way. -/
theorem scaled_min (lrv urv current : Nat) : scaled lrv urv (min current 25000) = scaled lrv urv current := by
  rcases Nat.le_total current 25000 with h | h
  · rw [Nat.min_eq_left h]
  · rw [Nat.min_eq_right h, scaled_none (.inr (by omega)), scaled_none (.inr (by omega))]

theorem reading_eq (a : ActiveSections) (c : ChannelId) (current : Nat) : reading a c current =
    (scaled (rangeOf a c).1 (rangeOf a c).2 current).map fun x => (x.1, x.2 + absoluteOffset a c) := by
  rw [reading, scaled_min]

/-- Half up, the rounded share of a span is within half of its quotient and no more than the span. -/
theorem roundHalfUp_span {part span : Nat} (h : part ≤ 16000) :
    roundHalfUp (part * span) 16000 ≤ span
      ∧ 32000 * roundHalfUp (part * span) 16000 ≤ 2 * (part * span) + 16000
      ∧ 2 * (part * span) + 16000 < 32000 * (roundHalfUp (part * span) 16000 + 1) := by
  have share : part * span ≤ 16000 * span := Nat.mul_le_mul_right span h
  unfold roundHalfUp
  omega

/-- Settles O23: each zone is a case of `scaled`, and a gauge pressure adds the atmospheric one. -/
theorem readingByZone : Obligations.ReadingByZone := by
  intro a c current range lrv urv offset
  have gauge : absoluteOffset a c = offset := by cases c <;> simp [absoluteOffset, offset]
  simp only [reading_eq, gauge]
  refine ⟨fun lo hi => ?_, fun lo hi => ?_, fun lo hi => ?_, fun out => ?_⟩
  · obtain ⟨within, below, above⟩ := roundHalfUp_span (part := current - 4000) (span := urv - lrv) (by omega)
    refine ⟨_, by rw [scaled_valid lo hi]; rfl, Nat.le_add_right _ _, ?_, ?_, ?_⟩
    · exact (Nat.add_le_add_left within lrv).trans_eq (Nat.add_sub_cancel' range)
    · rwa [Nat.add_sub_cancel_left]
    · rwa [Nat.add_sub_cancel_left]
  · rw [scaled_clampedLow lo hi]
    rfl
  · rw [scaled_clampedHigh lo hi]
    rfl
  · rw [scaled_none out]
    rfl

/-! ## The next conversion (R28, R30) -/

/-- The channel converted after a completion; none after TANK in RUNNING. -/
def following (c : ChannelId) (s : State) : Option ChannelId :=
  (channelAfter c (scanList s)).or (if s.time.phase = .warmup then (scanList s).head? else none)

theorem nextConversion_eq (c : ChannelId) (s : State) : nextConversion c s = convert (following c s) s := by
  unfold nextConversion following
  cases channelAfter c (scanList s) with
  | some d => rfl
  | none =>
    by_cases warm : s.time.phase = .warmup
    · simp only [warm, if_true, startScan, Option.none_or]
    · simp only [warm, if_false, Option.none_or]

theorem convert_converter (o : Option ChannelId) (s : State) : (convert o s).loop.converter =
    o.elim .idle (fun d => .converting d 25000) := by
  cases o <;> rfl

theorem channelOf_convert (o : Option ChannelId) (s : State) (d : ChannelId) :
    channelOf (convert o s).loop d = channelOf s.loop d := by
  cases d <;> rfl

/-- The channels a scan converts with a number of runs fitted. -/
def scanOf (runs : Fin 5) : List ChannelId := (scanOrder.take (2 * runs.val)) ++ [.hdr, .tank]

def runsFitted (s : State) : Fin 5 := ⟨min s.settings.build.runs 4, by omega⟩

theorem fitted_iff {s : State} {r : RunId} : s.fitted r = true ↔ r.val < (runsFitted s).val := by
  simp only [State.fitted, runsFitted, decide_eq_true_iff]
  omega

theorem scanList_eq (s : State) : scanList s = scanOf (runsFitted s) := by
  have fitted : ∀ r, s.fitted r = decide (r.val < (runsFitted s).val) := fun r =>
    Bool.eq_iff_iff.mpr (fitted_iff.trans decide_eq_true_iff.symm)
  have kept : ∀ c, channelFitted s c = match c with
      | .p r | .t r => decide (r.val < (runsFitted s).val)
      | _ => true := fun c => by cases c <;> simp [channelFitted, fitted]
  rw [scanList, funext kept]
  generalize runsFitted s = runs
  fin_cases runs <;> rfl

theorem scanOf_afterP : ∀ (runs : Fin 5) (r : RunId), r.val < runs.val →
    channelAfter (.p r) (scanOf runs) = some (.t r) := by decide

theorem scanOf_afterT : ∀ (runs : Fin 5) (r k : RunId), r.val < runs.val → k.val = r.val + 1 → k.val < runs.val →
    channelAfter (.t r) (scanOf runs) = some (.p k) := by decide

theorem scanOf_afterLastT : ∀ (runs : Fin 5) (r : RunId), r.val < runs.val → (runs.val ≤ r.val + 1 ∨ r.val = 3) →
    channelAfter (.t r) (scanOf runs) = some .hdr := by decide

theorem scanOf_afterHdr : ∀ runs : Fin 5, channelAfter .hdr (scanOf runs) = some .tank := by decide

theorem scanOf_afterTank : ∀ runs : Fin 5, channelAfter .tank (scanOf runs) = none := by decide

theorem scanOf_first : ∀ runs : Fin 5, 0 < runs.val → (scanOf runs).head? = some (.p 0) := by decide

theorem following_eq (c : ChannelId) (s : State) : following c s = (channelAfter c (scanOf (runsFitted s))).or
    (if s.time.phase = .warmup then (scanOf (runsFitted s)).head? else none) := by
  rw [following, scanList_eq]

/-! ## The run a completion moves (R44) -/

theorem raiseRuns_only {test : RunId → Bool} {r : RunId} (h : ∀ k, k ≠ r → test k = false) (s : State) :
    raiseRuns test s = if test r then raiseRun r s else s := by
  have one : (fun (x : State) k => if test k then raiseRun k x else x)
      = fun x k => if k = r then (if test r then raiseRun r x else x) else x := by
    funext x k
    by_cases e : k = r
    · rw [if_pos e, e]
    · rw [if_neg e, h k e]
      rfl
  rw [raiseRuns, one]
  fin_cases r <;> rfl

theorem Four.set_get {α : Type} (t : Four α) (r : RunId) : t.set r (t.get r) = t := by
  fin_cases r <;> rfl

/-- The runs once one of them follows its channels. -/
def followed (r : RunId) (s : State) : Four RunControl :=
  if (s.run.get r).state = .metering ∨ (s.run.get r).state = .degraded
  then s.run.modify r fun c => { c with state := meteringState r s.loop }
  else s.run

theorem followed_moving {r : RunId} {s : State} (h : (s.run.get r).state = .metering ∨ (s.run.get r).state = .degraded) :
    followed r s = s.run.modify r fun c => { c with state := meteringState r s.loop } := if_pos h

theorem followed_still {r : RunId} {s : State} (h : ¬ ((s.run.get r).state = .metering ∨ (s.run.get r).state = .degraded)) :
    followed r s = s.run := if_neg h

theorem followed_other {r i : RunId} (h : i ≠ r) (s : State) : (followed r s).get i = s.run.get i := by
  unfold followed
  split
  · rw [Four.modify, Four.get_set, if_neg h]
  · rfl

theorem followed_same (r : RunId) (s : State) : ((followed r s).get r).state =
    if (s.run.get r).state = .metering ∨ (s.run.get r).state = .degraded then meteringState r s.loop
    else (s.run.get r).state := by
  unfold followed
  split
  · rw [Four.get_modify_same]
  · rfl

/-- A run that follows its channels is already as they say, or is moved with a notice. -/
theorem followChannels_moving {r : RunId} {s : State}
    (h : (s.run.get r).state = .metering ∨ (s.run.get r).state = .degraded) : followChannels r s =
      if meteringState r s.loop = (s.run.get r).state then s else raiseRun r (setRunState r (meteringState r s.loop) s) := by
  unfold followChannels meteringState
  rcases h with h | h <;> cases channelsUsable r s.loop <;> simp [h]

theorem followChannels_still {r : RunId} {s : State}
    (h : ¬ ((s.run.get r).state = .metering ∨ (s.run.get r).state = .degraded)) : followChannels r s = s := by
  unfold followChannels
  split <;> simp_all

theorem raiseRuns_none {test : RunId → Bool} (h : ∀ k, test k = false) (s : State) : raiseRuns test s = s := by
  rw [raiseRuns_only (r := 0) fun k _ => h k, h 0]
  rfl

/-- A run follows its channels, with a notice if that moves it. -/
theorem followChannels_eq (r : RunId) (s : State) : followChannels r s =
    raiseRuns (fun k => ((followed r s).get k).state != (s.run.get k).state) { s with run := followed r s } := by
  by_cases h : (s.run.get r).state = .metering ∨ (s.run.get r).state = .degraded
  · rw [followChannels_moving h, raiseRuns_only (r := r) fun k hk => by rw [followed_other hk, bne_self_eq_false],
      followed_moving h, Four.get_modify_same]
    by_cases same : meteringState r s.loop = (s.run.get r).state
    · have kept : (s.run.modify r fun c => { c with state := meteringState r s.loop }) = s.run := by
        rw [Four.modify, same]
        exact Four.set_get _ r
      rw [if_pos same, kept, same, bne_self_eq_false]
      rfl
    · rw [if_neg same, if_pos (bne_iff_ne.mpr same)]
      rfl
  · rw [followChannels_still h, followed_still h, raiseRuns_none fun k => bne_self_eq_false _]

/-- The runs once a channel's completion has been handed on. -/
def runsAfter (c : ChannelId) (s : State) : Four RunControl :=
  match c with
  | .p r | .t r => followed r s
  | _ => s.run

theorem followChannel_eq (c : ChannelId) (s : State) : followChannel c s =
    raiseRuns (fun k => ((runsAfter c s).get k).state != (s.run.get k).state) { s with run := runsAfter c s } := by
  cases c
  case p r => exact followChannels_eq r s
  case t r => exact followChannels_eq r s
  all_goals exact (raiseRuns_none (fun k => bne_self_eq_false _) s).symm

/-! ## A completion -/

theorem raiseRuns_convert (test : RunId → Bool) (o : Option ChannelId) (s : State) :
    raiseRuns test (convert o s) = convert o (raiseRuns test s) := by
  have one : ∀ r x, (if test r then raiseRun r (convert o x) else convert o x)
      = convert o (if test r then raiseRun r x else x) := fun r x => by
    split
    · exact raise_commutes (change := convert o) rfl (fun _ => rfl) _ _
    · rfl
  simp only [raiseRuns, runIds, List.foldl, one]

theorem standing_convert (m : Fin 16) (o : Option ChannelId) (s : State) : standing m (convert o s) = standing m s := by
  unfold standing
  simp only [channelOf_convert]
  rfl

theorem evaluate_convert (m : Fin 16) (v : Nat) (o : Option ChannelId) (s : State) :
    evaluate m v (convert o s) = convert o (evaluate m v s) :=
  evaluate_commutes (change := convert o) (fun c n _ => raise_commutes (change := convert o) rfl (fun _ => rfl) c n)
    (fun _ _ => rfl) rfl rfl (standing_convert m o s) v

/-- The channel stored by a completion. -/
def stored (c : ChannelId) (current : Nat) (u : State) : Channel :=
  completed (reading u.settings.active c current) (channelOf u.loop c)

/-- The loop-current front end once a completion is stored and the next conversion runs. -/
def loopAfter (c : ChannelId) (current : Nat) (u : State) : LoopFront :=
  (convert (following c u) (u.onLoop (setChannel c (stored c current u)))).loop

theorem channelOf_loopAfter (c d : ChannelId) (current : Nat) (u : State) :
    channelOf (loopAfter c current u) d = if d = c then stored c current u else channelOf u.loop d := by
  rw [loopAfter, channelOf_convert, State.onLoop_loop, channelOf_setChannel]

theorem following_of_eq {c : ChannelId} {s u : State} (ht : s.time = u.time) (hs : s.settings = u.settings) :
    following c s = following c u := by
  have fitted : runsFitted s = runsFitted u := by simp only [runsFitted, hs]
  rw [following_eq, following_eq, fitted, ht]

/-- A completion: the channel stored and the next conversion started, the run moved with its notice, the monitor evaluated. -/
theorem completion_eq (c : ChannelId) (current : Nat) (u : State) : completion c current u =
    evaluate (channelMonitor c) ((stored c current u).latest.getD 0)
      (raiseRuns (fun r => ((runsAfter c (u.onLoop (setChannel c (stored c current u)))).get r).state
          != (u.run.get r).state)
        { u with
          loop := loopAfter c current u
          run := runsAfter c (u.onLoop (setChannel c (stored c current u))) }) := by
  have next : completion c current u = convert (following c u) (evaluate (channelMonitor c)
      ((stored c current u).latest.getD 0) (followChannel c (u.onLoop (setChannel c (stored c current u))))) := by
    rw [completion, nextConversion_eq, following_of_eq (u := u) (by simp) (by simp)]
    rfl
  rw [next, ← evaluate_convert, followChannel_eq, ← raiseRuns_convert]
  rfl

section Completion

variable {c : ChannelId} {current : Nat} {u : State}

theorem completion_loop : (completion c current u).loop = loopAfter c current u := by
  simp [completion_eq]

theorem completion_run : (completion c current u).run
    = runsAfter c (u.onLoop (setChannel c (stored c current u))) := by
  simp [completion_eq]

theorem loopAfter_converter : (loopAfter c current u).converter = (following c u).elim .idle (.converting · 25000) :=
  convert_converter _ _

theorem loopAfter_converting {d : ChannelId} (h : channelAfter c (scanOf (runsFitted u)) = some d) :
    (loopAfter c current u).converter = .converting d 25000 := by
  rw [loopAfter_converter, following_eq, h]
  rfl

theorem exec_completion {s : State} {after : Nat} (hu : s.elapse after = u) (hl : u.live = true)
    (hc : u.loop.converter = .converting c 0) :
    exec (.conversionCompletion after current) s = .next (finish (completion c current u)) := by
  have due : conversionDone u = some c := conversionDone_eq.mpr ⟨hl, hc⟩
  rw [exec_conversionCompletion, event_at hu (by rw [due]; rfl), due]

theorem stored_eq (c : ChannelId) (current : Nat) (u : State) : stored c current u =
    let old := channelOf u.loop c
    match reading u.settings.active c current with
    | none => { old with state := .failed, recovery := 0 }
    | some (zone, v) =>
      if old.state = .failed ∧ old.recovery < 2 then { old with latest := some v, recovery := old.recovery + 1 }
      else { state := zone, latest := some v, lastGood := some v, recovery := 0 } := by
  unfold stored completed
  cases reading u.settings.active c current
  case none => rfl
  case some x => simp only [Bool.and_eq_true, decide_eq_true_iff]

end Completion

/-- Settles O24: a completion is its channel stored, its run moved and its monitor evaluated (`completion_eq`); the next
conversion is that of the scan list (`following_eq`). -/
theorem conversionCompletes : Obligations.ConversionCompletes := by
  intro s u after current c hu hl hc
  refine ⟨_, exec_completion hu hl hc, ?_⟩
  simp only [finish_loop, finish_run, completion_loop, completion_run]
  refine ⟨fun m hm => ?_, ?_, fun d hd => ?_, fun r hr hf => ?_, fun r k hr hf hk hfk => ?_, fun r hr hf hlast => ?_,
    fun hr => ?_, fun hr hp => ?_, fun hr hp hb => ?_⟩
  · have monitor : m = channelMonitor c := Fin.ext (by cases c <;> exact hm)
    rw [completion_eq, monitor, channelOf_loopAfter, if_pos rfl]
  · rw [channelOf_loopAfter, if_pos rfl]
    exact stored_eq c current u
  · rw [channelOf_loopAfter, if_neg hd]
  · subst hr
    exact loopAfter_converting (scanOf_afterP _ r (fitted_iff.mp hf))
  · subst hr
    exact loopAfter_converting (scanOf_afterT _ r k (fitted_iff.mp hf) hk (fitted_iff.mp hfk))
  · subst hr
    refine loopAfter_converting (scanOf_afterLastT _ r (fitted_iff.mp hf) (hlast.imp_left fun few => ?_))
    exact (Nat.min_le_left _ _).trans few
  · subst hr
    exact loopAfter_converting (scanOf_afterHdr _)
  · subst hr
    rw [loopAfter_converter, following_eq, scanOf_afterTank, hp]
    rfl
  · subst hr
    rw [loopAfter_converter, following_eq, scanOf_afterTank, hp, if_pos rfl,
      scanOf_first _ (Nat.lt_min.mpr ⟨hb, by decide⟩)]
    rfl

/-- A run's channels are both usable or the run is DEGRADED (R42). -/
theorem meteringState_eq (r : RunId) (l : LoopFront) : meteringState r l =
    if (l.p.get r).usable = true ∧ (l.t.get r).usable = true then .metering else .degraded := by
  simp [meteringState, channelsUsable]

/-- Settles O25: of the runs a completion moves the run of its channel alone (`runsAfter`), with its notice. -/
theorem runFollowsChannels : Obligations.RunFollowsChannels := by
  intro s u after current c r hu hl hc hcr
  refine ⟨_, exec_completion hu hl hc, ?_⟩
  let w := u.onLoop (setChannel c (stored c current u))
  have runs : runsAfter c w = followed r w := by rcases hcr with rfl | rfl <;> rfl
  have moved : ((followed r w).get r).state = _ := followed_same r w
  have pressures : (loopAfter c current u).p = w.loop.p := rfl
  have temperatures : (loopAfter c current u).t = w.loop.t := rfl
  simp only [finish_loop, finish_run, completion_loop, completion_run]
  rw [show runsAfter c (u.onLoop (setChannel c (stored c current u))) = followed r w from runs, pressures, temperatures]
  refine ⟨⟨fun moving both => ?_, fun moving notBoth => ?_, fun still => ?_, fun changed enabled => ?_⟩, fun i hi => ?_⟩
  · rw [moved, if_pos (by exact moving), meteringState_eq, if_pos both]
  · rw [moved, if_pos (by exact moving), meteringState_eq, if_neg notBoth]
  · refine moved.trans (if_neg ?_)
    rcases still with h | h <;> simp [w, h]
  · refine given_finish (runSubject_inRange r) (congrArg (·.2.1) (completion_line c current u)) ?_
    rw [completion_eq]
    refine evaluate_pending (pending_raiseRuns ?_ enabled)
    rw [show runsAfter c (u.onLoop (setChannel c (stored c current u))) = followed r w from runs]
    exact bne_iff_ne.mpr changed
  · exact followed_other hi w

end Sys2Proof.Proofs.Conversions
end

section
/-! PROOFS. The standing of a monitor, and the latch, the event and the notices of an evaluation (chapter 9). -/

namespace Sys2Proof.Proofs.Judgements

open Sys2Proof Sys2Proof.Machine Sys2Proof.Proofs.LimitMonitors Sys2Proof.Proofs.Raised

/-! ## The standing of a monitor (R151) -/

theorem monitorRun_iff : ∀ (m : Fin 16) (r : RunId), monitorRun m = some r ↔ OfRun m r := by
  unfold OfRun
  decide

theorem monitorChannel_iff (m : Fin 16) (c : ChannelId) : monitorChannel m = some c ↔ Watches m c := by
  cases c
  case p r => revert m r; unfold Watches; decide
  case t r => revert m r; unfold Watches; decide
  case hdr => revert m; unfold Watches; decide
  case tank => revert m; unfold Watches; decide

/-- The standing by the channel a monitor watches, once its run stands in no way. -/
def channelStanding (m : Fin 16) (s : State) : Standing :=
  if (monitorChannel m).all fun c => (channelOf s.loop c).usable then .evaluated else .inputFailed

section Standing

variable {m : Fin 16} {s : State}

theorem standing_disabled (h : (s.settings.active.monitors.get m).enabled = false) : standing m s = .disabled := by
  simp [standing, h]

theorem standing_enabled (h : (s.settings.active.monitors.get m).enabled = true) : standing m s =
    if ∃ r, monitorRun m = some r ∧ s.fitted r = false then .notFitted
    else if ∃ r, monitorRun m = some r ∧ (s.run.get r).state = .out then .runOut
    else channelStanding m s := by
  unfold standing channelStanding
  rw [h]
  cases monitorRun m with
  | none => cases monitorChannel m <;> simp
  | some r => cases s.fitted r <;> cases monitorChannel m <;> simp

theorem channelStanding_watches {c : ChannelId} (hc : Watches m c) : channelStanding m s =
    if (channelOf s.loop c).state = .failed then .inputFailed else .evaluated := by
  rw [channelStanding, (monitorChannel_iff m c).mpr hc]
  by_cases failed : (channelOf s.loop c).state = .failed <;> simp [Channel.usable, failed]

theorem channelStanding_none (hc : ∀ c, ¬ Watches m c) : channelStanding m s = .evaluated := by
  have none : monitorChannel m = none := Option.eq_none_iff_forall_ne_some.mpr fun c h =>
    hc c ((monitorChannel_iff m c).mp h)
  rw [channelStanding, none]
  rfl

/-- A monitor of a run fitted and not OUT, or of none, stands by its channel. -/
theorem standing_channel (he : (s.settings.active.monitors.get m).enabled = true)
    (hr : ∀ r, OfRun m r → s.fitted r = true ∧ (s.run.get r).state ≠ .out) : standing m s = channelStanding m s := by
  rw [standing_enabled he, if_neg, if_neg]
  · rintro ⟨r, h, out⟩
    exact (hr r ((monitorRun_iff m r).mp h)).2 out
  · rintro ⟨r, h, unfitted⟩
    exact Bool.false_ne_true (unfitted.symm.trans (hr r ((monitorRun_iff m r).mp h)).1)

theorem standing_notFitted {r : RunId} (he : (s.settings.active.monitors.get m).enabled = true) (hr : OfRun m r)
    (hf : s.fitted r = false) : standing m s = .notFitted := by
  rw [standing_enabled he, if_pos ⟨r, (monitorRun_iff m r).mpr hr, hf⟩]

theorem standing_runOut {r : RunId} (he : (s.settings.active.monitors.get m).enabled = true) (hr : OfRun m r)
    (hf : s.fitted r = true) (ho : (s.run.get r).state = .out) : standing m s = .runOut := by
  have only : monitorRun m = some r := (monitorRun_iff m r).mpr hr
  rw [standing_enabled he, if_neg, if_pos ⟨r, only, ho⟩]
  rintro ⟨k, h, unfitted⟩
  obtain rfl : r = k := Option.some.inj (only.symm.trans h)
  exact Bool.false_ne_true (unfitted.symm.trans hf)

end Standing

/-! ## The latch and the event of an evaluation (R153, R154) -/

section Evaluated

variable {low : Bool} {c : MonitorSettings} {v : Nat} {old : MonitorState}

/-- In FOLLOW the event is any condition and there is no latch. -/
theorem evaluated_follow (h : c.mode = .follow) : let new := evaluated low c v old
    new.latch = false ∧ new.event = (new.low || new.high || new.critical) := by
  simp [evaluated, MonitorState.formed, eventOf, h]

/-- In LATCH a LOW or HIGH latches, and the event is the latch or CRITICAL. -/
theorem evaluated_latch (h : c.mode = .latch) : let new := evaluated low c v old
    new.latch = (old.latch || new.low || new.high) ∧ new.event = (new.latch || new.critical) := by
  simp [evaluated, MonitorState.formed, eventOf, h]

theorem evaluated_criticalOnly (h : c.mode = .criticalOnly) : let new := evaluated low c v old
    new.latch = false ∧ new.event = new.critical := by
  simp [evaluated, MonitorState.formed, eventOf, h]

end Evaluated

/-- In the high sense the critical limit is not below the high one (R153). -/
theorem critical_above_high {c : MonitorSettings} (h : c.valid false = true) : c.high ≤ c.critical := by
  simp only [MonitorSettings.valid, Bool.and_eq_true, Bool.false_eq_true, if_false, decide_eq_true_iff] at h
  exact h.1.2

/-- In the low sense the critical limit is not above the low one (R153). -/
theorem critical_below_low {c : MonitorSettings} (h : c.valid true = true) : c.critical ≤ c.low := by
  simp only [MonitorSettings.valid, Bool.and_eq_true, if_true, decide_eq_true_iff] at h
  exact h.1.2

/-- Settles O27: the standing is a case of `standing_enabled`; what an evaluation made leaves is `evaluated`, and its notices
are those of `monitorNotices`. -/
theorem monitorEvents : Obligations.MonitorEvents := by
  refine ⟨fun s m => ⟨standing_disabled, fun enabled => ⟨fun r hr => ⟨standing_notFitted enabled hr,
    standing_runOut enabled hr⟩, fun runs => ⟨fun c hc => ?_, fun hc => ?_⟩⟩, fun unmade v => if_neg unmade⟩,
    fun s m v made => ?_⟩
  · rw [standing_channel enabled runs, channelStanding_watches hc]
    exact ⟨fun failed => if_pos failed, fun good => if_neg good⟩
  · rw [standing_channel enabled runs, channelStanding_none hc]
  intro t c old new
  have hnew : new = evaluated (lowSense m) c v old := by simp [new, t, c, old, evaluate_monitors made]
  have ht : t = monitorNotices m old new (setMonitor m new s) := by
    rw [hnew]
    exact if_pos made
  refine ⟨fun mode => hnew ▸ evaluated_follow mode, fun mode => hnew ▸ evaluated_latch mode,
    fun mode => hnew ▸ evaluated_criticalOnly mode, fun was is enabled => ?_, fun was is calm enabled => ?_,
    fun hc hl => ?_, fun valid h13 h15 above => ?_, fun valid sense below => ?_⟩
  · rw [ht]
    exact given_of_pending (pending_critical was is enabled)
  · rw [ht]
    exact given_of_pending (pending_limit was is calm enabled)
  · rw [ht, monitorNotices_none hc hl]
    rfl
  · have sense : ¬ (m = 13 ∨ m = 15) := not_or.mpr ⟨h13, h15⟩
    rw [Bool.eq_false_iff.mpr (mt (lowSense_iff m).mp sense)] at valid
    rw [hnew, evaluated_critical, evaluated_high, criticalCondition_highSense sense]
    exact ⟨highCondition_above above, highCondition_above ((critical_above_high valid).trans_lt above)⟩
  · rw [(lowSense_iff m).mpr sense] at valid
    rw [hnew, evaluated_critical, evaluated_low, criticalCondition_lowSense sense]
    exact ⟨lowCondition_below below, lowCondition_below (below.trans_le (critical_below_low valid))⟩

end Sys2Proof.Proofs.Judgements
end

section
/-! PROOFS. Entries carried out on the auxiliary lines and the timer, the store's completions, the link's line. -/

namespace Sys2Proof.Proofs.Lines

open Sys2Proof Sys2Proof.Machine Sys2Proof.Proofs.Arms Sys2Proof.Proofs.Events Sys2Proof.Proofs.Raised
open Sys2Proof.Proofs.Basics Sys2Proof.Proofs.Codec

/-! ## Entries -/

/-- An entry due leaves the table and its action follows (R127). -/
theorem entry_at {k : EntryKind} {action : Nat → State → State} {after : Nat} {id : Fin 8} {e : Entry} {s u : State}
    (hu : s.elapse after = u) (hl : u.live = true) (hat : u.table.at id.val = some e) (hk : e.kind = k)
    (hr : reached e.due u.now = true) : carryOut k action after id s =
      .next (finish (action e.target { u with table := { u.table with places := u.table.places.set id.val none } })) := by
  unfold carryOut
  rw [event_at hu (entryDue_iff.mpr ⟨hl, e, hat, hk, hr⟩), hat]
  rfl

theorem timerFrame_built (n : Nat) (s : State) : noticeFrame .timer n (buildNotice ⟨.timer, n⟩ s) = true := by
  simp [noticeFrame, buildNotice, noticePayload, bytesLE, byteOf]

/-- A timer notice pending as an event ends is given, whatever its subject. -/
theorem given_timer {n : Nat} {u s : State} (hu : s.link.tx = u.link.tx) (h : Pending .timer n s) :
    noticeGiven .timer n u (finish s) = true := by
  by_cases free : (serveStore s).live = true ∧ (serveStore s).time.restartDue = false ∧ s.link.tx = none
  case neg =>
    have still : serveLink (serveStore s) = serveStore s := serveLink_still (by
      by_cases hl : (serveStore s).live = true
      · by_cases hr : (serveStore s).time.restartDue = true
        · exact .inr (.inl hr)
        · exact .inr (.inr fun hn => free ⟨hl, by simpa using hr, by simpa using hn⟩)
      · exact .inl (by simpa using hl))
    rw [finish, still]
    exact given_of_pending (pending_of_link (by simp) h)
  case pos =>
    obtain ⟨hl, hr, ht⟩ := free
    rcases serveLink_cases (serveStore s) with e | ⟨f, rest, -, e⟩ | ⟨m, rest, -, hm, e⟩ <;> rw [finish, e]
    · exact given_of_pending (pending_of_link (by simp) h)
    · exact given_of_pending (show Pending .timer n _ from by simpa [Pending] using h)
    · rw [serveStore_link] at hm
      rw [Pending, hm, List.contains_cons, Bool.or_eq_true] at h
      rcases h with same | later
      · obtain rfl : (⟨.timer, n⟩ : Notice) = m := by simpa using same
        simp [noticeGiven, sending, ← hu, ht, timerFrame_built]
      · exact given_of_pending later

/-- Settles O33: an auxiliary entry sets its line, a timer entry raises its notice. -/
theorem auxAndTimerEntries : Obligations.AuxAndTimerEntries := by
  intro s u after id e hu hl hat hr
  refine ⟨fun line hk ht => ?_, fun line hk ht => ?_, fun hk => ⟨_, ?_, rfl, fun enabled => ?_⟩⟩
  · rw [exec_auxOnEntryDue, entry_at hu hl hat hk hr, setAux, ht]
    rfl
  · rw [exec_auxOffEntryDue, entry_at hu hl hat hk hr, setAux, ht]
    rfl
  · rw [exec_timerNoticeEntryDue, entry_at hu hl hat hk hr]
  · exact given_timer (by simp) (pending_raise enabled)

/-! ## The store -/

/-- A write put in the store changes stored copies alone. -/
theorem put_eq (c : StoreContent) (st : Store) : st.put c = { st with
    sections := (st.put c).sections, flags := (st.put c).flags, ring := (st.put c).ring, resume := (st.put c).resume } := by
  cases c <;> rfl

/-- Clearing marks changes the recorder and the settings alone. -/
theorem clearMarks_eq (w : StoreWrite) (s : State) : clearMarks w s = { s with
    recorder := (clearMarks w s).recorder, settings := (clearMarks w s).settings } := by
  obtain ⟨content, left, stale⟩ := w
  cases content <;> cases stale <;> rfl

section Marks

variable {w : StoreWrite} {s : State}

theorem clearMarks_resume {r : ResumeRecord} (h : w.content = .resume r) : clearMarks w s = s := by
  simp [clearMarks, h]

theorem clearMarks_ring {ring : List PeriodRecord} {q : Option Time} (h : w.content = .ring ring q) :
    clearMarks w s = s.onRecorder fun r => { r with storedThrough := q } := by
  simp [clearMarks, h]

theorem clearMarks_flags {f : PerSection Bool} (h : w.content = .flags f) : clearMarks w s =
    if w.stale then s else s.onSettings fun g => { g with flagsUnstored := false } := by
  simp [clearMarks, h]

theorem clearMarks_section {i : SectionId} (h : w.content.item = .sectionCopy i) : clearMarks w s =
    if w.stale then s else s.onSettings fun g => { g with unstored := g.unstored.set i false } := by
  cases hc : w.content <;> simp_all [clearMarks, StoreContent.item]

end Marks

theorem copyWritten_of_copies {c : StoreContent} {a b : Store} (hs : b.sections = a.sections) (hf : b.flags = a.flags)
    (hr : b.ring = a.ring) (hm : b.resume = a.resume) (h : CopyWritten c a) : CopyWritten c b := by
  cases c <;> simpa [CopyWritten, hs, hf, hr, hm] using h

theorem otherCopiesKept_of_copies {i : StoreItem} {a b c : Store} (hs : c.sections = b.sections) (hf : c.flags = b.flags)
    (hr : c.ring = b.ring) (hm : c.resume = b.resume) (h : OtherCopiesKept i a b) : OtherCopiesKept i a c := by
  simpa [OtherCopiesKept, hs, hf, hr, hm] using h

/-- A write that an event's end starts holds memory as that event leaves it. -/
theorem writeStarted_self {i : StoreItem} {s : State} (h : WriteStarted i s (finish s)) :
    WriteStarted i (finish s) (finish s) := by
  obtain ⟨w, hw, holds, left, stale⟩ := h
  exact ⟨w, hw, itemHolds_finish i s w.content holds, left, stale⟩

/-- Settles O35: a completion is `clearMarks` and `Store.put`, and the store is then served. -/
theorem storeWriteCompletes : Obligations.StoreWriteCompletes := by
  intro s u after w hu hp hw left
  have taken : exec (.storeWriteComplete after) s = .next (finish (completeWrite w u)) := by
    rw [exec_storeWriteComplete, event_at hu (writeDone_iff.mpr ⟨hp, w, hw, left⟩), hw]
  obtain ⟨sections, flags, ring, resume⟩ := finish_stored (completeWrite w u)
  have store : (completeWrite w u).store = { u.store.put w.content with writing := none } := by
    rw [completeWrite, State.onStore_store, clearMarks_eq]
  obtain ⟨written, others⟩ := put_copies w.content u.store
  rw [store] at sections flags ring resume
  have recorder : (finish (completeWrite w u)).recorder = (clearMarks w u).recorder := by simp [completeWrite]
  have settings : (finish (completeWrite w u)).settings = (clearMarks w u).settings := by simp [completeWrite]
  refine ⟨_, taken, congrArg finish ?_, copyWritten_of_copies sections flags ring resume written,
    otherCopiesKept_of_copies sections flags ring resume others, fun r hr => ?_, fun rs q hr => ?_, fun f hf => ?_,
    fun i hi => ?_, fun hl hn i hi => ?_, fun hn hi => ?_, fun hn => ?_⟩
  · rw [recorder, settings, sections, flags, ring, resume, completeWrite, clearMarks_eq]
    exact congrArg (fun st : Store => { u with
      recorder := (clearMarks w u).recorder, settings := (clearMarks w u).settings, store := { st with writing := none } })
      (put_eq w.content u.store)
  · rw [recorder, settings, clearMarks_resume hr, resume, hr]
    exact ⟨rfl, rfl, rfl⟩
  · rw [recorder, settings, clearMarks_ring hr, ring, hr]
    exact ⟨rfl, rfl, rfl⟩
  · rw [recorder, settings, clearMarks_flags hf, flags, hf]
    cases w.stale <;> exact ⟨rfl, rfl, rfl⟩
  · rw [recorder, settings, clearMarks_section hi]
    cases w.stale <;> exact ⟨rfl, rfl⟩
  all_goals have idle : (completeWrite w u).store.writing = none := by rw [store]
  · have warned : (completeWrite w u).store.warningResume = false := by rw [store, put_eq]; exact hn
    have first : (completeWrite w u).store.list.first? = some i := by rw [store, put_eq]; exact hi
    have live : (completeWrite w u).live = true := by simpa [State.live, completeWrite] using hl
    have starts := serveStore_first idle warned live first
    refine ⟨writeStarted_self (writeStarted_finish starts), ?_⟩
    rw [finish_store, starts, startWrite, State.onStore_store, store, put_eq]
  · have warned : (completeWrite w u).store.warningResume = false := by rw [store, put_eq]; exact hn
    have none : (completeWrite w u).store.list.first? = none := by rw [store, put_eq]; exact hi
    rw [finish_store, serveStore_idle idle warned (.inr none), idle]
  · have warned : (completeWrite w u).store.warningResume = true := by rw [store, put_eq]; exact hn
    have starts := serveStore_warning idle warned
    refine ⟨writeStarted_self (writeStarted_finish starts), ?_⟩
    rw [finish_store, starts]
    rfl

/-! ## Reception faults -/

/-- Bytes that complete no request leave the part as it was, its receiver in HUNT. -/
theorem receptionFault_noRequest {bytes : List LineByte} {u : State} (hr : u.link.receiver = huntReceiver)
    (hn : noRequest bytes = true) : receptionFault bytes u = u := by
  have none : (takeBytes u.link.receiver bytes).2 = [] := by
    rw [hr]
    exact List.isEmpty_iff.mp hn
  simp only [receptionFault, receiveBytes, none, List.foldl_nil, dropFrame, State.onLink]
  rw [← hr]

theorem takeBytes_gap {x : LineByte} (h : 20000 < x.gap) (r : Receiver) (rest : List LineByte) :
    takeBytes r (x :: rest) = takeBytes huntReceiver (x :: rest) := by
  simp [takeBytes, waited, gapExceeded_iff.mpr h]

/-- Settles O36: bytes without a request change nothing, and a gap above 20 ms is taken in HUNT. -/
theorem receptionFaultsDropFrame : Obligations.ReceptionFaultsDropFrame := by
  refine ⟨fun s u after gap bytes hu hl hr hn => ⟨fun long => ?_, fun short => ?_, ?_, ?_, finish_eq u, ?_⟩,
    fun r before x rest => ⟨fun long => ?_, fun short => ?_⟩⟩
  · rw [exec_receiveTimeout, event_at hu (by simp only [hl, gapExceeded_iff.mpr long, Bool.and_self]),
      receptionFault_noRequest hr hn]
  · rw [exec_receiveTimeout, event_still hu]
    intro due
    exact Nat.not_lt.mpr short (gapExceeded_iff.mp (Bool.and_eq_true_iff.mp due).2)
  · rw [exec_frameCheckFail, event_at hu hl, receptionFault_noRequest hr hn]
  · rw [exec_stopBitError, event_at hu hl, receptionFault_noRequest hr hn]
  · rw [finish_receiver, hr]
  · rw [takeBytes_append, takeBytes_gap long]
  · rw [takeBytes, waited_short short]

/-! ## The end of a frame sent -/

theorem buildNotice_serveStore (n : Notice) (s : State) : buildNotice n (serveStore s) = buildNotice n s := by
  simp [buildNotice, noticePayload, State.now]

theorem subjectMonitor_val (m : Fin 16) : subjectMonitor m.val = m := Fin.ext (Nat.mod_eq_of_lt m.isLt)

theorem subjectRun_val (r : RunId) : subjectRun r.val = r := Fin.ext (Nat.mod_eq_of_lt r.isLt)

theorem isRestartReply_iff (f : Frame) : isRestartReply f = true ↔ f.kind = 0xAF#8 ∧ f.payload = [0x00#8] := by
  simp [isRestartReply]

section FrameSent

variable {u : State} {x : Sending}

theorem endFrame_answered (hx : u.link.tx = some x)
    (h : u.time.restartPending = true ∧ x.frame.kind = 0xAF#8 ∧ x.frame.payload = [0x00#8]) : endFrame u = { u with
      time := { u.time with restartPending := false, restartDue := true }
      link := { u.link with tx := none } } := by
  have answered : (u.time.restartPending && isRestartReply x.frame) = true :=
    Bool.and_eq_true_iff.mpr ⟨h.1, (isRestartReply_iff x.frame).mpr h.2⟩
  simp only [endFrame, hx, answered, if_true]
  rfl

theorem endFrame_unanswered (hx : u.link.tx = some x)
    (h : ¬ (u.time.restartPending = true ∧ x.frame.kind = 0xAF#8 ∧ x.frame.payload = [0x00#8])) :
    endFrame u = { u with link := { u.link with tx := none } } := by
  have unanswered : ¬ (u.time.restartPending && isRestartReply x.frame) = true := fun e =>
    h ((Bool.and_eq_true_iff.mp e).imp_right (isRestartReply_iff x.frame).mp)
  simp only [endFrame, hx, if_neg unanswered]
  rfl

end FrameSent

/-- Settles O37: the line is free, the store is served, then the link (`serveLink_free`), its notice built by `noticePayload`. -/
theorem frameSentServesNext : Obligations.FrameSentServesNext := by
  intro s u after x hu hl hx left
  have taken : exec (.frameSent after) s = .next (finish (endFrame u)) := by
    rw [exec_frameSent, event_at hu (frameDone_iff.mpr ⟨hl, x, hx, left⟩)]
  refine ⟨_, taken, fun unanswered notDue => ?_, fun answered => ?_⟩
  · rw [endFrame_unanswered hx unanswered]
    let v : State := { u with link := { u.link with tx := none } }
    have live : (serveStore v).live = true := by simpa [State.live, v] using hl
    have served := serveLink_free live (by simpa [v] using notDue) (by simp [v])
    refine ⟨rfl, fun f rest hq => ?_, fun n rest hq hn => ?_, fun hq hn => ?_⟩
    · rw [finish_link, served]
      simp [v, hq]
    · have line : (finish v).link = { u.link with notices := rest, tx := some (sending (buildNotice n v)) } := by
        rw [finish_link, served]
        simp [v, hq, hn, buildNotice_serveStore]
      rw [line]
      refine ⟨rfl, _, rfl, rfl, rfl, fun m hc hm => ?_, fun hc => ?_, fun r hc hr => ?_, fun y older hc hy => ?_,
        fun hc => ?_⟩
      · rcases hc with hc | hc <;> simp [sending, buildNotice, noticePayload, hc, hm, subjectMonitor_val, v, State.now]
      · simp [sending, buildNotice, noticePayload, hc, v, State.now]
      · simp [sending, buildNotice, noticePayload, hc, hr, subjectRun_val, v, State.now]
      · simp [sending, buildNotice, noticePayload, hc, hy, v, State.now]
      · simp [sending, buildNotice, noticePayload, hc, v, State.now]
    · rw [finish_link, served]
      simp [v, hq, hn]
  · rw [endFrame_answered hx answered]
    refine ⟨rfl, ?_⟩
    rw [finish_link, serveLink_still (.inr (.inl (by simp))), serveStore_link]

end Sys2Proof.Proofs.Lines
end

section
/-! PROOFS. Strokes: the end of a drive, its start by a STROKE entry, and the edges that confirm it or are stray. -/

namespace Sys2Proof.Proofs.Strokes

open Sys2Proof Sys2Proof.Machine Sys2Proof.Proofs.Arms Sys2Proof.Proofs.Events Sys2Proof.Proofs.Raised
open Sys2Proof.Proofs.Orders Sys2Proof.Proofs.Dosing Sys2Proof.Proofs.LimitMonitors Sys2Proof.Proofs.Lines

theorem other_ne (p : Side) : p.other ≠ p := by cases p <;> decide

theorem eq_other {p q : Side} (h : q ≠ p) : q = p.other := by cases p <;> cases q <;> simp_all [Side.other]

theorem other_other (p : Side) : p.other.other = p := by cases p <;> rfl

/-! ## The end of a drive -/

/-- A pump at the end of its drive: its line off (R103). -/
def off (x : Pump) : Pump := { x with line := false, driveEnd := none, confirmedInDrive := false }

/-- The part as a drive whose stroke is confirmed ends: the pump READY, perhaps on duty, FAULT ended (R90, R91, R103). -/
def proven (p : Side) (u : State) : State := { u with
  pump := u.pump.set p { off (u.pump.get p) with state := .ready }
  dose := { u.dose with
    duty := if u.dose.duty ≠ p ∧ (u.pump.get p.other).state ≠ .ready ∧ u.dose.state ≠ .confirmWait then p else u.dose.duty
    state := if u.dose.state = .fault then .armed else u.dose.state } }

theorem readied_proven (p : Side) (u : State) :
    readied p (u.onPump (·.set p { off (u.pump.get p) with state := .ready })) = proven p u := by
  have duty : (if ((u.pump.set p { off (u.pump.get p) with state := .ready }).get u.dose.duty).state = .ready
        ∨ u.dose.state = .confirmWait then u.dose.duty else p)
      = if u.dose.duty ≠ p ∧ (u.pump.get p.other).state ≠ .ready ∧ u.dose.state ≠ .confirmWait then p
        else u.dose.duty := by
    by_cases own : u.dose.duty = p
    · simp [own]
    · have side : u.dose.duty = p.other := eq_other own
      by_cases ready : (u.pump.get p.other).state = .ready <;> by_cases wait : u.dose.state = .confirmWait <;>
        simp [side, Two.get_set, ready, wait]
  exact congrArg (fun q => ({ u with
    pump := u.pump.set p { off (u.pump.get p) with state := .ready }
    dose := { u.dose with duty := q, state := if u.dose.state = .fault then .armed else u.dose.state } } : State)) duty

theorem endDrive_confirmed {p : Side} {u : State} (driving : (u.pump.get p).state = .driving)
    (confirmed : (u.pump.get p).confirmedInDrive = true) : endDrive p u =
      schedulingCheck (if u.dose.state = .fault then raise .dosing 0 (proven p u) else proven p u) := by
  have work : endDrive p u = pumpBecameReady p (u.onPump (·.set p { off (u.pump.get p) with state := .ready })) := by
    simp only [endDrive, driving, confirmed]
    rfl
  rw [work, pumpBecameReady_work, ← schedulingCheck_raise, readied_proven, apply_ite schedulingCheck]
  rfl

theorem endDrive_unproved {p : Side} {u : State} (driving : (u.pump.get p).state = .driving)
    (unproved : (u.pump.get p).confirmedInDrive = false) :
    endDrive p u = { u with pump := u.pump.set p { off (u.pump.get p) with state := .await } } := by
  simp only [endDrive, driving, unproved]
  rfl

theorem endDrive_still {p : Side} {u : State} (other : (u.pump.get p).state ≠ .driving) :
    endDrive p u = { u with pump := u.pump.set p (off (u.pump.get p)) } := by
  unfold endDrive
  dsimp only
  split
  · exact absurd (by assumption) other
  · exact absurd (by assumption) other
  · rfl

/-- What the end of a drive leaves (R103), by the pump's state and whether its stroke is confirmed. -/
theorem driveOver_endDrive (p : Side) (u : State) : DriveOver p u (endDrive p u) :=
  ⟨endDrive_still, endDrive_unproved, endDrive_confirmed⟩

theorem schedulingCheck_notFault {s : State} (h : s.dose.state ≠ .fault) : (schedulingCheck s).dose.state ≠ .fault := by
  by_cases owed : strokeOwed s = true
  · rw [schedulingCheck_owed owed]
    exact DosingState.noConfusion
  · rwa [schedulingCheck_notOwed owed]

/-- Settles O30: DRIVE_END is the end of the drive, and the check leaves no FAULT behind. -/
theorem driveEnds : Obligations.DriveEnds := by
  intro s u after p d hu hl hd hr
  refine ⟨endDrive p u, ?_, driveOver_endDrive p u, fun driving confirmed => ?_⟩
  · rw [exec_driveEnd, event_at hu (by rw [hl, driveEnded_iff.mpr ⟨d, hd, hr⟩]; rfl)]
  · rw [endDrive_confirmed driving confirmed]
    have dose : (if u.dose.state = .fault then raise .dosing 0 (proven p u) else proven p u).dose = (proven p u).dose := by
      split <;> simp
    have pump : (if u.dose.state = .fault then raise .dosing 0 (proven p u) else proven p u).pump = (proven p u).pump := by
      split <;> simp
    refine ⟨?_, schedulingCheck_notFault ?_, ?_, fun other unready waiting => ?_⟩
    · rw [schedulingCheck_pump, pump]
      simp [proven]
    · rw [dose]
      by_cases fault : u.dose.state = .fault <;> simp [proven, fault]
    · rw [schedulingCheck_dose, dose]
      rfl
    · rw [schedulingCheck_dose, dose]
      exact if_pos ⟨other, unready, waiting⟩

/-! ## A STROKE entry (R86, R87, R104) -/

theorem place_aux (e : Entry) (t : ActionTable) : (t.place e).aux = t.aux := by
  unfold ActionTable.place
  split <;> rfl

theorem schedulingCheck_aux (s : State) : (schedulingCheck s).table.aux = s.table.aux := by
  by_cases owed : strokeOwed s = true
  · rw [schedulingCheck_owed owed]
    exact place_aux _ _
  · rw [schedulingCheck_notOwed owed]

section Over

variable {p : Side} {u : State}

/-- The end of a drive changes that pump, the doses, their table and the notices alone. -/
theorem endDrive_frame (p : Side) (u : State) : (endDrive p u).table.aux = u.table.aux
    ∧ ∃ st, (endDrive p u).pump = u.pump.set p { off (u.pump.get p) with state := st } := by
  by_cases driving : (u.pump.get p).state = .driving
  · by_cases confirmed : (u.pump.get p).confirmedInDrive = true
    · rw [endDrive_confirmed driving confirmed, schedulingCheck_aux, schedulingCheck_pump]
      split
      · rw [raise_eq]
        exact ⟨rfl, .ready, rfl⟩
      · exact ⟨rfl, .ready, rfl⟩
    · rw [endDrive_unproved driving (by simpa using confirmed)]
      exact ⟨rfl, .await, rfl⟩
  · rw [endDrive_still driving]
    exact ⟨rfl, (u.pump.get p).state, rfl⟩

/-- While a stroke waits, the end of a drive leaves the table. -/
theorem endDrive_table (waiting : u.dose.state = .strokeWait) : (endDrive p u).table = u.table := by
  by_cases driving : (u.pump.get p).state = .driving
  · by_cases confirmed : (u.pump.get p).confirmedInDrive = true
    · have calm : (proven p u).dose.state = .strokeWait := by simp [proven, waiting]
      rw [endDrive_confirmed driving confirmed, if_neg (by simp [waiting]),
        schedulingCheck_of_not_armed (by simp [calm])]
      rfl
    · rw [endDrive_unproved driving (by simpa using confirmed)]
  · rw [endDrive_still driving]

end Over

/-- A drive started for a stroke of AUTO: the pump drives, its outcome is awaited (R87). -/
theorem awaitedDrive_eq (p : Side) (w : State) :
    setDosingState .confirmWait (startDrive p w) = { w with
      pump := w.pump.set p { w.pump.get p with
        state := .driving, line := true, confirmedInDrive := false
        driveEnd := some (w.now + BitVec.ofNat 32 w.odorant.driveWidth) }
      dose := { w.dose with state := .confirmWait, lastDrive := some w.now, recentDrive := true }
      table := w.table.place { owner := .dosing, kind := .confirm, target := Side.code p
                               due := w.now + BitVec.ofNat 32 w.odorant.confirmWindow } } := rfl

theorem autoDrive_eq (p : Side) (s : State) : autoDrive p s =
    if ((endDriveIfReached p.other s).pump.get p).state = .ready
    then setDosingState .confirmWait (startDrive p (endDriveIfReached p.other s)) else endDriveIfReached p.other s := by
  simp [autoDrive, State.pumpReady]

theorem endDriveIfReached_still {p : Side} {s : State} (h : ¬ driveEnded p s = true) : endDriveIfReached p s = s :=
  if_neg h

theorem endDriveIfReached_ended {p : Side} {s : State} (h : driveEnded p s = true) : endDriveIfReached p s = endDrive p s :=
  if_pos h

/-- An entry placed where an id is the lowest free takes it. -/
theorem place_at {t : ActionTable} {i : Nat} (free : t.at i = none) (bound : i < t.places.length)
    (below : ∀ j, j < i → t.at j ≠ none) (e : Entry) : t.place e = { t with places := t.places.set i (some e) } := by
  have lowest : ∀ (l : List (Option Entry)) (i : Nat), i < l.length → (l[i]?).join = none →
      (∀ j, j < i → (l[j]?).join ≠ none) → lowestFree l = some i := by
    intro l
    induction l with
    | nil => exact fun i h => absurd h (Nat.not_lt_zero i)
    | cons x rest ih =>
      intro i hi hf hb
      cases i with
      | zero =>
        obtain rfl : x = none := by simpa using hf
        rfl
      | succ i =>
        obtain ⟨e, rfl⟩ := Option.ne_none_iff_exists'.mp (show x ≠ none by simpa using hb 0 (Nat.succ_pos i))
        simp [lowestFree, ih i (by simpa using hi) (by simpa using hf) fun j hj => by simpa using hb (j + 1) (by omega)]
  rw [ActionTable.place, lowest t.places i bound free below]

/-! ## Counts of a table's entries -/

theorem countP_set {α : Type} (test : α → Bool) {l : List α} {i : Nat} {x : α} (h : l[i]? = some x) (y : α) :
    (l.set i y).countP test + boolCode (test x) = l.countP test + boolCode (test y) := by
  induction l generalizing i with
  | nil => simp at h
  | cons z rest ih =>
    cases i with
    | zero =>
      obtain rfl : z = x := by simpa using h
      simp only [List.set_cons_zero, List.countP_cons, boolCode]
      omega
    | succ i =>
      have := ih (i := i) (by simpa using h)
      simp only [List.set_cons_succ, List.countP_cons]
      omega

theorem at_some {t : ActionTable} {id : Nat} {e : Entry} (h : t.at id = some e) : t.places[id]? = some (some e) := by
  unfold ActionTable.at at h
  cases hp : t.places[id]? <;> simp_all

/-- An entry removed is counted no more. -/
theorem count_free {t : ActionTable} {id : Nat} {e : Entry} (h : t.at id = some e) (test : Entry → Bool) :
    (t.free id).count test + boolCode (test e) = t.count test :=
  countP_set (fun x : Option Entry => x.any test) (at_some h) none

/-- An entry removed leaves its id for the next. -/
theorem free_room {t : ActionTable} {id : Nat} {e : Entry} (h : t.at id = some e) :
    (t.free id).count (fun _ => true) < (t.free id).places.length := by
  have freed := count_free h fun _ => true
  have full : t.count (fun _ => true) ≤ t.places.length := List.countP_le_length
  have length : (t.free id).places.length = t.places.length := by simp [ActionTable.free]
  simp only [boolCode, if_true] at freed
  omega

/-- An entry placed where there is room is there, and is counted. -/
theorem place_room {t : ActionTable} (room : t.count (fun _ => true) < t.places.length) (e : Entry) :
    (∃ i, (t.place e).at i = some e) ∧ ∀ test, (t.place e).count test = t.count test + boolCode (test e) := by
  obtain ⟨i, -, bound, free, -, placed⟩ := place_lowest room e
  rw [placed]
  refine ⟨⟨i, by simp [ActionTable.at, bound]⟩, fun test => ?_⟩
  have := countP_set (fun x : Option Entry => x.any test) ((at_none_iff bound).mp free) (some e)
  simpa [ActionTable.count, boolCode] using this

/-! ## STROKE_ENTRY_DUE -/

/-- Settles O31: the entry is freed, the other pump's drive ended where it is to be, and the drive is `startDrive`. -/
theorem strokeEntryStartsDrive : Obligations.StrokeEntryStartsDrive := by
  intro s u after id e p hu hl hat owner kind due side freed ended
  have ends : driveEnded p.other freed = true ↔ ended := driveEnded_iff
  have taken : exec (.strokeEntryDue after id) s = .next (finish (autoDrive p freed)) := by
    rw [exec_strokeEntryDue, entry_at hu hl hat kind due, side]
  have code : e.target = Side.code p := (Codec.code_of_side side).symm
  refine ⟨fun ready => ?_, fun unready still => ?_⟩
  · let w := endDriveIfReached p.other freed
    have now : w.now = u.now := by simp [w, State.now, freed]
    have odorant : w.odorant = u.odorant := by simp [w, State.odorant, freed]
    have frame : w.table.aux = u.table.aux ∧ w.pump.get p = u.pump.get p := by
      by_cases h : driveEnded p.other freed = true
      · obtain ⟨aux, st, pump⟩ := endDrive_frame p.other freed
        simp only [w, endDriveIfReached_ended h, aux, pump, Two.get_set, (other_ne p).symm, if_false]
        exact ⟨rfl, rfl⟩
      · simp only [w, endDriveIfReached_still h]
        exact ⟨rfl, rfl⟩
    obtain ⟨aux, pump⟩ := frame
    have drives : autoDrive p freed = { w with
        pump := w.pump.set p { u.pump.get p with
          state := .driving, line := true, confirmedInDrive := false
          driveEnd := some (u.now + BitVec.ofNat 32 u.odorant.driveWidth) }
        dose := { w.dose with state := .confirmWait, lastDrive := some u.now, recentDrive := true }
        table := w.table.place { owner := .dosing, kind := .confirm, target := e.target
                                 due := u.now + BitVec.ofNat 32 u.odorant.confirmWindow } } := by
      rw [autoDrive_eq, if_pos (by rw [show endDriveIfReached p.other freed = w from rfl, pump]; exact ready),
        awaitedDrive_eq, show endDriveIfReached p.other freed = w from rfl, now, odorant, pump, code]
    refine ⟨_, w, taken, fun still => endDriveIfReached_still (mt ends.mp still), fun h => ?_, ?_, ?_,
      fun i free bound below => ?_, fun h => ?_, fun h => ?_⟩
    · simp only [w, endDriveIfReached_ended (ends.mpr h)]
      exact driveOver_endDrive p.other freed
    · rw [drives, finish_table]
    · rw [drives, finish_table]
      exact (place_aux _ _).trans aux
    · rw [drives, finish_table]
      exact congrArg (·.places) (place_at free bound below _)
    · obtain ⟨-, st, gone⟩ := endDrive_frame p.other freed
      have line : w.pump = _ := (congrArg (·.pump) (endDriveIfReached_ended (ends.mpr h))).trans gone
      rw [drives, finish_pump, Two.get_set, if_neg (other_ne p), line, Two.get_set_same]
      exact ⟨rfl, rfl⟩
    · have table : w.table = u.table.free id.val := by
        by_cases hd : driveEnded p.other freed = true
        · simp only [w, endDriveIfReached_ended hd]
          exact endDrive_table (h.resolve_left fun still => still (ends.mp hd))
        · simp only [w, endDriveIfReached_still hd]
          rfl
      obtain ⟨placed, counts⟩ := place_room (free_room hat)
        { owner := .dosing, kind := .confirm, target := e.target
          due := u.now + BitVec.ofNat 32 u.odorant.confirmWindow }
      have strokes := count_free hat isStroke
      have links := count_free hat isLink
      rw [drives, finish_table, table, counts, counts]
      simp only [isStroke, isLink, kind, owner, boolCode] at strokes links ⊢
      exact ⟨rfl, by simpa using strokes, by simpa using links, placed⟩
  · rw [taken, autoDrive_eq, endDriveIfReached_still (mt ends.mp still)]
    exact congrArg (fun x => Host.Outcome.next (finish x)) (if_neg unready)

end Sys2Proof.Proofs.Strokes
end

section
/-! PROOFS. A sense edge that confirms a stroke: what it proves, what the outcome makes of it (R88, R92, R105). -/

namespace Sys2Proof.Proofs.Confirmations

open Sys2Proof Sys2Proof.Machine Sys2Proof.Proofs.Arms Sys2Proof.Proofs.Events Sys2Proof.Proofs.Raised
open Sys2Proof.Proofs.Steps Sys2Proof.Proofs.Orders Sys2Proof.Proofs.Dosing Sys2Proof.Proofs.LimitMonitors

/-! ## The scheduling check and the other operations -/

/-- A table has an entry of a kind after another entry is placed when it had one before. -/
theorem place_any {test : Entry → Bool} {e : Entry} (h : test e = false) {t : ActionTable} (none : t.any test = false) :
    (t.place e).any test = false := by
  unfold ActionTable.place
  split
  · refine List.any_eq_false.mpr fun x hx => ?_
    rcases List.mem_or_eq_of_mem_set hx with old | new
    · exact List.any_eq_false.mp none x old
    · simp [new, h]
  · exact none

/-- The check places no CONFIRM entry. -/
theorem schedulingCheck_noConfirm {p : Side} {s : State} (none : s.table.any (isConfirmOf p) = false) :
    (schedulingCheck s).table.any (isConfirmOf p) = false := by
  by_cases owed : strokeOwed s = true
  · rw [schedulingCheck_owed owed]
    exact place_any rfl none
  · rwa [schedulingCheck_notOwed owed]

/-! ## The stroke proved -/

/-- The part once a confirming edge has proved the stroke: its entry gone, counted, the pump's part done, the notice raised. -/
def proved (p : Side) (u : State) : State :=
  let a := u.recorder.station
  raise .dosing 0 { u with
    sense := u.sense.set p (some 5000)
    pump := u.pump.set p
      (if (u.pump.get p).state = .driving then { u.pump.get p with misses := 0, confirmedInDrive := true }
       else { u.pump.get p with misses := 0, state := .ready })
    table := u.table.drop (isConfirmOf p)
    recorder := { u.recorder with station := { a with
      strokes := a.strokes.set p { a.strokes.get p with confirmed := (a.strokes.get p).confirmed + 1 } } } }

theorem pumpConfirmed_eq (x : Pump) : pumpConfirmed x =
    if x.state = .driving then { x with misses := 0, confirmedInDrive := true } else { x with misses := 0, state := .ready } := by
  unfold pumpConfirmed
  split
  · rw [if_pos (by assumption)]
  · rw [if_neg (by assumption)]

section

variable {p : Side} {u : State}

theorem senseEdge_confirms (h : (u.pump.get p).state = .driving ∨ (u.pump.get p).state = .await)
    (entry : u.table.any (isConfirmOf p) = true) : senseEdge p u = confirmedOutcome (proved p u) := by
  have confirming : confirms p (u.onSense (·.set p (some senseHoldOff))) = true := by
    simpa [confirms, entry] using h
  rw [senseEdge]
  refine (if_pos confirming).trans (congrArg confirmedOutcome ?_)
  simp only [raiseDosing, onStrokes, onStation, State.onPump, State.onTable, State.onSense, State.onRecorder, Two.modify,
    pumpConfirmed_eq]
  rfl

theorem proved_dose : (proved p u).dose = u.dose := by simp [proved]

theorem proved_odorant : (proved p u).odorant = u.odorant := by simp [proved, State.odorant]

theorem proved_noConfirm : (proved p u).table.any (isConfirmOf p) = false := by
  simp [proved, drop_any]

theorem proved_pending (enabled : u.settings.active.station.enables.dosing = true) : Pending .dosing 0 (proved p u) :=
  pending_raise enabled

theorem proved_eq : ∃ l, proved p u = { u with
    sense := u.sense.set p (some 5000)
    pump := u.pump.set p
      (if (u.pump.get p).state = .driving then { u.pump.get p with misses := 0, confirmedInDrive := true }
       else { u.pump.get p with misses := 0, state := .ready })
    table := u.table.drop (isConfirmOf p)
    recorder := { u.recorder with station := { u.recorder.station with
      strokes := u.recorder.station.strokes.set p { u.recorder.station.strokes.get p with
        confirmed := (u.recorder.station.strokes.get p).confirmed + 1 } } }
    link := l } :=
  ⟨_, raise_eq _ _ _⟩

/-- A stroke of AUTO proved: the account drawn down, the rest of its mass surplus (R88). -/
def autoProved (p : Side) (u : State) : State :=
  let drawn := min u.dose.account u.dose.massInFlight
  let a := u.recorder.station
  { proved p u with
    dose := { u.dose with account := u.dose.account - drawn, massInFlight := 0, state := .armed }
    recorder := { u.recorder with station := { a with
      strokes := a.strokes.set p { a.strokes.get p with confirmed := (a.strokes.get p).confirmed + 1 }
      autoDelivered := a.autoDelivered + drawn
      surplus := a.surplus + (u.dose.massInFlight - drawn) } } }

/-- A manual stroke proved: its mass is manual mass (R92). -/
def manualProved (p : Side) (u : State) : State :=
  let a := u.recorder.station
  { proved p u with
    dose := { u.dose with massInFlight := 0, state := .idle }
    recorder := { u.recorder with station := { a with
      strokes := a.strokes.set p { a.strokes.get p with confirmed := (a.strokes.get p).confirmed + 1 }
      manualMass := a.manualMass + u.dose.massInFlight } } }

theorem drawDown_proved : drawDown (proved p u) = autoProved p u := by
  obtain ⟨l, hl⟩ := proved_eq (p := p) (u := u)
  simp only [autoProved, hl, drawDown, onStation, State.onDose, State.onRecorder]

/-- An automatic stroke proved hands on the debt and has the check made (R88, R96). -/
theorem outcome_auto (h : u.dose.state = .confirmWait) : confirmedOutcome (proved p u) =
    schedulingCheck (evaluate 14 ((u.dose.account - min u.dose.account u.dose.massInFlight) * 1000
      / (u.odorant.debtLimit * u.odorant.strokeMass)) (autoProved p u)) := by
  have debt : doseDebt (autoProved p u) = _ :=
    congrArg (fun o : OdorantSection => (autoProved p u).dose.account * 1000 / o.cap) (proved_odorant (p := p) (u := u))
  unfold confirmedOutcome
  simp only [proved_dose, h]
  rw [drawDown_proved, debtToMonitor, debt]
  rfl

/-- A manual stroke proved hands on the debt (R92, R96). -/
theorem outcome_manual (h : u.dose.state = .manualWait) : confirmedOutcome (proved p u) =
    evaluate 14 (u.dose.account * 1000 / (u.odorant.debtLimit * u.odorant.strokeMass)) (manualProved p u) := by
  have debt : doseDebt (manualProved p u) = _ :=
    congrArg (fun o : OdorantSection => (manualProved p u).dose.account * 1000 / o.cap) (proved_odorant (p := p) (u := u))
  have work : (onStation (fun a => { a with manualMass := a.manualMass + (proved p u).dose.massInFlight })
      ((proved p u).onDose fun d => { d with massInFlight := 0, state := .idle })) = manualProved p u := by
    obtain ⟨l, hl⟩ := proved_eq (p := p) (u := u)
    simp only [manualProved, hl, onStation, State.onDose, State.onRecorder]
  unfold confirmedOutcome
  simp only [proved_dose, h]
  rw [proved_dose] at work
  rw [work, debtToMonitor, debt]
  rfl

theorem outcome_none (h1 : u.dose.state ≠ .confirmWait) (h2 : u.dose.state ≠ .manualWait) :
    confirmedOutcome (proved p u) = proved p u := by
  unfold confirmedOutcome
  rw [proved_dose]
  split
  · exact absurd (by assumption) h1
  · exact absurd (by assumption) h2
  · rfl

theorem outcome_cases : u.dose.state = .confirmWait ∨ u.dose.state = .manualWait
    ∨ u.dose.state ≠ .confirmWait ∧ u.dose.state ≠ .manualWait := by
  by_cases h1 : u.dose.state = .confirmWait
  · exact .inl h1
  · by_cases h2 : u.dose.state = .manualWait
    · exact .inr (.inl h2)
    · exact .inr (.inr ⟨h1, h2⟩)

/-- Whatever the outcome, the stroke is counted, no CONFIRM entry of the pump is left and the notice stays pending. -/
theorem outcome_counted (p : Side) (u : State) : let t := confirmedOutcome (proved p u)
    t.table.any (isConfirmOf p) = false
      ∧ (t.recorder.station.strokes.get p).confirmed = (u.recorder.station.strokes.get p).confirmed + 1
      ∧ (Pending .dosing 0 (proved p u) → Pending .dosing 0 t) := by
  dsimp only
  rcases outcome_cases (u := u) with h | h | ⟨h1, h2⟩
  · rw [outcome_auto h]
    refine ⟨schedulingCheck_noConfirm ?_, ?_, fun pending => pending_of_link (schedulingCheck_link _) (evaluate_pending pending)⟩
    · rw [evaluate_table]
      exact proved_noConfirm
    · rw [schedulingCheck_recorder, evaluate_recorder]
      simp [autoProved]
  · rw [outcome_manual h]
    refine ⟨?_, ?_, fun pending => evaluate_pending pending⟩
    · rw [evaluate_table]
      exact proved_noConfirm
    · rw [evaluate_recorder]
      simp [manualProved]
  · rw [outcome_none h1 h2]
    exact ⟨proved_noConfirm, by simp [proved], id⟩

/-- Settles O28: a confirming edge is `proved`, and its outcome goes by the dosing state. -/
theorem senseEdgeConfirms : Obligations.SenseEdgeConfirms := by
  intro s u after p hu hl hf hs hp entry
  have taken : exec (.senseEdge after p) s = .next (finish (confirmedOutcome (proved p u))) := by
    rw [exec_senseEdge, event_at hu (senseTaken_iff.mpr ⟨hl, hf, hs⟩), senseEdge_confirms hp entry]
  obtain ⟨gone, counted, keeps⟩ := outcome_counted p u
  refine ⟨_, taken, ⟨fun h => congrArg finish (outcome_auto h), fun h => congrArg finish (outcome_manual h),
    fun h1 h2 => congrArg finish (outcome_none h1 h2)⟩, ?_, ?_, fun h => ?_, fun h => ?_, fun enabled => ?_⟩
  · rwa [finish_table]
  · rwa [finish_recorder]
  · have armed : (autoProved p u).dose.state = .armed := rfl
    rw [finish_dose, finish_recorder, outcome_auto h, schedulingCheck_recorder, evaluate_recorder]
    refine ⟨?_, rfl, rfl, ?_⟩
    · rw [schedulingCheck_dose, evaluate_dose]
      rfl
    · generalize hx : evaluate 14 _ (autoProved p u) = x
      have dose : x.dose = (autoProved p u).dose := by rw [← hx, evaluate_dose]
      have odorant : x.odorant = u.odorant := by
        rw [← hx, State.odorant, evaluate_settings]
        exact proved_odorant
      by_cases owed : strokeOwed x = true
      · rw [schedulingCheck_owed owed, ← odorant]
        exact .inr ⟨rfl, rfl⟩
      · rw [schedulingCheck_notOwed owed, dose]
        exact .inl ⟨rfl, rfl⟩
  · rw [finish_dose, finish_recorder, outcome_manual h, evaluate_dose, evaluate_recorder]
    exact ⟨rfl, rfl⟩
  · refine given_finish (by decide) ?_ (keeps (proved_pending enabled))
    exact congrArg (·.2.1) ((confirmedOutcome_line (proved p u)).trans (raise_line _ _ _))

end

end Sys2Proof.Proofs.Confirmations
end

section
/-! PROOFS. Stray edges and missed strokes, and the failure of a pump that they may lead to (R91, R106 to R112). -/

namespace Sys2Proof.Proofs.Failures

open Sys2Proof Sys2Proof.Machine Sys2Proof.Proofs.Arms Sys2Proof.Proofs.Events Sys2Proof.Proofs.Raised
open Sys2Proof.Proofs.Steps Sys2Proof.Proofs.Orders Sys2Proof.Proofs.Dosing Sys2Proof.Proofs.LimitMonitors
open Sys2Proof.Proofs.Strokes

/-! ## One DOSING notice, however often it is raised -/

/-- The DOSING notice of `u` is raised already. -/
def Dosed (u x : State) : Prop := x.link = (raise .dosing 0 u).link ∧ x.settings = u.settings

section

variable {u x : State}

theorem raise_from (hl : x.link = u.link) (hs : x.settings = u.settings) :
    raise .dosing 0 x = { x with link := (raise .dosing 0 u).link } := by
  have same : x.settings.active.station.enables.get .dosing = u.settings.active.station.enables.get .dosing := by rw [hs]
  by_cases enabled : u.settings.active.station.enables.get .dosing = true
  · rw [raise, raise, if_pos (same.trans enabled), if_pos enabled]
    simp [State.onLink, hl]
  · rw [raise, raise, if_neg (by rwa [same]), if_neg enabled, ← hl]

theorem raise_dosed (h : Dosed u x) : raise .dosing 0 x = x := by
  obtain ⟨hl, hs⟩ := h
  unfold raise at hl ⊢
  rw [hs]
  split
  · rename_i enabled
    rw [if_pos enabled] at hl
    have notices : addNotice ⟨.dosing, 0⟩ x.link.notices = x.link.notices := by
      rw [hl]
      exact addNotice_addNotice _ _
    rw [State.onLink, notices]
  · rfl

/-! ## A pump that fails (R108, R112) -/

/-- The pump FAILED, nothing else of it or of the doses changed. -/
def failed (p : Side) (s : State) : State := { s with pump := s.pump.set p { s.pump.get p with state := .failed } }

/-- Duty passed to the other pump, and counted. -/
def passed (s : State) : State := { s with
  dose := { s.dose with duty := s.dose.duty.other }
  recorder := { s.recorder with station := { s.recorder.station with
    changeovers := s.recorder.station.changeovers + 1 } } }

theorem failPump_dosed {p : Side} (h : Dosed u x) : failPump p x =
    if x.dose.duty = p ∧ (x.pump.get p.other).state = .ready then passed (failed p x) else failed p x := by
  have first : raise .dosing 0 (failed p x) = failed p x := raise_dosed (u := u) h
  have second : raise .dosing 0 (passed (failed p x)) = passed (failed p x) := raise_dosed (u := u) h
  have unfolded : failPump p x = if (failed p x).duty = p && (failed p x).pumpReady p.other
      then changeover (failed p x) else failed p x := by
    conv_rhs => rw [← first]
    rfl
  have test : ((failed p x).duty = p && (failed p x).pumpReady p.other) = true
      ↔ x.dose.duty = p ∧ (x.pump.get p.other).state = .ready := by
    rw [Bool.and_eq_true, decide_eq_true_iff]
    simp [State.duty, State.pumpReady, failed, Two.get_set]
  rw [unfolded]
  by_cases c : x.dose.duty = p ∧ (x.pump.get p.other).state = .ready
  · rw [if_pos c, if_pos (test.mpr c)]
    exact second
  · rw [if_neg c, if_neg (mt test.mp c)]

/-- A stroke that waits is withdrawn (R91). -/
def withdrawn (s : State) : State := { s with
  table := if s.dose.state = .strokeWait then s.table.drop isStroke else s.table
  dose := { s.dose with massInFlight := if s.dose.state = .strokeWait then 0 else s.dose.massInFlight } }

theorem withdrawn_eq (s : State) : (if s.dose.state = .strokeWait then withdrawStroke s else s) = withdrawn s := by
  unfold withdrawn
  split <;> rfl

theorem afterStrayFailure_still {p : Side} {duty : Bool}
    (h : ¬ (duty = true ∧ x.dose.mode = .auto ∧ x.dose.state ≠ .confirmWait)) : afterStrayFailure p duty x = x :=
  if_neg (by simpa [and_assoc] using h)

theorem afterStrayFailure_acts {p : Side} {duty : Bool} (hd : duty = true) (hm : x.dose.mode = .auto)
    (hs : x.dose.state ≠ .confirmWait) : afterStrayFailure p duty x =
      if x.dose.duty = p then enterFault (withdrawn x) else schedulingCheck (setDosingState .armed (withdrawn x)) := by
  unfold afterStrayFailure
  rw [if_pos (by simp [hd, hm, hs])]
  dsimp only
  rw [withdrawn_eq]
  rfl

theorem enterFault_dosed (h : Dosed u x) : enterFault x = setDosingState .fault x :=
  raise_dosed (u := u) (x := setDosingState .fault x) h

/-- The check changes the doses and their table alone, by the doses, the pumps, the settings and the time. -/
theorem schedulingCheck_eq (s : State) : schedulingCheck s =
    { s with table := (schedulingCheck s).table, dose := (schedulingCheck s).dose } := by
  by_cases owed : strokeOwed s = true
  · rw [schedulingCheck_owed owed]
  · rw [schedulingCheck_notOwed owed]

theorem schedulingCheck_congr (hd : x.dose = u.dose) (hp : x.pump = u.pump) (ht : x.table = u.table)
    (hs : x.settings = u.settings) (hn : x.time = u.time) :
    (schedulingCheck x).dose = (schedulingCheck u).dose ∧ (schedulingCheck x).table = (schedulingCheck u).table := by
  have owed : strokeOwed x = strokeOwed u := by
    simp only [strokeOwed, State.pumpReady, State.duty, State.odorant, hd, hp, hs]
    rfl
  have entry : strokeEntry x = strokeEntry u := by
    simp only [strokeEntry, strokeDue, State.odorant, State.now, hd, hs, hn]
    rfl
  by_cases h : strokeOwed u = true
  · rw [schedulingCheck_owed (owed.trans h), schedulingCheck_owed h, entry]
    simp only [State.odorant, hd, ht, hs, and_self]
  · rw [schedulingCheck_notOwed (owed ▸ h), schedulingCheck_notOwed h]
    exact ⟨hd, ht⟩

end

/-! ## A stray edge (R110, R111) -/

/-- The part once a stray edge has been counted, with its notice. -/
def strayed (p : Side) (u : State) : State := { u with
  sense := u.sense.set p (some 5000)
  recorder := { u.recorder with station := { u.recorder.station with
    strokes := u.recorder.station.strokes.set p
      { u.recorder.station.strokes.get p with stray := (u.recorder.station.strokes.get p).stray + 1 } } }
  link := (raise .dosing 0 u).link }

/-- The stray edge counted by the pump too. -/
def bumped (p : Side) (u : State) : State :=
  { strayed p u with pump := u.pump.set p { u.pump.get p with strays := (u.pump.get p).strays + 1 } }

section Stray

variable {p : Side} {u : State}

theorem senseEdge_strays (h : ¬ (((u.pump.get p).state = .driving ∨ (u.pump.get p).state = .await)
    ∧ u.table.any (isConfirmOf p) = true)) : senseEdge p u =
      if (u.pump.get p).state = .ready ∨ (u.pump.get p).state = .driving then
        if u.odorant.strayLimit ≤ (u.pump.get p).strays + 1 then
          afterStrayFailure p (u.dose.duty == p) (failPump p (bumped p u))
        else bumped p u
      else strayed p u := by
  have stray : ¬ confirms p (u.onSense (·.set p (some senseHoldOff))) = true := by
    simpa [confirms] using h
  have noticed : raiseDosing (onStrokes p (fun c => { c with stray := c.stray + 1 })
      (u.onSense (·.set p (some senseHoldOff)))) = strayed p u :=
    raise_from (u := u) rfl rfl
  rw [senseEdge]
  refine (if_neg stray).trans ?_
  unfold strayEdge
  dsimp only
  rw [noticed]
  simp only [Bool.or_eq_true, decide_eq_true_iff]
  rfl

theorem senseEdge_failed (h : (u.pump.get p).state = .failed) : senseEdge p u = strayed p u := by
  rw [senseEdge_strays (by simp [h]), if_neg (by simp [h])]

variable (h : (u.pump.get p).state = .ready ∨ (u.pump.get p).state = .driving ∧ u.table.any (isConfirmOf p) = false)
include h

theorem senseEdge_below (below : (u.pump.get p).strays + 1 < u.odorant.strayLimit) : senseEdge p u = bumped p u := by
  rw [senseEdge_strays (by rcases h with h | ⟨h, none⟩ <;> simp [*]), if_pos (h.imp_right And.left),
    if_neg (Nat.not_le.mpr below)]

theorem senseEdge_limit (limit : u.odorant.strayLimit ≤ (u.pump.get p).strays + 1) : senseEdge p u =
    afterStrayFailure p (u.dose.duty == p)
      (if u.dose.duty = p ∧ (u.pump.get p.other).state = .ready then passed (failed p (bumped p u))
       else failed p (bumped p u)) := by
  rw [senseEdge_strays (by rcases h with h | ⟨h, none⟩ <;> simp [*]), if_pos (h.imp_right And.left), if_pos limit,
    failPump_dosed (u := u) (x := bumped p u) ⟨rfl, rfl⟩]
  have other : (bumped p u).pump.get p.other = u.pump.get p.other := by simp [bumped, Two.get_set]
  rw [other]
  rfl

end Stray

/-- What a stray edge may change besides the edge's own count: the pump that fails, the doses, the changeovers. -/
def Strayed (p : Side) (u x : State) : Prop :=
  x = { strayed p u with
    pump := x.pump, table := x.table, dose := x.dose
    recorder := { (strayed p u).recorder with station := { (strayed p u).recorder.station with
      changeovers := x.recorder.station.changeovers } } }
    ∧ x.dose.account = u.dose.account ∧ x.pump.get p.other = u.pump.get p.other

section Strayed

variable {p : Side} {u x : State}

theorem strayed_strayed : Strayed p u (strayed p u) := ⟨rfl, rfl, rfl⟩

theorem strayed_bumped : Strayed p u (bumped p u) := ⟨rfl, rfl, by simp [bumped, Two.get_set]⟩

theorem strayed_failed (h : Strayed p u x) : Strayed p u (failed p x) := by
  obtain ⟨e, account, other⟩ := h
  refine ⟨?_, account, by simpa [failed, Two.get_set] using other⟩
  rw [e]
  rfl

theorem strayed_passed (h : Strayed p u x) : Strayed p u (passed x) := by
  obtain ⟨e, account, other⟩ := h
  refine ⟨?_, account, other⟩
  rw [e]
  rfl

theorem strayed_withdrawn (h : Strayed p u x) : Strayed p u (withdrawn x) := by
  obtain ⟨e, account, other⟩ := h
  refine ⟨?_, account, other⟩
  rw [e]
  rfl

theorem strayed_state (d : DosingState) (h : Strayed p u x) : Strayed p u (setDosingState d x) := by
  obtain ⟨e, account, other⟩ := h
  refine ⟨?_, account, other⟩
  rw [e]
  rfl

theorem strayed_check (h : Strayed p u x) : Strayed p u (schedulingCheck x) := by
  obtain ⟨e, account, other⟩ := h
  refine ⟨?_, ?_, by rw [schedulingCheck_pump]; exact other⟩
  · rw [schedulingCheck_pump, schedulingCheck_recorder]
    exact (schedulingCheck_eq x).trans (congrArg (fun y : State => { y with
      table := (schedulingCheck x).table, dose := (schedulingCheck x).dose }) e)
  · rw [schedulingCheck_dose]
    exact account

theorem strayed_dosed (h : Strayed p u x) : Dosed u x := by
  obtain ⟨e, -⟩ := h
  rw [e]
  exact ⟨rfl, rfl⟩

theorem strayed_acts {duty : Bool} (h : Strayed p u x) : Strayed p u (afterStrayFailure p duty x) := by
  by_cases acts : duty = true ∧ x.dose.mode = .auto ∧ x.dose.state ≠ .confirmWait
  · obtain ⟨hd, hm, hs⟩ := acts
    rw [afterStrayFailure_acts hd hm hs]
    split
    · rw [enterFault_dosed (strayed_dosed (strayed_withdrawn h))]
      exact strayed_state _ (strayed_withdrawn h)
    · exact strayed_check (strayed_state _ (strayed_withdrawn h))
  · rw [afterStrayFailure_still acts]
    exact h

/-- A stray edge changes nothing else. -/
theorem strayed_senseEdge (h : ¬ (((u.pump.get p).state = .driving ∨ (u.pump.get p).state = .await)
    ∧ u.table.any (isConfirmOf p) = true)) : Strayed p u (senseEdge p u) := by
  rw [senseEdge_strays h]
  split
  · split
    · rw [failPump_dosed (strayed_dosed strayed_bumped)]
      refine strayed_acts ?_
      split
      · exact strayed_passed (strayed_failed strayed_bumped)
      · exact strayed_failed strayed_bumped
    · exact strayed_bumped
  · exact strayed_strayed

/-- What a stray edge leaves, its notice raised as it is counted. -/
theorem strayed_eq (h : Strayed p u x) : x = raise .dosing 0 { u with
    sense := u.sense.set p (some 5000), pump := x.pump, table := x.table, dose := x.dose
    recorder := { u.recorder with station := { u.recorder.station with
      strokes := u.recorder.station.strokes.set p
        { u.recorder.station.strokes.get p with stray := (u.recorder.station.strokes.get p).stray + 1 }
      changeovers := x.recorder.station.changeovers } } } := by
  obtain ⟨link, settings⟩ := strayed_dosed h
  obtain ⟨e, -⟩ := h
  refine Eq.trans (b := raise .dosing 0 { x with link := u.link }) ?_ (congrArg (raise .dosing 0) ?_)
  · rw [raise_from (u := u) (x := { x with link := u.link }) rfl settings, ← link]
  · rw [e]
    rfl

theorem strayed_pending (h : Strayed p u x) (enabled : u.settings.active.station.enables.dosing = true) :
    Pending .dosing 0 x := by
  rw [strayed_eq h]
  exact pending_raise enabled

end Strayed

/-! ## The pump at the stray limit (R91, R111, R112) -/

section Limit

variable {p : Side} {u : State}

/-- The pump FAILED by its stray edges. -/
def struck (p : Side) (u : State) : State := failed p (bumped p u)

theorem struck_pump : (struck p u).pump = u.pump.set p
    { u.pump.get p with strays := (u.pump.get p).strays + 1, state := .failed } := by
  simp [struck, failed, bumped, Two.set]
  cases p <;> rfl

variable (h : (u.pump.get p).state = .ready ∨ (u.pump.get p).state = .driving ∧ u.table.any (isConfirmOf p) = false)
  (limit : u.odorant.strayLimit ≤ (u.pump.get p).strays + 1)
include h limit

/-- Off duty, the pump that fails leaves the doses. -/
theorem senseEdge_offDuty (duty : u.dose.duty ≠ p) : senseEdge p u = struck p u := by
  rw [senseEdge_limit h limit, if_neg (fun c => duty c.1), afterStrayFailure_still (by simp [duty])]
  rfl

/-- Duty passes to the other pump; the doses go on from there. -/
theorem senseEdge_passes (duty : u.dose.duty = p) (ready : (u.pump.get p.other).state = .ready) :
    senseEdge p u = afterStrayFailure p true (passed (struck p u)) := by
  rw [senseEdge_limit h limit, if_pos ⟨duty, ready⟩, duty, beq_self_eq_true]
  rfl

/-- No pump is left to take the duty. -/
theorem senseEdge_faults (duty : u.dose.duty = p) (unready : (u.pump.get p.other).state ≠ .ready) :
    senseEdge p u = afterStrayFailure p true (struck p u) := by
  rw [senseEdge_limit h limit, if_neg (fun c => unready c.2), duty, beq_self_eq_true]
  rfl

end Limit

/-- What the doses then do in AUTO, no outcome being awaited. -/
theorem passes_acts {p : Side} {u : State} (duty : u.dose.duty = p) (auto : u.dose.mode = .auto)
    (calm : u.dose.state ≠ .confirmWait) : afterStrayFailure p true (passed (struck p u))
      = schedulingCheck (setDosingState .armed (withdrawn (passed (struck p u)))) := by
  refine (afterStrayFailure_acts (x := passed (struck p u)) rfl auto calm).trans (if_neg ?_)
  change u.dose.duty.other ≠ p
  rw [duty]
  exact other_ne p

theorem faults_acts {p : Side} {u : State} (duty : u.dose.duty = p) (auto : u.dose.mode = .auto)
    (calm : u.dose.state ≠ .confirmWait) :
    afterStrayFailure p true (struck p u) = setDosingState .fault (withdrawn (struck p u)) :=
  (afterStrayFailure_acts (x := struck p u) rfl auto calm).trans
    ((if_pos duty).trans (enterFault_dosed (u := u) (x := withdrawn (struck p u)) ⟨rfl, rfl⟩))

theorem still_of {p : Side} {u x : State} (hm : x.dose.mode = u.dose.mode) (hs : x.dose.state = u.dose.state)
    (still : u.dose.mode ≠ .auto ∨ u.dose.state = .confirmWait) : afterStrayFailure p true x = x :=
  afterStrayFailure_still fun ⟨_, auto, calm⟩ => still.elim (fun n => n (hm ▸ auto)) (fun c => calm (hs.trans c))

theorem acts_or_still (u : State) : (u.dose.mode = .auto ∧ u.dose.state ≠ .confirmWait)
    ∨ (u.dose.mode ≠ .auto ∨ u.dose.state = .confirmWait) := by
  by_cases auto : u.dose.mode = .auto <;> by_cases wait : u.dose.state = .confirmWait <;> simp [auto, wait]

/-- Duty passed by a failure (R91, R112). -/
theorem passes_leaves {p : Side} {u : State} (duty : u.dose.duty = p) :
    let x := afterStrayFailure p true (passed (struck p u))
    x.pump = (struck p u).pump ∧ x.dose.duty = p.other
      ∧ x.recorder.station.changeovers = u.recorder.station.changeovers + 1 := by
  dsimp only
  rcases acts_or_still u with ⟨auto, calm⟩ | still
  · rw [passes_acts duty auto calm, schedulingCheck_pump, schedulingCheck_dose, schedulingCheck_recorder, ← duty]
    exact ⟨rfl, rfl, rfl⟩
  · rw [still_of (x := passed (struck p u)) rfl rfl still, ← duty]
    exact ⟨rfl, rfl, rfl⟩

/-- No pump to pass the duty to (R91). -/
theorem faults_leaves {p : Side} {u : State} (duty : u.dose.duty = p) :
    let x := afterStrayFailure p true (struck p u)
    x.pump = (struck p u).pump ∧ x.dose.duty = p
      ∧ x.recorder.station.changeovers = u.recorder.station.changeovers := by
  dsimp only
  rcases acts_or_still u with ⟨auto, calm⟩ | still
  · rw [faults_acts duty auto calm, ← duty]
    exact ⟨rfl, rfl, rfl⟩
  · rw [still_of (x := struck p u) rfl rfl still, ← duty]
    exact ⟨rfl, rfl, rfl⟩

/-- Settles O29: what a stray edge may change is `Strayed`; at the limit the pump is `struck`, and its duty passes or not. -/
theorem senseEdgeStray : Obligations.SenseEdgeStray := by
  intro s u after p hu hl hf hs hp
  have taken : exec (.senseEdge after p) s = .next (finish (senseEdge p u)) := by
    rw [exec_senseEdge, event_at hu (senseTaken_iff.mpr ⟨hl, hf, hs⟩)]
  have stray : Strayed p u (senseEdge p u) := strayed_senseEdge (by rcases hp with hp | hp | ⟨hp, hn⟩ <;> simp [*])
  have ⟨shape, account, other⟩ := stray
  have counted : ((senseEdge p u).recorder.station.strokes.get p).stray = (u.recorder.station.strokes.get p).stray + 1 := by
    rw [shape]
    simp [strayed]
  have working_cases : (u.pump.get p).state ≠ .failed → (u.pump.get p).state = .ready
      ∨ (u.pump.get p).state = .driving ∧ u.table.any (isConfirmOf p) = false := fun working =>
    hp.elim .inl fun hp => .inr (hp.resolve_left working)
  refine ⟨_, taken, ?_, ?_, ?_, ?_, fun failed => ?_, fun working below => ?_, fun working limit => ⟨?_, fun duty ready => ?_,
    fun duty unready => ?_, fun duty => ?_⟩,
    fun enabled => given_finish (by decide) (congrArg (·.2.1) (senseEdge_line p u)) (strayed_pending stray enabled)⟩
  all_goals simp only [finish_dose, finish_pump, finish_table, finish_recorder]
  · exact congrArg finish (strayed_eq stray)
  · exact account
  · exact other
  · exact counted
  · rw [senseEdge_failed failed]
    exact ⟨rfl, rfl, rfl, rfl⟩
  · rw [senseEdge_below (working_cases working) below]
    exact ⟨Two.get_set_same _ _ _, rfl, rfl, rfl⟩
  · have pump : (senseEdge p u).pump = (struck p u).pump := by
      by_cases duty : u.dose.duty = p
      · by_cases ready : (u.pump.get p.other).state = .ready
        · rw [senseEdge_passes (working_cases working) limit duty ready]
          exact (passes_leaves duty).1
        · rw [senseEdge_faults (working_cases working) limit duty ready]
          exact (faults_leaves duty).1
      · rw [senseEdge_offDuty (working_cases working) limit duty]
    rw [pump, struck_pump, Two.get_set_same]
  · rw [senseEdge_passes (working_cases working) limit duty ready]
    obtain ⟨-, passes, changed⟩ := passes_leaves (u := u) duty
    refine ⟨passes, changed, fun auto calm => ?_, fun still => ?_⟩
    · rw [passes_acts duty auto calm, schedulingCheck_pump]
      exact schedulingCheck_congr (by rw [← duty]; rfl) rfl rfl rfl rfl
    · rw [still_of (x := passed (struck p u)) rfl rfl still, ← duty]
      exact ⟨rfl, rfl⟩
  · rw [senseEdge_faults (working_cases working) limit duty unready]
    obtain ⟨-, stays, kept⟩ := faults_leaves (u := u) duty
    refine ⟨stays, kept, fun auto calm => ?_, fun still => ?_⟩
    · rw [faults_acts duty auto calm]
      exact ⟨rfl, rfl, rfl⟩
    · rw [still_of (x := struck p u) rfl rfl still]
      exact ⟨rfl, rfl⟩
  · rw [senseEdge_offDuty (working_cases working) limit duty]
    exact ⟨rfl, rfl, rfl⟩

end Sys2Proof.Proofs.Failures
end

section
/-! PROOFS. A CONFIRM entry falling due: the stroke missed, the pump that may fail by it, and what the doses do (R89, R106, R109). -/

namespace Sys2Proof.Proofs.Misses

open Sys2Proof Sys2Proof.Machine Sys2Proof.Proofs.Arms Sys2Proof.Proofs.Events Sys2Proof.Proofs.Raised
open Sys2Proof.Proofs.Steps Sys2Proof.Proofs.Orders Sys2Proof.Proofs.Dosing Sys2Proof.Proofs.LimitMonitors
open Sys2Proof.Proofs.Lines Sys2Proof.Proofs.Strokes Sys2Proof.Proofs.Failures

/-! ## The pump whose stroke is missed -/

theorem Two.set_get {α : Type} (t : Two α) (i : Side) : t.set i (t.get i) = t := by cases i <;> rfl

theorem Two.set_set {α : Type} (t : Two α) (i : Side) (x y : α) : (t.set i x).set i y = t.set i y := by cases i <;> rfl

/-- The pump with a drive at its end ended. -/
def ended (atEnd : Bool) (x : Pump) : Pump := { x with
  line := x.line && !atEnd
  driveEnd := if atEnd = true then none else x.driveEnd
  confirmedInDrive := x.confirmedInDrive && !atEnd }

theorem ended_true (x : Pump) : ended true x = off x := by simp [ended, off]

theorem ended_false (x : Pump) : ended false x = x := by simp [ended]

/-- The stroke of the pump is to be missed: it awaits proof, or comes to by its drive's end. -/
def Awaits (p : Side) (u : State) : Prop := (u.pump.get p).state = .await
  ∨ (u.pump.get p).state = .driving ∧ (u.pump.get p).confirmedInDrive = false ∧ driveEnded p u = true

/-- The part with the CONFIRM entry out of the table. -/
def freed (id : Fin 8) (u : State) : State :=
  { u with table := { u.table with places := u.table.places.set id.val none } }

/-- The part once the miss is counted, before the pump may fail. -/
def missed (p : Side) (id : Fin 8) (u : State) : State := { freed id u with
  pump := u.pump.set p { ended (driveEnded p u) (u.pump.get p) with misses := (u.pump.get p).misses + 1, state := .ready }
  recorder := { u.recorder with station := { u.recorder.station with
    strokes := u.recorder.station.strokes.set p
      { u.recorder.station.strokes.get p with missed := (u.recorder.station.strokes.get p).missed + 1 } } }
  link := (raise .dosing 0 u).link }

/-- The part with the pump FAILED where it is at the miss limit, and the duty passed where it can be (R109, R112). -/
def afterMiss (p : Side) (id : Fin 8) (u : State) : State :=
  if u.odorant.missLimit ≤ (u.pump.get p).misses + 1 then
    if u.dose.duty = p ∧ (u.pump.get p.other).state = .ready then passed (failed p (missed p id u))
    else failed p (missed p id u)
  else missed p id u

section

variable {p : Side} {id : Fin 8} {u : State}

/-- The end of the drive, where it has come, leaves the pump in AWAIT. -/
theorem awaits_ended (h : Awaits p u) : endDriveIfReached p (freed id u) = { freed id u with
    pump := u.pump.set p { ended (driveEnded p u) (u.pump.get p) with state := .await } } := by
  have same : driveEnded p (freed id u) = driveEnded p u := rfl
  rcases h with await | ⟨driving, unproved, atEnd⟩
  · cases atEnd : driveEnded p u
    · have kept : u.pump.set p { u.pump.get p with state := .await } = u.pump := by
        rw [← await]
        exact Two.set_get _ _
      rw [endDriveIfReached_still (by rw [same, atEnd]; exact Bool.false_ne_true), ended_false, kept]
      rfl
    · rw [endDriveIfReached_ended (same.trans atEnd), ended_true]
      refine (endDrive_still (u := freed id u) (by rw [show (freed id u).pump = u.pump from rfl, await]; decide)).trans ?_
      rw [← await]
      rfl
  · rw [endDriveIfReached_ended (same.trans atEnd), atEnd, ended_true]
    exact endDrive_unproved (u := freed id u) driving unproved

theorem missStroke_misses (h : Awaits p u) :
    missStroke p (endDriveIfReached p (freed id u)) = missedOutcome p (afterMiss p id u) := by
  let s := endDriveIfReached p (freed id u)
  have hs : s = _ := awaits_ended h
  have pump : s.pump.get p = { ended (driveEnded p u) (u.pump.get p) with state := .await } := by
    rw [hs]
    exact Two.get_set_same _ _ _
  have counted : raiseDosing (onStrokes p (fun c => { c with missed := c.missed + 1 })
      (s.onPump (·.set p { s.pump.get p with misses := (s.pump.get p).misses + 1, state := .ready }))) = missed p id u := by
    rw [pump, hs, raiseDosing, raise_from (u := u) ?link ?settings]
    case link | settings => rfl
    simp only [missed, onStrokes, onStation, State.onPump, State.onRecorder, Two.set_set, Two.modify, ended]
    rfl
  have fails : failPump p (missed p id u) = if u.dose.duty = p ∧ (u.pump.get p.other).state = .ready
      then passed (failed p (missed p id u)) else failed p (missed p id u) := by
    have other : (missed p id u).pump.get p.other = u.pump.get p.other := by simp [missed, Two.get_set]
    rw [failPump_dosed (u := u) (x := missed p id u) ⟨rfl, rfl⟩, other]
    rfl
  have misses : (s.pump.get p).misses = (u.pump.get p).misses := by rw [pump]; rfl
  change missStroke p s = _
  unfold missStroke
  dsimp only
  rw [counted, fails, misses]
  rfl

/-- The deadline of a pump that awaits proof is a miss. -/
theorem deadline_misses (h : Awaits p u) : deadline p (freed id u) = missedOutcome p (afterMiss p id u) := by
  have await : ((endDriveIfReached p (freed id u)).pump.get p).state = .await := by
    rw [awaits_ended h]
    simp
  unfold deadline
  dsimp only
  rw [if_pos await, missStroke_misses h]

/-! ## What a miss leaves of the pumps and the duty -/

theorem afterMiss_pump : (afterMiss p id u).pump = u.pump.set p { ended (driveEnded p u) (u.pump.get p) with
    misses := (u.pump.get p).misses + 1
    state := if u.odorant.missLimit ≤ (u.pump.get p).misses + 1 then .failed else .ready } := by
  have fails : (failed p (missed p id u)).pump = u.pump.set p { ended (driveEnded p u) (u.pump.get p) with
      misses := (u.pump.get p).misses + 1, state := .failed } := by
    simp only [failed, missed, Two.get_set_same, Two.set_set]
  unfold afterMiss
  by_cases limit : u.odorant.missLimit ≤ (u.pump.get p).misses + 1
  · rw [if_pos limit, if_pos limit, ← fails]
    split <;> rfl
  · rw [if_neg limit, if_neg limit]
    rfl

/-- Beside the pump, a miss changes the duty, the record and the notices alone. -/
theorem afterMiss_eq : afterMiss p id u = { freed id u with
    pump := (afterMiss p id u).pump
    dose := { u.dose with duty := (afterMiss p id u).dose.duty }
    recorder := (afterMiss p id u).recorder
    link := (raise .dosing 0 u).link } := by
  unfold afterMiss
  split
  · split <;> rfl
  · rfl

theorem afterMiss_recorder : let a := (afterMiss p id u).recorder.station
    (a.strokes.get p).missed = (u.recorder.station.strokes.get p).missed + 1
      ∧ a.autoDelivered = u.recorder.station.autoDelivered ∧ a.manualMisses = u.recorder.station.manualMisses := by
  have counted : ((missed p id u).recorder.station.strokes.get p).missed = _ :=
    congrArg StrokeCounts.missed (Two.get_set_same _ _ _)
  unfold afterMiss
  dsimp only
  split
  · split <;> exact ⟨counted, rfl, rfl⟩
  · exact ⟨counted, rfl, rfl⟩

/-- The duty passes only from a pump that fails to one that is READY. -/
theorem afterMiss_keeps (h : ¬ (u.odorant.missLimit ≤ (u.pump.get p).misses + 1 ∧ u.dose.duty = p
    ∧ (u.pump.get p.other).state = .ready)) : (afterMiss p id u).dose.duty = u.dose.duty := by
  unfold afterMiss
  split
  · rw [if_neg fun c => h ⟨by assumption, c⟩]
    rfl
  · rfl

theorem afterMiss_passes (limit : u.odorant.missLimit ≤ (u.pump.get p).misses + 1) (duty : u.dose.duty = p)
    (ready : (u.pump.get p.other).state = .ready) : (afterMiss p id u).dose.duty = p.other
      ∧ (afterMiss p id u).recorder.station.changeovers = u.recorder.station.changeovers + 1 := by
  rw [afterMiss, if_pos limit, if_pos ⟨duty, ready⟩, ← duty]
  exact ⟨rfl, rfl⟩

end

/-! ## The outcome taken by the doses (R89, R92, R96) -/

/-- The doses and their table put in place of a state's own. -/
def dosesAs (t : ActionTable) (d : Dose) (s : State) : State := { s with table := t, dose := d }

theorem evaluate_dosesAs (m : Fin 16) (v : Nat) (t : ActionTable) (d : Dose) (s : State) :
    evaluate m v (dosesAs t d s) = dosesAs t d (evaluate m v s) :=
  evaluate_commutes (change := dosesAs t d)
    (fun c n _ => raise_commutes (change := dosesAs t d) rfl (fun _ => rfl) c n) (fun _ _ => rfl) rfl rfl rfl v

/-- A monitor evaluated plays no part in the check. -/
theorem schedulingCheck_evaluate (m : Fin 16) (v : Nat) (s : State) :
    schedulingCheck (evaluate m v s) = evaluate m v (schedulingCheck s) := by
  obtain ⟨dose, table⟩ := schedulingCheck_congr (u := s) (x := evaluate m v s) (by simp) (by simp) (by simp) (by simp)
    (by simp)
  calc schedulingCheck (evaluate m v s)
      = dosesAs (schedulingCheck (evaluate m v s)).table (schedulingCheck (evaluate m v s)).dose (evaluate m v s) :=
        schedulingCheck_eq _
    _ = dosesAs (schedulingCheck s).table (schedulingCheck s).dose (evaluate m v s) := by rw [dose, table]
    _ = evaluate m v (dosesAs (schedulingCheck s).table (schedulingCheck s).dose s) := (evaluate_dosesAs ..).symm
    _ = evaluate m v (schedulingCheck s) := congrArg (evaluate m v) (schedulingCheck_eq s).symm

/-- The doses once a missed stroke of AUTO is out of flight. -/
def unflown (x : State) : State := { x with dose := { x.dose with massInFlight := 0, state := .armed } }

/-- A missed manual stroke, counted. -/
def manualMissed (x : State) : State := { x with
  dose := { x.dose with massInFlight := 0, state := .idle }
  recorder := { x.recorder with station := { x.recorder.station with
    manualMisses := x.recorder.station.manualMisses + 1 } } }

/-- What the doses make of a miss, but for M14. -/
def settled (p : Side) (x : State) : State :=
  if x.dose.state = .confirmWait then
    if x.dose.duty = p ∧ (x.pump.get p).state = .failed then setDosingState .fault (unflown x)
    else schedulingCheck (unflown x)
  else if x.dose.state = .manualWait then manualMissed x else x

section

variable {p : Side} {u x : State}

theorem missedOutcome_auto (h : Dosed u x) (wait : x.dose.state = .confirmWait) :
    missedOutcome p x = evaluate 14 (doseDebt x) (settled p x) := by
  have failing : ((unflown x).duty = p && ((unflown x).pump.get p).state == .failed) = true
      ↔ x.dose.duty = p ∧ (x.pump.get p).state = .failed := by
    rw [Bool.and_eq_true, decide_eq_true_iff, beq_iff_eq]
    rfl
  have work : missedOutcome p x = if (unflown x).duty = p && ((unflown x).pump.get p).state == .failed
      then debtToMonitor (enterFault (unflown x)) else schedulingCheck (debtToMonitor (unflown x)) := by
    simp only [missedOutcome, wait]
    rfl
  rw [work, settled, if_pos wait]
  by_cases fails : x.dose.duty = p ∧ (x.pump.get p).state = .failed
  · rw [if_pos fails, if_pos (failing.mpr fails), enterFault_dosed (u := u) (x := unflown x) h]
    rfl
  · rw [if_neg fails, if_neg (mt failing.mp fails), ← schedulingCheck_evaluate]
    rfl

theorem missedOutcome_manual (wait : x.dose.state = .manualWait) :
    missedOutcome p x = evaluate 14 (doseDebt x) (settled p x) := by
  have auto : x.dose.state ≠ .confirmWait := by simp [wait]
  rw [settled, if_neg auto, if_pos wait]
  simp only [missedOutcome, wait]
  rfl

theorem missedOutcome_none (h1 : x.dose.state ≠ .confirmWait) (h2 : x.dose.state ≠ .manualWait) :
    missedOutcome p x = settled p x := by
  rw [settled, if_neg h1, if_neg h2]
  unfold missedOutcome
  split
  · exact absurd (by assumption) h1
  · exact absurd (by assumption) h2
  · rfl

/-- A miss hands the debt to M14 where it is an outcome. -/
theorem missedOutcome_eq (h : Dosed u x) : missedOutcome p x =
    if x.dose.state = .confirmWait ∨ x.dose.state = .manualWait then evaluate 14 (doseDebt x) (settled p x)
    else settled p x := by
  by_cases auto : x.dose.state = .confirmWait
  · rw [if_pos (.inl auto), missedOutcome_auto h auto]
  · by_cases manual : x.dose.state = .manualWait
    · rw [if_pos (.inr manual), missedOutcome_manual manual]
    · rw [if_neg (not_or.mpr ⟨auto, manual⟩), missedOutcome_none auto manual]

/-- The doses settle by their own, their table and the count of manual misses alone. -/
theorem settled_eq : settled p x = { x with
    table := (settled p x).table, dose := (settled p x).dose
    recorder := { x.recorder with station := { x.recorder.station with
      manualMisses := (settled p x).recorder.station.manualMisses } } } := by
  unfold settled
  split
  · split
    · rfl
    · rw [schedulingCheck_recorder]
      exact schedulingCheck_eq (unflown x)
  · split <;> rfl

theorem settled_dose : (settled p x).dose.account = x.dose.account ∧ (settled p x).dose.duty = x.dose.duty := by
  unfold settled
  split
  · split
    · exact ⟨rfl, rfl⟩
    · rw [schedulingCheck_dose]
      exact ⟨rfl, rfl⟩
  · split <;> exact ⟨rfl, rfl⟩

theorem settled_manual (wait : x.dose.state = .manualWait) : settled p x = manualMissed x := by
  rw [settled, if_neg (by simp [wait]), if_pos wait]

theorem settled_none (h1 : x.dose.state ≠ .confirmWait) (h2 : x.dose.state ≠ .manualWait) : settled p x = x := by
  rw [settled, if_neg h1, if_neg h2]

theorem settled_fault (wait : x.dose.state = .confirmWait) (duty : x.dose.duty = p)
    (fails : (x.pump.get p).state = .failed) : settled p x = setDosingState .fault (unflown x) := by
  rw [settled, if_pos wait, if_pos ⟨duty, fails⟩]

theorem settled_check (wait : x.dose.state = .confirmWait) (good : ¬ (x.dose.duty = p ∧ (x.pump.get p).state = .failed)) :
    settled p x = schedulingCheck (unflown x) := by
  rw [settled, if_pos wait, if_neg good]

theorem settled_armed (wait : x.dose.state = .confirmWait) (good : ¬ (x.dose.duty = p ∧ (x.pump.get p).state = .failed)) :
    (settled p x).dose.state = .armed ∨ (settled p x).dose.state = .strokeWait := by
  rw [settled_check wait good]
  exact schedulingCheck_armed rfl

/-- The check places no CONFIRM entry, nor does anything else the doses do. -/
theorem settled_confirms (room : x.table.count (fun _ => true) < x.table.places.length) :
    (settled p x).table.count isConfirm = x.table.count isConfirm := by
  unfold settled
  split
  · split
    · rfl
    · by_cases owed : strokeOwed (unflown x) = true
      · rw [schedulingCheck_owed owed]
        exact (place_room room _).2 isConfirm
      · rw [schedulingCheck_notOwed owed]
        rfl
  · split <;> rfl

end

/-! ## CONFIRM_ENTRY_DUE -/

section Due

variable {p : Side} {id : Fin 8} {u : State}

theorem deadline_ends (h : (u.pump.get p).state ≠ .await) (atEnd : driveEnded p u = true)
    (proved : (u.pump.get p).state = .driving → (u.pump.get p).confirmedInDrive = true) :
    deadline p (freed id u) = endDrive p (freed id u) := by
  have unawaited : ((endDrive p (freed id u)).pump.get p).state ≠ .await := by
    by_cases driving : (u.pump.get p).state = .driving
    · rw [endDrive_confirmed (u := freed id u) driving (proved driving), schedulingCheck_pump, apply_ite State.pump,
        raise_pump, ite_self]
      simp [proven]
    · rw [endDrive_still (u := freed id u) driving]
      simpa [off, freed] using h
  unfold deadline
  dsimp only
  rw [endDriveIfReached_ended (show driveEnded p (freed id u) = true from atEnd), if_neg unawaited]

theorem deadline_nothing (h : (u.pump.get p).state ≠ .await) (going : driveEnded p u = false) :
    deadline p (freed id u) = freed id u := by
  unfold deadline
  dsimp only
  rw [endDriveIfReached_still (by rw [show driveEnded p (freed id u) = driveEnded p u from rfl, going]; decide)]
  exact if_neg h

/-- The part a miss leaves, but for M14, its notice raised as the miss is counted. -/
theorem settled_noticed : settled p (afterMiss p id u) = raise .dosing 0 { u with
    pump := (afterMiss p id u).pump, table := (settled p (afterMiss p id u)).table
    dose := (settled p (afterMiss p id u)).dose, recorder := (settled p (afterMiss p id u)).recorder } := by
  rw [raise_from (u := u) ?link ?settings]
  case link | settings => rfl
  rw [settled_eq, afterMiss_eq]
  rfl

theorem afterMiss_dosed : Dosed u (afterMiss p id u) := by
  rw [Dosed, afterMiss_eq]
  exact ⟨rfl, rfl⟩

theorem afterMiss_state : (afterMiss p id u).dose.state = u.dose.state := by rw [afterMiss_eq]

theorem afterMiss_table : (afterMiss p id u).table = (freed id u).table := by rw [afterMiss_eq]

theorem missed_pending (enabled : u.settings.active.station.enables.dosing = true) :
    Pending .dosing 0 (missedOutcome p (afterMiss p id u)) := by
  have pending : Pending .dosing 0 (settled p (afterMiss p id u)) := by
    rw [settled_noticed]
    exact pending_raise enabled
  rw [missedOutcome_eq afterMiss_dosed]
  split
  · exact evaluate_pending pending
  · exact pending

/-- What the miss leaves of the fields that M14 does not touch. -/
theorem missed_fields : let b := missedOutcome p (afterMiss p id u)
    let z := settled p (afterMiss p id u)
    b.pump = (afterMiss p id u).pump ∧ b.dose = z.dose ∧ b.table = z.table ∧ b.recorder = z.recorder := by
  have pump : (settled p (afterMiss p id u)).pump = (afterMiss p id u).pump := by rw [settled_eq]
  dsimp only
  rw [missedOutcome_eq afterMiss_dosed]
  split
  · rw [evaluate_pump, evaluate_dose, evaluate_table, evaluate_recorder]
    exact ⟨pump, rfl, rfl, rfl⟩
  · exact ⟨pump, rfl, rfl, rfl⟩

/-- The pump of a miss: its drive over, the miss counted, FAILED at the limit. -/
theorem afterMiss_get : (afterMiss p id u).pump.get p = { ended (driveEnded p u) (u.pump.get p) with
    misses := (u.pump.get p).misses + 1
    state := if u.odorant.missLimit ≤ (u.pump.get p).misses + 1 then .failed else .ready } := by
  rw [afterMiss_pump, Two.get_set_same]

theorem afterMiss_failed : ((afterMiss p id u).pump.get p).state = .failed
    ↔ u.odorant.missLimit ≤ (u.pump.get p).misses + 1 := by
  rw [afterMiss_get]
  by_cases limit : u.odorant.missLimit ≤ (u.pump.get p).misses + 1 <;> simp [limit]

/-- A pump that fails and is still on duty had no other to pass it to. -/
theorem afterMiss_alone (h : (afterMiss p id u).dose.duty = p ∧ ((afterMiss p id u).pump.get p).state = .failed) :
    u.odorant.missLimit ≤ (u.pump.get p).misses + 1 ∧ u.dose.duty = p ∧ (u.pump.get p.other).state ≠ .ready := by
  obtain ⟨own, fails⟩ := h
  have limit := afterMiss_failed.mp fails
  by_cases passes : u.odorant.missLimit ≤ (u.pump.get p).misses + 1 ∧ u.dose.duty = p ∧ (u.pump.get p.other).state = .ready
  · obtain ⟨-, duty, ready⟩ := passes
    exact absurd ((afterMiss_passes limit duty ready).1.symm.trans own) (other_ne p)
  · have duty : u.dose.duty = p := (afterMiss_keeps passes).symm.trans own
    exact ⟨limit, duty, fun ready => passes ⟨limit, duty, ready⟩⟩

/-- The debt of M14 after a miss is the account's before it: nothing is drawn (R89). -/
theorem afterMiss_debt : doseDebt (afterMiss p id u) = u.dose.account * 1000 / (u.odorant.debtLimit * u.odorant.strokeMass) := by
  rw [afterMiss_eq]
  rfl

/-- The doses as the check, or FAULT, finds them. -/
theorem afterMiss_unflown : unflown (afterMiss p id u) = { freed id u with
    pump := (afterMiss p id u).pump
    dose := { u.dose with duty := (afterMiss p id u).dose.duty, massInFlight := 0, state := .armed }
    recorder := (afterMiss p id u).recorder
    link := (raise .dosing 0 u).link } := by
  rw [unflown, afterMiss_eq]

end Due

/-- Settles O32: the entry freed, a pump that awaits proof misses (`afterMiss`) and the doses settle (`settled`). -/
theorem confirmEntryMissesStroke : Obligations.ConfirmEntryMissesStroke := by
  intro s u after id e p hu hl hat kind due side atEnd
  have taken : exec (.confirmEntryDue after id) s = .next (finish (deadline p (freed id u))) := by
    rw [exec_confirmEntryDue, entry_at hu hl hat kind due, side]
    rfl
  refine ⟨fun awaits => ?_, fun still going => ?_, fun still ends proved => ?_⟩
  · obtain ⟨pump, dose, table, recorder⟩ := missed_fields (p := p) (id := id) (u := u)
    obtain ⟨account, duty⟩ := settled_dose (p := p) (x := afterMiss p id u)
    obtain ⟨counted, delivered, manual⟩ := afterMiss_recorder (p := p) (id := id) (u := u)
    have state : (afterMiss p id u).dose.state = u.dose.state := afterMiss_state
    have record := congrArg State.recorder (settled_eq (p := p) (x := afterMiss p id u))
    have unpassed : ¬ ((afterMiss p id u).dose.duty = p ∧ ((afterMiss p id u).pump.get p).state = .failed) →
        u.dose.state = .confirmWait → (settled p (afterMiss p id u)).dose.state = .armed
          ∨ (settled p (afterMiss p id u)).dose.state = .strokeWait := fun good wait => settled_armed (state.trans wait) good
    have line : (missedOutcome p (afterMiss p id u)).link.tx = u.link.tx := by
      rw [← deadline_misses awaits]
      exact congrArg (·.2.1) (deadline_line p (freed id u))
    rw [taken, deadline_misses awaits]
    refine ⟨_, rfl, ⟨?_, fun wait => ?_, fun wait => ?_, fun h1 h2 => ?_⟩, ?_, ?_, ?_, ?_, ?_, ?_, fun below => ⟨?_, ?_, fun wait => ?_⟩,
      fun limit => ⟨?_, fun own ready => ⟨?_, ?_, fun wait => ?_⟩, fun own unready => ⟨?_, fun wait => ?_⟩⟩,
      fun wait => ⟨?_, ?_, ?_⟩, fun enabled => given_finish (by decide) line (missed_pending enabled)⟩
    all_goals simp only [finish_pump, finish_dose, finish_table, finish_recorder, pump, dose, table, recorder]
    · by_cases outcome : u.dose.state = .confirmWait ∨ u.dose.state = .manualWait
      · rw [if_pos outcome, missedOutcome_eq afterMiss_dosed, state, if_pos outcome, afterMiss_debt]
        exact congrArg (fun x => finish (evaluate 14 _ x)) settled_noticed
      · rw [if_neg outcome, missedOutcome_eq afterMiss_dosed, state, if_neg outcome]
        exact congrArg finish settled_noticed
    · rw [duty]
      split
      · rename_i alone
        rw [settled_fault (state.trans wait) alone.1 alone.2, afterMiss_unflown]
        exact ⟨rfl, rfl⟩
      · rename_i good
        rw [settled_check (state.trans wait) good, afterMiss_unflown]
        exact schedulingCheck_congr rfl rfl rfl rfl rfl
    · rw [duty, settled_manual (state.trans wait), manualMissed, afterMiss_eq]
      exact ⟨rfl, rfl⟩
    · rw [duty, settled_none (by rwa [state]) (by rwa [state]), afterMiss_eq]
      exact ⟨rfl, rfl⟩
    · rw [account, afterMiss_eq]
    · rw [afterMiss_pump, Two.get_set, if_neg (other_ne p)]
    · have gone := count_free hat isConfirm
      rw [settled_confirms (by rw [afterMiss_table]; exact free_room hat), afterMiss_table]
      rw [show isConfirm e = true by simp [isConfirm, kind]] at gone
      exact gone
    · rw [record]
      exact counted
    · rw [record]
      exact delivered
    · rw [afterMiss_get]
      rfl
    · rw [afterMiss_get, if_neg (Nat.not_le.mpr below)]
    · rw [duty, afterMiss_keeps fun c => Nat.not_le.mpr below c.1]
    · exact unpassed (fun alone => Nat.not_le.mpr below (afterMiss_alone alone).1) wait
    · exact afterMiss_failed.mpr limit
    · rw [duty, (afterMiss_passes limit own ready).1]
    · rw [record]
      exact (afterMiss_passes limit own ready).2
    · exact unpassed (fun alone => (afterMiss_alone alone).2.2 ready) wait
    · rw [duty, afterMiss_keeps fun c => unready c.2.2, own]
    · have alone : (afterMiss p id u).dose.duty = p := (afterMiss_keeps fun c => unready c.2.2).trans own
      rw [settled_fault (state.trans wait) alone (afterMiss_failed.mpr limit)]
      rfl
    · rw [settled_manual (state.trans wait)]
      rfl
    · rw [settled_manual (state.trans wait)]
      rfl
    · rw [settled_manual (state.trans wait)]
      exact congrArg (· + 1) manual
  · rw [taken, deadline_nothing still going]
    rfl
  · exact ⟨_, by rw [taken, deadline_ends still ends proved], driveOver_endDrive p (freed id u)⟩

end Sys2Proof.Proofs.Misses
end

section
/-! PROOFS. The compressibility ratio: a quotient rounded half away, an interpolation in its cell, the grid (R60 to R63). -/

namespace Sys2Proof.Proofs.Ratio

open Sys2Proof Sys2Proof.Machine Sys2Proof.Proofs.VolumeAndEnergy

/-! ## Rounding half away from zero -/

theorem roundHalfUp_bounds (n : Nat) {den : Nat} (h : 0 < den) :
    2 * den * roundHalfUp n den ≤ 2 * n + den ∧ 2 * n + den < 2 * den * (roundHalfUp n den + 1) :=
  ⟨Nat.mul_div_le _ _, Nat.lt_mul_div_succ _ (by omega)⟩

/-- A share of a span is rounded to no more than the span. -/
theorem roundHalfUp_share {part whole : Nat} (span : Nat) (h : part ≤ whole) (pos : 0 < whole) :
    roundHalfUp (span * part) whole ≤ span := by
  have share : span * part ≤ span * whole := Nat.mul_le_mul_left span h
  refine Nat.lt_succ_iff.mp (Nat.div_lt_of_lt_mul ?_)
  calc 2 * (span * part) + whole ≤ 2 * (span * whole) + whole := by omega
    _ < 2 * (span * whole) + 2 * whole := by omega
    _ = 2 * whole * (span + 1) := by ring

theorem roundHalfUp_zero {whole : Nat} (pos : 0 < whole) : roundHalfUp 0 whole = 0 :=
  Nat.div_eq_of_lt (by omega)

theorem roundHalfUp_whole (span : Nat) {whole : Nat} (pos : 0 < whole) : roundHalfUp (span * whole) whole = span := by
  have split : 2 * (span * whole) + whole = whole + 2 * whole * span := by ring
  rw [roundHalfUp, split, Nat.add_mul_div_left _ _ (by omega), Nat.div_eq_of_lt (by omega), Nat.zero_add]

theorem roundHalfAway_nonneg (n den : Nat) : roundHalfAway n den = roundHalfUp n den := by simp [roundHalfAway]

theorem roundHalfAway_neg {n : Nat} (den : Nat) (pos : 0 < n) : roundHalfAway (-n) den = -(roundHalfUp n den : Nat) := by
  have below : ¬ (0 : Int) ≤ -n := by omega
  rw [roundHalfAway, if_neg below]
  simp

/-- A magnitude of 0 is 0 on either side. -/
theorem roundHalfAway_opposite (n : Nat) {den : Nat} (pos : 0 < den) : roundHalfAway (-n) den = -(roundHalfUp n den : Nat) := by
  rcases Nat.eq_zero_or_pos n with rfl | h
  · simp [roundHalfAway, roundHalfUp_zero pos]
  · exact roundHalfAway_neg den h

/-- `roundHalfAway` is the quotient rounded half away from zero. -/
theorem roundsTo_roundHalfAway (num : Int) {den : Nat} (h : 0 < den) : RoundsTo num den (roundHalfAway num den) := by
  refine ⟨fun nonneg => ?_, fun neg => ?_⟩
  · obtain ⟨n, rfl⟩ := Int.eq_ofNat_of_zero_le nonneg
    obtain ⟨below, above⟩ := roundHalfUp_bounds n h
    rw [roundHalfAway_nonneg]
    exact ⟨by exact_mod_cast below, by exact_mod_cast above⟩
  · obtain ⟨n, hn⟩ := Int.eq_ofNat_of_zero_le (show 0 ≤ -num by omega)
    obtain rfl : num = -n := by omega
    obtain ⟨below, above⟩ := roundHalfUp_bounds n h
    rw [roundHalfAway_neg den (by omega), neg_neg, neg_neg]
    exact ⟨by exact_mod_cast below, by exact_mod_cast above⟩

/-! ## Interpolation between two values -/

section Interpolate

variable {start stop num den : Nat}

/-- The step an interpolation makes from its start. -/
def stepFrom (start stop num den : Nat) : Int := roundHalfAway (((stop : Int) - start) * num) den

theorem stepFrom_rising (h : start ≤ stop) : stepFrom start stop num den = (roundHalfUp ((stop - start) * num) den : Nat) := by
  have num_eq : ((stop : Int) - start) * num = ((stop - start) * num : Nat) := by
    push_cast [Nat.cast_sub h]
    ring
  rw [stepFrom, num_eq, roundHalfAway_nonneg]

theorem stepFrom_falling (h : stop ≤ start) (pos : 0 < den) :
    stepFrom start stop num den = -(roundHalfUp ((start - stop) * num) den : Nat) := by
  have num_eq : ((stop : Int) - start) * num = -((start - stop) * num : Nat) := by
    push_cast [Nat.cast_sub h]
    ring
  rw [stepFrom, num_eq, roundHalfAway_opposite _ pos]

/-- Within the span an interpolation lies between its two values. -/
theorem interpolate_between (h : num ≤ den) (pos : 0 < den) :
    min start stop ≤ interpolate start stop num den ∧ interpolate start stop num den ≤ max start stop
      ∧ (interpolate start stop num den : Int) = start + stepFrom start stop num den := by
  have unfolded : interpolate start stop num den = ((start : Int) + stepFrom start stop num den).toNat := rfl
  rw [unfolded]
  rcases Nat.le_total start stop with up | down
  · have share := roundHalfUp_share (stop - start) h pos
    rw [stepFrom_rising up]
    omega
  · have share := roundHalfUp_share (start - stop) h pos
    rw [stepFrom_falling down pos]
    omega

theorem interpolate_start (pos : 0 < den) : interpolate start stop 0 den = start := by
  have still : stepFrom start stop 0 den = 0 := by
    rw [stepFrom, Nat.cast_zero, mul_zero]
    exact (roundHalfAway_nonneg 0 den).trans (congrArg Nat.cast (roundHalfUp_zero pos))
  have := (interpolate_between (start := start) (stop := stop) (Nat.zero_le den) pos).2.2
  omega

theorem interpolate_stop (pos : 0 < den) : interpolate start stop den den = stop := by
  have equal := (interpolate_between (start := start) (stop := stop) (Nat.le_refl den) pos).2.2
  rcases Nat.le_total start stop with up | down
  · rw [stepFrom_rising up, roundHalfUp_whole _ pos] at equal
    omega
  · rw [stepFrom_falling down pos, roundHalfUp_whole _ pos] at equal
    omega

end Interpolate

/-! ## A value in its cell -/

/-- A value lies in a cell of the lines: not below its lower line, not above its upper one, which is higher (R62). -/
def InCell (line : Nat → Nat) (v i : Nat) : Prop := line i ≤ v ∧ v ≤ line (i + 1) ∧ line i < line (i + 1)

section Cell

variable {line : Nat → Nat} {cells v i : Nat}

theorem inCell_of_lowest (rising : StrictMonoOn line (Set.Iic cells)) (h : LowestCell line cells v i) (low : line 0 ≤ v) :
    InCell line v i := by
  obtain ⟨hi, under, passed⟩ := h
  refine ⟨?_, under, rising hi.le hi (Nat.lt_succ_self i)⟩
  cases i with
  | zero => exact low
  | succ i => exact (passed i (Nat.lt_succ_self i)).le

/-- A value above its cell's lower line, or at the bottom of the grid, has that cell as its lowest. -/
theorem lowest_of_above (rising : StrictMonoOn line (Set.Iic cells)) (hi : i < cells)
    (above : line i < v ∨ i = 0 ∧ v = line 0) (under : v ≤ line (i + 1)) : LowestCell line cells v i := by
  refine ⟨hi, under, fun k hk => ?_⟩
  have reach : line (k + 1) ≤ line i := rising.monotoneOn (show k + 1 ≤ cells by omega) hi.le hk
  rcases above with above | ⟨rfl, -⟩
  · exact reach.trans_lt above
  · exact absurd hk (Nat.not_lt_zero k)

theorem clamp_within (low : line 0 ≤ line cells) (v : Nat) :
    line 0 ≤ clamp (line 0) (line cells) v ∧ clamp (line 0) (line cells) v ≤ line cells := by
  unfold clamp
  omega

theorem clamp_of_within (low : line 0 ≤ v) (high : v ≤ line cells) : clamp (line 0) (line cells) v = v := by
  unfold clamp
  omega

/-- At a grid line the interpolation in its cell gives the line's own value. -/
theorem interpolate_line (rising : StrictMonoOn line (Set.Iic cells)) (pos : 0 < cells) {k : Nat} (hk : k ≤ cells)
    (h : LowestCell line cells (line k) i) (value : Nat → Nat) :
    interpolate (value i) (value (i + 1)) (line k - line i) (line (i + 1) - line i) = value k := by
  cases k with
  | zero =>
    obtain rfl := h.unique (lowestCell_bottomLine rising pos)
    have step := rising (Nat.zero_le _) (show 1 ≤ cells from pos) Nat.zero_lt_one
    rw [Nat.sub_self]
    exact interpolate_start (Nat.sub_pos_of_lt step)
  | succ k =>
    obtain rfl := h.unique (lowestCell_upperLine rising hk)
    have step := rising (Nat.le_of_succ_le hk) hk (Nat.lt_succ_self i)
    exact interpolate_stop (Nat.sub_pos_of_lt step)

end Cell

/-! ## The grid -/

theorem Five.nth_mem {α : Type} (t : Five α) (i : Nat) : t.nth i ∈ t.toList := by
  unfold Five.nth Five.toList
  split <;> simp

theorem Four.nth_mem {α : Type} (t : Four α) (i : Nat) : t.nth i ∈ t.toList := by
  unfold Four.nth Four.toList
  split <;> simp

section Grid

variable {g : CompressSection} {p t i j : Nat}

theorem valid_value (valid : g.valid = true) (i j : Nat) :
    800000 ≤ (g.values.nth i).nth j ∧ (g.values.nth i).nth j ≤ 1400000 := by
  simp only [CompressSection.valid, Bool.and_eq_true] at valid
  have row := List.all_eq_true.mp valid.2 _ (Five.nth_mem g.values i)
  have value := List.all_eq_true.mp row _ (Four.nth_mem (g.values.nth i) j)
  simpa [inRange] using value

/-- The value interpolated along pressure in the cells of line `i`, on temperature line `j`. -/
def alongPressure (g : CompressSection) (p i j : Nat) : Nat :=
  interpolate ((g.values.nth i).nth j) ((g.values.nth (i + 1)).nth j) (p - g.pressures.nth i)
    (g.pressures.nth (i + 1) - g.pressures.nth i)

/-- The ratio as interpolated in a cell, along pressure and then along temperature. -/
def ratioIn (g : CompressSection) (p t i j : Nat) : Nat :=
  interpolate (alongPressure g p i j) (alongPressure g p i (j + 1)) (t - g.temperatures.nth j)
    (g.temperatures.nth (j + 1) - g.temperatures.nth j)

/-- The ratio is that of the clamped pressure and temperature in their cell. -/
theorem ratioF_eq (g : CompressSection) (p t : Nat) : ratioF g p t =
    ratioIn g (clamp (g.pressures.nth 0) (g.pressures.nth 4) p) (clamp (g.temperatures.nth 0) (g.temperatures.nth 3) t)
      (pressureIndex g (clamp (g.pressures.nth 0) (g.pressures.nth 4) p))
      (temperatureIndex g (clamp (g.temperatures.nth 0) (g.temperatures.nth 3) t)) := rfl

theorem alongPressure_within (valid : g.valid = true) (cell : InCell g.pressures.nth p i) (j : Nat) :
    800000 ≤ alongPressure g p i j ∧ alongPressure g p i j ≤ 1400000 := by
  obtain ⟨low, high, step⟩ := cell
  obtain ⟨lower, upper, -⟩ := interpolate_between (start := (g.values.nth i).nth j) (stop := (g.values.nth (i + 1)).nth j)
    (show p - g.pressures.nth i ≤ g.pressures.nth (i + 1) - g.pressures.nth i by omega) (by omega)
  have first := valid_value valid i j
  have second := valid_value valid (i + 1) j
  unfold alongPressure
  omega

theorem ratioIn_within (valid : g.valid = true) (pCell : InCell g.pressures.nth p i) (tCell : InCell g.temperatures.nth t j) :
    800000 ≤ ratioIn g p t i j ∧ ratioIn g p t i j ≤ 1400000 := by
  obtain ⟨low, high, step⟩ := tCell
  obtain ⟨lower, upper, -⟩ := interpolate_between (start := alongPressure g p i j) (stop := alongPressure g p i (j + 1))
    (show t - g.temperatures.nth j ≤ g.temperatures.nth (j + 1) - g.temperatures.nth j by omega) (by omega)
  have first := alongPressure_within valid pCell j
  have second := alongPressure_within valid pCell (j + 1)
  unfold ratioIn
  omega

end Grid

/-- Settles O17: a clamped pressure and temperature lie in their cells, between whose values each interpolation stays; a grid
line is the end of an interpolation. -/
theorem ratioWithinGrid : Obligations.RatioWithinGrid := by
  intro g valid
  obtain ⟨pressures, temperatures⟩ := valid_rising valid
  have pRising := nth_rising_of_five pressures
  have tRising := nth_rising_of_four temperatures
  have pLow : g.pressures.nth 0 ≤ g.pressures.nth 4 := pRising.monotoneOn (Nat.zero_le _) (Set.mem_Iic.mpr le_rfl) (by decide)
  have tLow : g.temperatures.nth 0 ≤ g.temperatures.nth 3 :=
    tRising.monotoneOn (Nat.zero_le _) (Set.mem_Iic.mpr le_rfl) (by decide)
  refine ⟨fun p t => ?_, fun i j hi hj => ?_, fun p t i j hi hj pAbove pUnder tAbove tUnder => ?_⟩
  · obtain ⟨pl, ph⟩ := clamp_within pLow p
    obtain ⟨tl, th⟩ := clamp_within tLow t
    have pCell := inCell_of_lowest pRising (pressureIndex_lowestCell g ph) pl
    have tCell := inCell_of_lowest tRising (temperatureIndex_lowestCell g th) tl
    rw [ratioF_eq]
    obtain ⟨lower, upper⟩ := ratioIn_within valid pCell tCell
    refine ⟨lower, upper, ?_⟩
    have again : ratioF g (clamp (g.pressures.nth 0) (g.pressures.nth 4) p)
        (clamp (g.temperatures.nth 0) (g.temperatures.nth 3) t) = _ := ratioF_eq g _ _
    rw [clamp_of_within pl ph, clamp_of_within tl th] at again
    exact again.symm
  · have pl : g.pressures.nth 0 ≤ g.pressures.nth i :=
      pRising.monotoneOn (Nat.zero_le _) (Nat.lt_succ_iff.mp hi) (Nat.zero_le i)
    have ph : g.pressures.nth i ≤ g.pressures.nth 4 :=
      pRising.monotoneOn (Nat.lt_succ_iff.mp hi) (Set.mem_Iic.mpr le_rfl) (Nat.lt_succ_iff.mp hi)
    have tl : g.temperatures.nth 0 ≤ g.temperatures.nth j :=
      tRising.monotoneOn (Nat.zero_le _) (Nat.lt_succ_iff.mp hj) (Nat.zero_le j)
    have th : g.temperatures.nth j ≤ g.temperatures.nth 3 :=
      tRising.monotoneOn (Nat.lt_succ_iff.mp hj) (Set.mem_Iic.mpr le_rfl) (Nat.lt_succ_iff.mp hj)
    have along : ∀ k, alongPressure g (g.pressures.nth i) (pressureIndex g (g.pressures.nth i)) k = (g.values.nth i).nth k :=
      fun k => interpolate_line pRising (by decide) (Nat.lt_succ_iff.mp hi) (pressureIndex_lowestCell g ph)
        fun a => (g.values.nth a).nth k
    rw [ratioF_eq, clamp_of_within pl ph, clamp_of_within tl th, ratioIn, along, along]
    exact interpolate_line tRising (by decide) (Nat.lt_succ_iff.mp hj) (temperatureIndex_lowestCell g th)
      fun b => (g.values.nth i).nth b
  · have pLowest := lowest_of_above pRising hi pAbove pUnder
    have tLowest := lowest_of_above tRising hj tAbove tUnder
    have ph : p ≤ g.pressures.nth 4 := pUnder.trans (pRising.monotoneOn hi (Set.mem_Iic.mpr le_rfl) hi)
    have th : t ≤ g.temperatures.nth 3 := tUnder.trans (tRising.monotoneOn hj (Set.mem_Iic.mpr le_rfl) hj)
    have pl : g.pressures.nth 0 ≤ p := pAbove.elim
      (fun above => (pRising.monotoneOn (Nat.zero_le _) hi.le (Nat.zero_le i)).trans above.le) fun bottom => bottom.2.ge
    have tl : g.temperatures.nth 0 ≤ t := tAbove.elim
      (fun above => (tRising.monotoneOn (Nat.zero_le _) hj.le (Nat.zero_le j)).trans above.le) fun bottom => bottom.2.ge
    obtain ⟨pLower, pUpper, pStep⟩ := inCell_of_lowest pRising pLowest pl
    obtain ⟨tLower, tUpper, tStep⟩ := inCell_of_lowest tRising tLowest tl
    have along : ∀ k, (alongPressure g p i k : Int) = ((g.values.nth i).nth k : Nat)
        + stepFrom ((g.values.nth i).nth k) ((g.values.nth (i + 1)).nth k) (p - g.pressures.nth i)
            (g.pressures.nth (i + 1) - g.pressures.nth i) := fun k =>
      (interpolate_between (by omega) (by omega)).2.2
    have ratio : (ratioIn g p t i j : Int) = alongPressure g p i j + stepFrom (alongPressure g p i j)
        (alongPressure g p i (j + 1)) (t - g.temperatures.nth j) (g.temperatures.nth (j + 1) - g.temperatures.nth j) :=
      (interpolate_between (by omega) (by omega)).2.2
    rw [ratioF_eq, clamp_of_within pl ph, clamp_of_within tl th, (pressureIndex_lowestCell g ph).unique pLowest,
      (temperatureIndex_lowestCell g th).unique tLowest]
    refine ⟨_, _, _, roundsTo_roundHalfAway _ (by omega), roundsTo_roundHalfAway _ (by omega),
      roundsTo_roundHalfAway _ (by omega), ?_⟩
    rw [ratio, stepFrom, along j, along (j + 1)]
    rfl

end Sys2Proof.Proofs.Ratio
end

section
/-! PROOFS. The work of a boundary, part by part: what the close of the interval, the settling of the runs and the staged copies
come to before the period closes (R7, R8, R10, R12). -/

namespace Sys2Proof.Proofs.Boundaries

open Sys2Proof Sys2Proof.Machine Sys2Proof.Proofs.Sections Sys2Proof.Proofs.Events

/-! ## The order of the work -/

/-- The part as the period's close finds it: every block's work of the boundary done, the interval counted (R7, R10). -/
def worked (v : State) : State := countInterval (applyStaged (settleRuns (clearCounts (closeInterval v))))

/-- The part once the period has closed, where it is to. -/
def closed (c : Instr) (v : State) : State :=
  if closesPeriod c v = true then closePeriod (boundaryCause c) (worked v) else worked v

section

variable {c : Instr} {v : State}

@[simp] theorem worked_time : (worked v).time = { v.time with periodCount := v.time.periodCount + 1 } := by
  simp [worked, countInterval]

@[simp] theorem worked_settings : (worked v).settings = appliedSettings v.settings := by simp [worked]

theorem closeOf_worked : closeOf c (worked v) = closed c v := by
  cases c
  case boundary =>
    simp only [closeOf, closed, closesPeriod, boundaryCause, lengthClose, worked_time, worked_settings, appliedSettings,
      decide_eq_true_eq]
  all_goals exact (if_pos rfl).symm

theorem boundaryWith_eq : boundaryWith (closeOf c) v =
    beginInterval (markReconfig (reconfigRuns v.settings) (closed c v)) := by
  rw [← closeOf_worked]
  rfl

/-! ## What the close of the period leaves alone -/

@[simp] theorem closed_pulse : (closed c v).pulse = (worked v).pulse := by unfold closed; split <;> simp
@[simp] theorem closed_run : (closed c v).run = (worked v).run := by unfold closed; split <;> simp
@[simp] theorem closed_conv : (closed c v).conv = (worked v).conv := by unfold closed; split <;> simp
@[simp] theorem closed_loop : (closed c v).loop = (worked v).loop := by unfold closed; split <;> simp
@[simp] theorem closed_dose : (closed c v).dose = (worked v).dose := by unfold closed; split <;> simp
@[simp] theorem closed_table : (closed c v).table = (worked v).table := by unfold closed; split <;> simp
@[simp] theorem closed_sense : (closed c v).sense = (worked v).sense := by unfold closed; split <;> simp
@[simp] theorem closed_monitors : (closed c v).monitors = (worked v).monitors := by unfold closed; split <;> simp
@[simp] theorem closed_settings : (closed c v).settings = (worked v).settings := by unfold closed; split <;> simp
@[simp] theorem closed_pins : (closed c v).pins = (worked v).pins := by unfold closed; split <;> simp
@[simp] theorem closed_pending : (closed c v).pending = (worked v).pending := by unfold closed; split <;> simp

/-! ## The blocks' work -/

@[simp] theorem worked_loop : (worked v).loop = v.loop := by simp [worked]
@[simp] theorem worked_sense : (worked v).sense = v.sense := by simp [worked]
@[simp] theorem worked_pump : (worked v).pump = v.pump := by simp [worked]
@[simp] theorem worked_pins : (worked v).pins = v.pins := by simp [worked]
@[simp] theorem worked_pending : (worked v).pending = v.pending := by simp [worked]

theorem closeInterval_pulse : (closeInterval v).pulse = .tabulate (closePulse v) := by simp [closeInterval, closeRuns]
theorem closeInterval_run : (closeInterval v).run = .tabulate (closeControl v) := by simp [closeInterval, closeRuns]
theorem closeInterval_conv : (closeInterval v).conv = closeConversion v := by simp [closeInterval, closeRuns]

@[simp] theorem worked_conv : (worked v).conv = closeConversion v := by simp [worked, closeInterval_conv]

theorem worked_run (r : RunId) : (worked v).run.get r = settled v.loop r (closeControl v r) := by
  simp [worked, settleRuns, closeInterval_run]

theorem applyStaged_pulse (s : State) : (applyStaged s).pulse =
    (dropIntegrity s.settings.active (applySections s)).pulse := by
  unfold applyStaged
  dsimp only
  (repeat' split) <;> simp

/-- The pulse front end of a run before a staged RUN copy acts on it. -/
def judgedPulse (v : State) (r : RunId) : PulseRun := { closePulse v r with count := .both 0 }

theorem worked_pulse (r : RunId) : (worked v).pulse.get r =
    if bCheckOff v.settings.active (appliedSettings v.settings).active r then clearIntegrity (judgedPulse v r)
    else judgedPulse v r := by
  simp [worked, applyStaged_pulse, dropIntegrity, clearCounts, closeInterval_pulse, judgedPulse]

end

end Sys2Proof.Proofs.Boundaries
end

section
/-! PROOFS. The odorant accrued at a boundary: the account, the check, the account under a staged ODORANT copy, and the recorder as
the period's close finds it (R80, R81, R82, R136). -/

namespace Sys2Proof.Proofs.Accruals

open Sys2Proof Sys2Proof.Machine Sys2Proof.Proofs.Sections Sys2Proof.Proofs.Failures Sys2Proof.Proofs.Dosing
  Sys2Proof.Proofs.Boundaries

/-- The odorant owed by the interval (R80). -/
def owedMass (v : State) : Nat := owedDividend (sumFigures (·.base) v) v / 1000000000

/-- The account once the interval's odorant is owed (R81). -/
def keptAccount (v : State) : Nat :=
  if v.dose.mode = .auto then min (v.dose.account + owedMass v) v.odorant.cap else v.dose.account

/-- The part with the interval's odorant in its account and nothing else changed. -/
def accrued (v : State) : State := { v with dose := { v.dose with
  account := keptAccount v, residue := owedDividend (sumFigures (·.base) v) v % 1000000000 } }

/-- The scheduling check made where the account has increased. -/
def checked (v : State) : State := if v.dose.account < keptAccount v then schedulingCheck (accrued v) else accrued v

/-- The part as a staged ODORANT copy finds it, what lies above its cap out of the account (R82). -/
def recapped (v : State) : State := { checked v with
  settings := appliedSettings v.settings
  dose := { (checked v).dose with account := min (keptAccount v) (appliedSettings v.settings).active.odorant.cap } }

/-- What a staged ODORANT copy moves to forgone (R82). -/
def recappedExcess (v : State) : Nat :=
  if v.settings.staged.odorant.isSome = true then keptAccount v - (appliedSettings v.settings).active.odorant.cap else 0

section

variable {v : State}

/-! ## The doses and their table -/

theorem checked_account : (checked v).dose.account = keptAccount v := by
  unfold checked
  split
  · rw [schedulingCheck_dose]
    rfl
  · rfl

/-- The account formed, by what the accrual finds. -/
theorem accrueAccount_dose {y : State} (hd : y.dose = v.dose) (hs : y.settings = v.settings) :
    (accrueAccount (sumFigures (·.base) v) y).dose = (accrued v).dose := by
  have unfolded : (accrueAccount (sumFigures (·.base) v) y).dose = { y.dose with
      residue := owedDividend (sumFigures (·.base) v) y % nano
      account := if y.dose.mode = .auto then
          min (y.dose.account + owedDividend (sumFigures (·.base) v) y / nano) y.odorant.cap
        else y.dose.account } := rfl
  rw [unfolded]
  simp only [accrued, keptAccount, owedMass, owedDividend, State.odorant, hd, hs, nano]

/-- The dose controller's work at an interval close, by what it finds. -/
theorem accrue_doses {y : State} (hd : y.dose = v.dose) (hp : y.pump = v.pump) (ht : y.table = v.table)
    (hs : y.settings = v.settings) (hn : y.time = v.time) :
    (accrue (sumFigures (·.base) v) y).dose = (checked v).dose
      ∧ (accrue (sumFigures (·.base) v) y).table = (checked v).table := by
  have formed := accrueAccount_dose hd hs
  have dose : (debtToMonitor (accrueAccount (sumFigures (·.base) v) y)).dose = (accrued v).dose := by
    rw [← formed]
    simp [debtToMonitor]
  have table : (debtToMonitor (accrueAccount (sumFigures (·.base) v) y)).table = (accrued v).table := by
    rw [show (accrued v).table = y.table from ht.symm]
    simp [debtToMonitor]
  unfold accrue checked
  dsimp only
  rw [dose, hd]
  by_cases h : v.dose.account < keptAccount v
  · rw [if_pos h, if_pos (show v.dose.account < (accrued v).dose.account from h)]
    exact schedulingCheck_congr dose (by simp [debtToMonitor, hp, accrued]) table (by simp [debtToMonitor, hs, accrued])
      (by simp [debtToMonitor, hn, accrued])
  · rw [if_neg h, if_neg (show ¬ v.dose.account < (accrued v).dose.account from h)]
    exact ⟨dose, table⟩

theorem closeInterval_doses :
    (closeInterval v).dose = (checked v).dose ∧ (closeInterval v).table = (checked v).table := by
  unfold closeInterval
  exact accrue_doses (by simp [closeRuns]) (by simp [closeRuns]) (by simp [closeRuns]) (by simp [closeRuns])
    (by simp [closeRuns])

/-- The part as the staged copies find it. -/
def settledPart (v : State) : State := settleRuns (clearCounts (closeInterval v))

theorem worked_doses : (worked v).dose = (applyStaged (settledPart v)).dose
    ∧ (worked v).table = (applyStaged (settledPart v)).table := by
  simp [worked, settledPart]

theorem worked_doses_unstaged (h : v.settings.staged.odorant = none) :
    (worked v).dose = (checked v).dose ∧ (worked v).table = (checked v).table := by
  obtain ⟨dose, table⟩ := closeInterval_doses (v := v)
  rw [worked_doses.1, worked_doses.2, ← dose, ← table]
  unfold applyStaged
  dsimp only
  rw [if_neg (by simp [settledPart, h])]
  split <;> simp [settledPart]

/-- The part as a staged ODORANT copy finds it, M14 and the notices apart. -/
theorem worked_doses_staged (h : v.settings.staged.odorant.isSome = true) :
    (worked v).dose = (schedulingCheck (recapped v)).dose ∧ (worked v).table = (schedulingCheck (recapped v)).table := by
  obtain ⟨dose, table⟩ := closeInterval_doses (v := v)
  have checkedPart : (checked v).pump = v.pump ∧ (checked v).time = v.time := by
    unfold checked
    split <;> simp [accrued]
  rw [worked_doses.1, worked_doses.2]
  unfold applyStaged
  dsimp only
  rw [if_pos (by simpa [settledPart] using h)]
  apply schedulingCheck_congr
  case hd =>
    have account : (closeInterval v).dose.account = keptAccount v := by rw [dose, checked_account]
    split <;> simp [settledPart, forgoExcess, recapped, State.odorant, dose, checked_account]
  all_goals split <;> simp [settledPart, recapped, table, checkedPart]

/-! ## The recorder -/

theorem closeInterval_recorder : (closeInterval v).recorder = { closeRecorder v with
    station := { v.recorder.station with
      owed := v.recorder.station.owed + owedMass v
      forgone := v.recorder.station.forgone + (v.dose.account + owedMass v - keptAccount v) } } := by
  have formed {y : State} (hd : y.dose = v.dose) (hs : y.settings = v.settings) (hr : y.recorder = closeRecorder v) :
      (accrue (sumFigures (·.base) v) y).recorder = { closeRecorder v with
        station := { v.recorder.station with
          owed := v.recorder.station.owed + owedMass v
          forgone := v.recorder.station.forgone + (v.dose.account + owedMass v - keptAccount v) } } := by
    have account : (accrueAccount (sumFigures (·.base) v) y).recorder = { closeRecorder v with
        station := { v.recorder.station with
          owed := v.recorder.station.owed + owedMass v
          forgone := v.recorder.station.forgone + (v.dose.account + owedMass v - keptAccount v) } } := by
      have forgone : v.dose.account + owedMass v - keptAccount v =
          if v.dose.mode = .auto then v.dose.account + owedMass v - v.odorant.cap else owedMass v := by
        unfold keptAccount
        split <;> omega
      rw [forgone]
      simp only [accrueAccount, owedMass, owedDividend, State.odorant, hd, hs, onStation, State.onDose, State.onRecorder,
        hr]
      rfl
    rw [← account]
    unfold accrue
    dsimp only
    split <;> simp [debtToMonitor]
  unfold closeInterval
  exact formed (by simp [closeRuns]) (by simp [closeRuns]) (by simp [closeRuns])

theorem forgoExcess_recorder (s : State) : (forgoExcess s).recorder = { s.recorder with
    station := { s.recorder.station with
      forgone := s.recorder.station.forgone + (s.dose.account - s.odorant.cap) } } := rfl

/-- The recorder as the period's close finds it. -/
theorem worked_recorder : (worked v).recorder = { closeRecorder v with
    station := { v.recorder.station with
      owed := v.recorder.station.owed + owedMass v
      forgone := v.recorder.station.forgone + (v.dose.account + owedMass v - keptAccount v) + recappedExcess v }
    lastIndex := v.time.intervalIndex } := by
  have counted : (worked v).recorder =
      { (applyStaged (settledPart v)).recorder with lastIndex := v.time.intervalIndex } := by
    simp [worked, settledPart, countInterval]
  have before : (settledPart v).recorder = (closeInterval v).recorder := by simp [settledPart]
  have account : (closeInterval v).dose.account = keptAccount v := by rw [closeInterval_doses.1, checked_account]
  rw [counted]
  unfold applyStaged recappedExcess
  dsimp only
  rw [show (settledPart v).settings = v.settings by simp [settledPart]]
  by_cases h : v.settings.staged.odorant.isSome = true
  · rw [if_pos h, if_pos h]
    split <;> simp [forgoExcess_recorder, State.odorant, closeInterval_recorder, account, settledPart]
  · rw [if_neg h, if_neg h]
    split <;> simp [before, closeInterval_recorder]

end

end Sys2Proof.Proofs.Accruals
end

section
/-! PROOFS. The figures of a run at the close of an interval: its entry, its results, and what the totals and the accumulators take
of them (R23, R24, R45, R48, R57 to R73, R136, R144). -/

namespace Sys2Proof.Proofs.Intervals

open Sys2Proof Sys2Proof.Machine

/-! ## What an interval uses for a channel (R45) -/

section

variable {policy : SubstitutePolicy} {fallback v : Nat} {c : Channel}

theorem usedValue_latest (h : c.state ≠ .failed) (hv : c.latest = some v) :
    usedValue policy fallback c = (v, ⟨.none, none⟩) := by
  have usable : c.usable = true := by simp [Channel.usable, h]
  simp [usedValue, usable, hv, noSubstitute]

theorem usedValue_held (h : c.state = .failed) (hp : policy = .hold) (hv : c.lastGood = some v) :
    usedValue policy fallback c = (v, ⟨.held, some v⟩) := by
  simp [usedValue, Channel.usable, h, hp, hv]

theorem usedValue_fallback (h : c.state = .failed) (hp : policy = .fallback ∨ c.lastGood = none) :
    usedValue policy fallback c = (fallback, ⟨.fallback, some fallback⟩) := by
  have unusable : c.usable = false := by simp [Channel.usable, h]
  rcases hp with rfl | hv
  · simp [usedValue, unusable]
  · simp [usedValue, unusable, hv]

end

/-! ## One run's figures (R48, R56) -/

section

variable (u : State) (r : RunId)

theorem entryHanded_iff : entryHanded u r = true ↔ Computed u r := by simp [entryHanded]

theorem runFigures_eq : runFigures u r = if Computed u r then some (figuresOf u r) else none := by
  unfold runFigures
  by_cases h : Computed u r
  · rw [if_pos h, if_pos ((entryHanded_iff u r).mpr h)]
  · rw [if_neg h, if_neg (mt (entryHanded_iff u r).mp h)]

variable {u r} in
theorem runFigures_computed (h : Computed u r) : runFigures u r = some (figuresOf u r) := by
  rw [runFigures_eq, if_pos h]

variable {u r} in
theorem runFigures_uncomputed (h : ¬ Computed u r) : runFigures u r = none := by
  rw [runFigures_eq, if_neg h]

/-- The interval entry of a run from its figures. -/
def entryOf (f : RunFigures) : LastInterval :=
  { state := f.state, pUsed := f.pUsed, tUsed := f.tUsed, rate := f.rate, flags := f.flags }

/-- The results of a run from its figures. -/
def resultsOf (f : RunFigures) : LastResults :=
  { gross := f.gross, base := f.base, energy := f.energy, ratio := f.ratio, outOfTable := f.outOfTable }

theorem meteredChannel_eq (c : RunSection) (n : Two Nat) : meteredChannel c n =
    if c.bCheck = true ∧ n.a = 0 ∧ c.tolerance < n.b then .b else .a := by
  simp [meteredChannel, and_assoc]

theorem meteredCount_eq (c : RunSection) (n : Two Nat) : n.get (meteredChannel c n) =
    if c.bCheck = true ∧ n.a = 0 ∧ c.tolerance < n.b then n.b else n.a := by
  rw [meteredChannel_eq]
  split <;> rfl

theorem integrityEvent_iff (c : RunSection) (n : Two Nat) :
    integrityEvent c n = true ↔ c.tolerance < max n.a n.b - min n.a n.b := by
  rw [integrityEvent, decide_eq_true_iff]
  omega

theorem judgement_isEvent {check event : Bool} :
    (if check = true then some event else none) = some true ↔ check = true ∧ event = true := by
  cases check <;> simp

variable {u r} in
theorem pressureUsed {value : Nat} {sub : Substitute}
    (h : usedValue (u.runSection r).policy (u.runSection r).fallbackP (u.loop.p.get r) = (value, sub)) :
    (figuresOf u r).pUsed = value ∧ (figuresOf u r).pSubstitute = sub
      ∧ (figuresOf u r).flags.estimatedP = (sub.kind != .none) := by
  have fields : (figuresOf u r).pUsed = (usedValue _ _ (u.loop.p.get r)).1
      ∧ (figuresOf u r).pSubstitute = (usedValue _ _ (u.loop.p.get r)).2
      ∧ (figuresOf u r).flags.estimatedP = ((usedValue _ _ (u.loop.p.get r)).2.kind != .none) := ⟨rfl, rfl, rfl⟩
  rwa [h] at fields

variable {u r} in
theorem temperatureUsed {value : Nat} {sub : Substitute}
    (h : usedValue (u.runSection r).policy (u.runSection r).fallbackT (u.loop.t.get r) = (value, sub)) :
    (figuresOf u r).tUsed = value ∧ (figuresOf u r).tSubstitute = sub
      ∧ (figuresOf u r).flags.estimatedT = (sub.kind != .none) := by
  have fields : (figuresOf u r).tUsed = (usedValue _ _ (u.loop.t.get r)).1
      ∧ (figuresOf u r).tSubstitute = (usedValue _ _ (u.loop.t.get r)).2
      ∧ (figuresOf u r).flags.estimatedT = ((usedValue _ _ (u.loop.t.get r)).2.kind != .none) := ⟨rfl, rfl, rfl⟩
  rwa [h] at fields

/-- The entry of a run is that of its figures. -/
theorem runEntry_figures : RunEntry u r (entryOf (figuresOf u r)) := by
  unfold RunEntry
  dsimp only
  refine ⟨rfl, ?settling, fun v h hv => ?latestP, fun v h hp hv => ?heldP, fun h hp => ?fallbackP,
    fun v h hv => ?latestT, fun v h hp hv => ?heldT, fun h hp => ?fallbackT, ?low, ?high,
    VolumeAndEnergy.grossRate_le_top32 _ _ _, ?rate, ?substituted, rfl, ?integrity⟩
  case settling => exact beq_iff_eq
  case latestP => exact (pressureUsed (usedValue_latest h hv)).imp id And.right
  case heldP => exact (pressureUsed (usedValue_held h hp hv)).imp id And.right
  case fallbackP => exact (pressureUsed (usedValue_fallback h hp)).imp id And.right
  case latestT => exact (temperatureUsed (usedValue_latest h hv)).imp id And.right
  case heldT => exact (temperatureUsed (usedValue_held h hp hv)).imp id And.right
  case fallbackT => exact (temperatureUsed (usedValue_fallback h hp)).imp id And.right
  case low => exact (Bool.and_eq_true _ _).to_iff.trans (and_congr decide_eq_true_iff decide_eq_true_iff)
  case high => exact decide_eq_true_iff
  case rate => rw [← meteredChannel_eq]; rfl
  case substituted => rw [← meteredChannel_eq]; exact beq_iff_eq
  case integrity =>
    rw [← integrityEvent_iff]
    exact beq_iff_eq.trans judgement_isEvent

/-- The results of a run are those of its figures, and the residue they carry on. -/
theorem runResults_figures :
    RunResults u r (figuresOf u r).residue (entryOf (figuresOf u r)) (resultsOf (figuresOf u r)) := by
  have volume : ∀ x, x / 1000000 * 1000000 + x % 1000000 = x := fun x => Nat.div_add_mod' x 1000000
  unfold RunResults
  dsimp only
  refine ⟨?volume, Nat.mod_lt _ (by decide), rfl, ?outOfTable, rfl, rfl, rfl⟩
  case volume =>
    rw [← meteredCount_eq]
    exact volume _
  case outOfTable =>
    simp only [resultsOf, entryOf, figuresOf, outOfTable, Bool.or_eq_true, decide_eq_true_iff, or_assoc]

variable {u r} in
theorem totals_add (f : RunFigures) (old : Totals) : old.add f = totalsWith (resultsOf f) old := rfl

theorem accumulators_add (old : RunAccumulators) :
    old.add (figuresOf u r) = accumulatorsWith (entryOf (figuresOf u r)) (resultsOf (figuresOf u r)) old := by
  have events : boolCode (figuresOf u r).flags.integrity
      = if (entryOf (figuresOf u r)).flags.integrity = true then 1 else 0 := rfl
  simp only [RunAccumulators.add, accumulatorsWith, ← events]
  rfl

end

end Sys2Proof.Proofs.Intervals
end

section
/-! PROOFS. The record of a period: its sub-records, one per fitted run, from the accumulators at the close (R139, R140). -/

namespace Sys2Proof.Proofs.Records

open Sys2Proof Sys2Proof.Machine

section

variable {n : Nat} {r : RunId}

theorem fittedRuns_all (h : 4 ≤ n) : fittedRuns n = runIds :=
  List.filter_eq_self.mpr fun r _ => decide_eq_true (by omega)

theorem fittedRuns_length (n : Nat) : (fittedRuns n).length = min n 4 := by
  by_cases h : 4 ≤ n
  · rw [fittedRuns_all h, Nat.min_eq_right h]
    rfl
  · have below : n < 4 := Nat.lt_of_not_le h
    interval_cases n <;> rfl

/-- The runs fitted stand in their order. -/
theorem fittedRuns_place (h : r.val < n) : (fittedRuns n)[r.val]? = some r := by
  by_cases all : 4 ≤ n
  · rw [fittedRuns_all all]
    fin_cases r <;> rfl
  · have below : n < 4 := Nat.lt_of_not_le all
    interval_cases n <;> fin_cases r <;> simp at h ⊢ <;> rfl

theorem subRecordOf_build (st : RunState) (duration : Nat) (a : RunAccumulators) :
    SubRecordOf r st duration a (subRecord r st duration a) := by
  refine ⟨rfl, rfl, rfl, rfl, rfl, fun h => ?_, fun h p t hp ht => ?_, fun h hn => ?_, fun h => ?_, fun h => ?_, rfl, rfl,
    rfl, rfl⟩
  · exact if_pos h
  · simp [subRecord, recordAverages, h, hp, ht]
  · rcases hn with hn | hn <;> simp [subRecord, recordAverages, h, hn]
  · exact if_pos h
  · exact if_neg (Nat.ne_of_gt h)

variable {figures : CloseFigures} {states : Four RunState} {trim account : Nat} {rec : Recorder}

theorem buildRecord_length : (buildRecord figures n states trim account rec).runs.length = min n 4 := by
  simp [buildRecord, fittedRuns_length]

/-- A record built holds every fitted run. -/
theorem buildRecord_holds (h : r.val < n) :
    HoldsRun (buildRecord figures n states trim account rec) r (states.get r) (rec.runs.get r) :=
  ⟨subRecord r (states.get r) figures.duration (rec.runs.get r), by simp [buildRecord, fittedRuns_place h],
    subRecordOf_build ..⟩

end

end Sys2Proof.Proofs.Records
end

section
/-! PROOFS. What the part holds once a boundary's work is served, part by part; the volumes, the totals and the accumulators of its
runs. -/

namespace Sys2Proof.Proofs.Taken

open Sys2Proof Sys2Proof.Machine Sys2Proof.Proofs.Sections Sys2Proof.Proofs.Boundaries Sys2Proof.Proofs.Accruals
  Sys2Proof.Proofs.Intervals Sys2Proof.Proofs.Records Sys2Proof.Proofs.Conversions Sys2Proof.Proofs.Events
  Sys2Proof.Proofs.Requests Sys2Proof.Proofs.Lines

/-- `t` is `b` once served, a reply queued and served too where a request has made it. -/
def Ends (b t : State) : Prop := t = finish b ∨ ∃ f, t = finish (queueReply f (finish b))

/-- `t` is what a boundary leaves of `u`, its work done on `v`, which is `u` but for a frame received and dropped. -/
structure BoundaryTaken (c : Instr) (u v t : State) : Prop where
  same : v = { u with link := v.link }
  line : v.link.tx = u.link.tx
  ends : Ends (boundaryWith (closeOf c) v) t

/-- The accumulators and totals as the interval leaves them, before the period closes. -/
def gathered (u : State) (r : RunId) : RunAccumulators := (closeRecorder u).runs.get r

/-- RECONFIG marked in accumulators (R137). -/
def marked (test : Bool) (a : RunAccumulators) : RunAccumulators :=
  if test = true then { a with flags := { a.flags with reconfig := true } } else a

section

variable {c : Instr} {s u v t : State} {r : RunId}

/-! ## The commands that make a boundary, and those that force a close -/

section

variable {after : Nat} {tag : Byte} {id : Fin 8} {e : Entry}

theorem exec_boundary_due (hu : s.elapse after = u) (running : u.time.phase = .running)
    (due : reached (u.time.intervalStart + 1000) u.now = true) :
    exec (.boundary after) s = .next (finish (timedBoundary u)) :=
  event_at hu (boundaryDue_iff.mpr ⟨running, due⟩)

theorem handlePeriodClose_accepts (running : u.time.phase = .running) : handlePeriodClose [] u =
    accept (bytesLE 4 (((forcedClose u).recorder.lastSequence.map (·.toNat)).getD 0)) (forcedClose u) := by
  unfold handlePeriodClose
  rw [unlessWarming_running _ _ running, withLength_ok 0 [] _ _ rfl]

theorem exec_periodClose (hu : s.elapse after = u) (takes : u.takes = true) : exec (.periodClose after tag []) s =
    .next (finish (queueReply (okReply 0x12#8 tag
        (bytesLE 4 (((forcedClose (dropFrame u)).recorder.lastSequence.map (·.toNat)).getD 0)))
      (finish (forcedClose (dropFrame u))))) := by
  obtain ⟨running, place⟩ := takes_iff.mp takes
  have live : s.live = true := by
    have : u.live = true := live_of_running running
    rw [← hu] at this
    simpa using this
  refine (request_taken after 0x12#8 tag (handlePeriodClose []) s live (by rw [hu]; exact place)).trans ?_
  rw [hu, handlePeriodClose_accepts (u := dropFrame u) running]
  rfl

theorem exec_closeEntry (hu : s.elapse after = u) (running : u.time.phase = .running) (hat : u.table.at id.val = some e)
    (kind : e.kind = .closePeriod) (due : reached e.due u.now = true) : exec (.closePeriodEntryDue after id) s =
    .next (finish (forcedClose { u with table := { u.table with places := u.table.places.set id.val none } })) := by
  generalize freed : ({ u with table := { u.table with places := u.table.places.set id.val none } } : State) = w
  have still : w.time.phase = .running := by rw [← freed, running]
  have carried := entry_at (action := fun _ s => if s.time.phase = .running then forcedClose s else s) hu
    (live_of_running running) hat kind due
  rw [freed] at carried
  simp only [still, if_true] at carried
  exact carried

end

theorem boundary_running (h : MakesBoundary c s u) : u.time.phase = .running := by
  rcases h with ⟨_, _, _, running, _⟩ | ⟨_, _, _, _, takes, _⟩ | ⟨_, _, _, _, _, _, running, _, _, _, _, rfl⟩
  · exact running
  · exact (takes_iff.mp takes).1
  · exact running

theorem forcedClose_boundary (h : u.age ≠ 0) : forcedClose u = boundaryWith (closePeriod .forced) u := if_neg h

theorem boundary_taken (h : MakesBoundary c s u) : ∃ v t : State, exec c s = .next t ∧ BoundaryTaken c u v t := by
  rcases h with ⟨after, rfl, hu, running, due⟩ | ⟨after, tag, rfl, hu, takes, age⟩
      | ⟨after, id, w, e, rfl, hu, running, age, hat, kind, due, rfl⟩
  · exact ⟨u, _, exec_boundary_due hu running due, rfl, rfl, .inl rfl⟩
  · refine ⟨dropFrame u, _, exec_periodClose hu takes, rfl, rfl, .inr ⟨okReply 0x12#8 tag
      (bytesLE 4 (((forcedClose (dropFrame u)).recorder.lastSequence.map (·.toNat)).getD 0)), ?_⟩⟩
    exact congrArg (fun x => finish (queueReply _ (finish x))) (forcedClose_boundary (u := dropFrame u) age)
  · refine ⟨_, _, exec_closeEntry hu running hat kind due, rfl, rfl, .inl ?_⟩
    exact congrArg finish (forcedClose_boundary age)

namespace BoundaryTaken

variable (h : BoundaryTaken c u v t)

include h

theorem served : Served u (boundaryWith (closeOf c) v) t := by
  have free (e : (boundaryWith (closeOf c) v).link.tx = none) : u.link.tx = none := by
    rwa [boundaryWith_tx _ (closeOf_tx _), h.line] at e
  rcases h.ends with rfl | ⟨f, rfl⟩
  · exact served_finish u _ free
  · exact served_reply u _ f free

/-- A figure of the part that is not of the link is as `u` has it. -/
theorem transfer {α : Type} (f : State → α) (hf : ∀ l : Link, f { u with link := l } = f u) : f v = f u :=
  (congrArg f h.same).trans (hf v.link)

theorem part {α : Type} (f : State → α)
    (hf : ∀ x : State, ∀ (st : Store) (l : Link), f { x with store := st, link := l } = f x) :
    f t = f (beginInterval (markReconfig (reconfigRuns v.settings) (closed c v))) := by
  have kept := congrArg f h.served.kept
  rw [boundaryWith_eq] at kept
  exact kept.trans (hf _ _ _)

theorem closes : closesPeriod c v = closesPeriod c u := by
  rw [h.same]
  rfl

theorem conv : t.conv = closeConversion u := by
  rw [h.part (·.conv) fun _ _ _ => rfl]
  simpa using h.transfer closeConversion fun _ => rfl

theorem run (r : RunId) : t.run.get r = settled u.loop r (closeControl u r) := by
  rw [h.part (·.run.get r) fun _ _ _ => rfl]
  simpa [worked_run] using h.transfer (fun x => settled x.loop r (closeControl x r)) fun _ => rfl

theorem settings : t.settings = appliedSettings u.settings := by
  rw [h.part (·.settings) fun _ _ _ => rfl]
  simpa using h.transfer (fun x => appliedSettings x.settings) fun _ => rfl

theorem loop (fits : 0 < u.settings.build.runs) : t.loop = { u.loop with converter := .converting (.p 0) 25000 } := by
  have build : v.settings.build = u.settings.build := h.transfer (·.settings.build) fun _ => rfl
  rw [h.part (·.loop) fun _ _ _ => rfl, beginInterval, startScan_first (by simpa [appliedSettings, build] using fits)]
  simpa using h.transfer (fun x => ({ x.loop with converter := .converting (.p 0) 25000 } : LoopFront)) fun _ => rfl

theorem sense : t.sense = u.sense := by
  rw [h.part (·.sense) fun _ _ _ => rfl]
  simpa using h.transfer (·.sense) fun _ => rfl

theorem pins : t.pins = u.pins := by
  rw [h.part (·.pins) fun _ _ _ => rfl]
  simpa using h.transfer (·.pins) fun _ => rfl

theorem pending : t.pending = u.pending := by
  rw [h.part (·.pending) fun _ _ _ => rfl]
  simpa using h.transfer (·.pending) fun _ => rfl

theorem pulse (r : RunId) : t.pulse.get r =
    if bCheckOff u.settings.active (appliedSettings u.settings).active r then clearIntegrity (judgedPulse u r)
    else judgedPulse u r := by
  rw [h.part (·.pulse.get r) fun _ _ _ => rfl]
  simpa [worked_pulse] using h.transfer (fun x =>
    if bCheckOff x.settings.active (appliedSettings x.settings).active r then clearIntegrity (judgedPulse x r)
    else judgedPulse x r) fun _ => rfl

/-! ## The recorder -/

/-- The record of the period, where it closes. -/
theorem recorder : t.recorder = (markReconfig (reconfigRuns v.settings) (closed c v)).recorder := by
  rw [h.part (·.recorder) fun _ _ _ => rfl]
  simp

theorem gathered_eq (r : RunId) : (worked v).recorder.runs.get r = gathered u r := by
  rw [worked_recorder]
  exact h.transfer (fun x => gathered x r) fun _ => rfl

theorem runs (r : RunId) : t.recorder.runs.get r = marked (reconfigRuns u.settings r)
    (if closesPeriod c u = true then (gathered u r).reopened else gathered u r) := by
  have which : reconfigRuns v.settings r = reconfigRuns u.settings r :=
    h.transfer (fun x => reconfigRuns x.settings r) fun _ => rfl
  have before : (closed c v).recorder.runs.get r =
      if closesPeriod c u = true then (gathered u r).reopened else gathered u r := by
    unfold closed
    rw [h.closes]
    split
    · simp [openPeriod, placeRecord, h.gathered_eq]
    · exact h.gathered_eq r
  rw [h.recorder, ← before, ← which]
  simp [markReconfig, marked]

theorem totals : t.recorder.totals = (closeRecorder u).totals := by
  have before : (closed c v).recorder.totals = (closeRecorder v).totals := by
    unfold closed
    split <;> simp [openPeriod, placeRecord, worked_recorder]
  rw [h.recorder]
  exact before.trans (h.transfer (fun x => (closeRecorder x).totals) fun _ => rfl)

theorem ring : t.recorder.ring = if closesPeriod c u = true
    then (closeRecord (boundaryCause c) (worked v) :: u.recorder.ring).take 48 else u.recorder.ring := by
  have before : (worked v).recorder.ring = u.recorder.ring := by
    rw [worked_recorder]
    exact h.transfer (·.recorder.ring) fun _ => rfl
  rw [h.recorder, ← before]
  show (closed c v).recorder.ring = _
  unfold closed
  rw [h.closes]
  split
  · simp [openPeriod, placeRecord, ringSize]
  · rfl

/-- The record made at a boundary holds every fitted run. -/
theorem record_holds (fitted : u.fitted r = true) :
    HoldsRun (closeRecord (boundaryCause c) (worked v)) r (t.run.get r).state (gathered u r) := by
  have build : v.settings.build = u.settings.build := h.transfer (·.settings.build) fun _ => rfl
  have state : ((worked v).run.map (·.state)).get r = (t.run.get r).state := by
    rw [h.part (·.run) fun _ _ _ => rfl]
    simp
  have held := buildRecord_holds (r := r) (n := (worked v).settings.build.runs)
    (figures := ⟨boundaryCause c, (worked v).time.periodCount, ((worked v).now - (worked v).time.periodOpen).toNat⟩)
    (states := (worked v).run.map (·.state)) (trim := (worked v).dose.trim) (account := (worked v).dose.account)
    (rec := (worked v).recorder) (by simpa [appliedSettings, build, State.fitted] using fitted)
  rwa [state, h.gathered_eq] at held

theorem record_length : (closeRecord (boundaryCause c) (worked v)).runs.length = min u.settings.build.runs 4 := by
  have build : v.settings.build = u.settings.build := h.transfer (·.settings.build) fun _ => rfl
  rw [← build]
  refine buildRecord_length.trans ?_
  rw [worked_settings]
  rfl

end BoundaryTaken

/-! ## A run computed, and one that is not -/

theorem last_computed (h : Computed u r) : (closeControl u r).last = some (entryOf (figuresOf u r)) := by
  rw [closeControl, runFigures_computed h]
  rfl

theorem conversion_computed (h : Computed u r) : (closeConversion u).last.get r = some (resultsOf (figuresOf u r))
    ∧ (closeConversion u).residue.get r = (figuresOf u r).residue := by
  simp [closeConversion, runFigures_computed h, resultsOf]

theorem conversion_uncomputed (h : ¬ Computed u r) : (closeConversion u).residue.get r = u.conv.residue.get r
    ∧ (closeConversion u).last.get r = u.conv.last.get r := by
  simp [closeConversion, runFigures_uncomputed h]

theorem settled_last (l : LoopFront) (x : RunControl) : (settled l r x).last = x.last := by
  unfold settled
  split
  · split <;> rfl
  · rfl

theorem gathered_computed (h : Computed u r) : gathered u r =
    accumulatorsWith (entryOf (figuresOf u r)) (resultsOf (figuresOf u r)) (u.recorder.runs.get r) := by
  simp [gathered, closeRecorder, runFigures_computed h, accumulators_add]

theorem gathered_uncomputed (h : ¬ Computed u r) : gathered u r = u.recorder.runs.get r := by
  simp [gathered, closeRecorder, runFigures_uncomputed h]

theorem totals_computed (h : Computed u r) : (closeRecorder u).totals.get r =
    totalsWith (resultsOf (figuresOf u r)) (u.recorder.totals.get r) := by
  simp [closeRecorder, runFigures_computed h, totals_add]

theorem totals_uncomputed (h : ¬ Computed u r) : (closeRecorder u).totals.get r = u.recorder.totals.get r := by
  simp [closeRecorder, runFigures_uncomputed h]

theorem BoundaryTaken.last (h : BoundaryTaken c u v t) (computed : Computed u r) :
    (t.run.get r).last = some (entryOf (figuresOf u r)) := by
  rw [h.run, settled_last, last_computed computed]

theorem BoundaryTaken.results (h : BoundaryTaken c u v t) (computed : Computed u r) :
    t.conv.last.get r = some (resultsOf (figuresOf u r)) := by
  rw [h.conv, (conversion_computed computed).1]

end

/-! ## Volumes, totals and accumulators -/

/-- Settles O11: the close hands the run's figures on, and the later work of the boundary leaves them. -/
theorem grossVolumeCarriesResidue : Obligations.GrossVolumeCarriesResidue := by
  unfold Obligations.GrossVolumeCarriesResidue
  intro s u c r made
  obtain ⟨v, t, taken, h⟩ := boundary_taken made
  refine ⟨t, taken, ?_⟩
  split
  · rename_i computed
    refine ⟨_, _, h.results computed, h.last computed, ?_⟩
    rw [h.conv, (conversion_computed computed).2]
    exact runResults_figures u r
  · rename_i uncomputed
    rw [h.conv]
    exact conversion_uncomputed uncomputed

/-- Settles O14: the totals take the results handed on. -/
theorem totalsTakeInterval : Obligations.TotalsTakeInterval := by
  unfold Obligations.TotalsTakeInterval
  intro s u c r made
  obtain ⟨v, t, taken, h⟩ := boundary_taken made
  refine ⟨t, taken, ?_⟩
  rw [h.totals]
  split
  · rename_i computed
    exact ⟨_, h.results computed, totals_computed computed⟩
  · rename_i uncomputed
    exact totals_uncomputed uncomputed

/-- Settles O15: the accumulators take the entry and the results handed on, and a close made there records them. -/
theorem runAccumulatorsTakeInterval : Obligations.RunAccumulatorsTakeInterval := by
  unfold Obligations.RunAccumulatorsTakeInterval
  intro s u c r made fitted
  obtain ⟨v, t, taken, h⟩ := boundary_taken made
  refine ⟨t, taken, ?_⟩
  intro old copies acc
  have figures : acc = gathered u r := by
    by_cases computed : Computed u r
    · rw [gathered_computed computed]
      simp only [acc, if_pos computed, h.last computed, h.results computed]
      rfl
    · rw [gathered_uncomputed computed]
      exact if_neg computed
  have reconfig : reconfigRuns u.settings r = copies := by
    have within : r.val < u.settings.build.runs := by simpa [State.fitted] using fitted
    simp [reconfigRuns, within, copies]
  clear_value acc copies
  rw [h.runs, h.ring, reconfig, figures]
  split
  · refine ⟨?_, _, rfl, h.record_length, h.record_holds fitted⟩
    cases copies <;> rfl
  · cases copies <;> simp [marked]

end Sys2Proof.Proofs.Taken
end

section
/-! PROOFS. The notices of a boundary: what each block's work raises is given once the boundary's work is served; the judgement of
the pulse front end (R24, R25, R51). -/

namespace Sys2Proof.Proofs.Noticed

open Sys2Proof Sys2Proof.Machine Sys2Proof.Proofs.Raised Sys2Proof.Proofs.Sections Sys2Proof.Proofs.Boundaries
  Sys2Proof.Proofs.Intervals Sys2Proof.Proofs.Taken

/-! ## What keeps a pair pending -/

section

variable {k : NoticeClass} {n : Nat} {s : State}

theorem rateMonitors_pending {before : State} (h : Pending k n s) : Pending k n (rateMonitors before s) :=
  foldl_pending (fun s r hs => by
    split
    · exact evaluate_pending hs
    · exact hs) h

theorem accrueAccount_pending {vbs : Nat} (h : Pending k n s) : Pending k n (accrueAccount vbs s) :=
  pending_of_link (accrueAccount_link vbs s) h

theorem schedulingCheck_pending (h : Pending k n s) : Pending k n (schedulingCheck s) :=
  pending_of_link (schedulingCheck_link s) h

theorem accrue_pending {vbs : Nat} (h : Pending k n s) : Pending k n (accrue vbs s) := by
  have evaluated : Pending k n (debtToMonitor (accrueAccount vbs s)) := evaluate_pending (accrueAccount_pending h)
  unfold accrue
  dsimp only
  split
  · exact schedulingCheck_pending evaluated
  · exact evaluated

theorem settleRuns_pending (h : Pending k n s) : Pending k n (settleRuns s) := raiseRuns_pending h

theorem clearCounts_pending (h : Pending k n s) : Pending k n (clearCounts s) := h

theorem applySections_pending (h : Pending k n s) : Pending k n (applySections s) :=
  pending_of_link (applySections_link s) h

theorem dropIntegrity_pending {old : ActiveSections} (h : Pending k n s) : Pending k n (dropIntegrity old s) :=
  raiseRuns_pending h

theorem retuneMonitors_pending {old new : MonitorsSection} (h : Pending k n s) : Pending k n (retuneMonitors old new s) :=
  foldl_pending (fun _ _ hs => monitorNotices_pending hs) h

/-- The part once the sections, the B checks and the monitors have taken up what was staged. -/
def retunedPart (s : State) : State :=
  if s.settings.staged.monitors.isSome = true then
    retuneMonitors s.settings.active.monitors (appliedSettings s.settings).active.monitors
      (dropIntegrity s.settings.active (applySections s))
  else dropIntegrity s.settings.active (applySections s)

theorem applyStaged_eq (s : State) : applyStaged s =
    if s.settings.staged.odorant.isSome = true then schedulingCheck (forgoExcess (retunedPart s)) else retunedPart s := by
  unfold applyStaged retunedPart
  dsimp only
  rw [dropIntegrity_settings, applySections_settings]

theorem applyStaged_of_retuned (h : Pending k n (retunedPart s)) : Pending k n (applyStaged s) := by
  rw [applyStaged_eq]
  split
  · exact schedulingCheck_pending (pending_of_link (forgoExcess_link _) h)
  · exact h

theorem applyStaged_of_dropped (h : Pending k n (dropIntegrity s.settings.active (applySections s))) :
    Pending k n (applyStaged s) := by
  apply applyStaged_of_retuned
  unfold retunedPart
  split
  · exact retuneMonitors_pending h
  · exact h

theorem applyStaged_pending (h : Pending k n s) : Pending k n (applyStaged s) :=
  applyStaged_of_dropped (dropIntegrity_pending (applySections_pending h))

theorem closePeriod_pending {cause : CloseCause} (h : Pending k n s) : Pending k n (closePeriod cause s) := by
  unfold closePeriod closePeriodAs
  exact raise_pending (by simpa [Pending, clearStrays, addItem] using h)

end

/-! ## The boundary's notices -/

section

variable {k : NoticeClass} {n : Nat} {c : Instr} {u v t : State}

theorem closed_of_worked (h : Pending k n (worked v)) : Pending k n (closed c v) := by
  unfold closed
  split
  · exact closePeriod_pending h
  · exact h

theorem worked_of_interval (h : Pending k n (closeInterval v)) : Pending k n (worked v) :=
  pending_of_link (countInterval_link _) (applyStaged_pending (settleRuns_pending (clearCounts_pending h)))

/-- A pair pending as the boundary's work is done is given. -/
theorem given_of_closed (h : BoundaryTaken c u v t) (hn : Notice.subjectInRange ⟨k, n⟩ = true)
    (hp : Pending k n (closed c v)) : noticeGiven k n u t = true := by
  refine h.served.given k n hn ?_
  rw [boundaryWith_eq]
  exact given_of_pending (pending_of_link (by simp) hp)

theorem given_of_interval (h : BoundaryTaken c u v t) (hn : Notice.subjectInRange ⟨k, n⟩ = true)
    (hp : Pending k n (closeInterval v)) : noticeGiven k n u t = true :=
  given_of_closed h hn (closed_of_worked (worked_of_interval hp))

end

/-! ## The judgement of an interval -/

section

variable {u v t : State} {c : Instr} {r : RunId}

/-- The judgement changes the consecutive counts and the alarm alone. -/
theorem judge_eq (event : Bool) (p : PulseRun) : judge event p = { p with
    consecutiveEvents := (judge event p).consecutiveEvents
    consecutiveClean := (judge event p).consecutiveClean
    integrityAlarm := (judge event p).integrityAlarm } := by
  cases event <;> cases alarm : p.integrityAlarm <;> simp only [judge, alarm] <;> (try split) <;> simp [← alarm]

theorem judge_alarm_event (p : PulseRun) :
    (judge true p).integrityAlarm = (p.integrityAlarm || decide (p.consecutiveEvents + 1 = 3)) := by
  cases alarm : p.integrityAlarm <;> simp only [judge, alarm]
  · split <;> simp_all
  · rfl

theorem judge_alarm_clean (p : PulseRun) :
    (judge false p).integrityAlarm = (p.integrityAlarm && !decide (p.consecutiveClean + 1 = 60)) := by
  cases alarm : p.integrityAlarm <;> simp only [judge, alarm]
  · rfl
  · split <;> simp_all

/-- The judgement of R24 on a run's counts, where its B check is on. -/
def verdict (c : RunSection) (p : PulseRun) : PulseRun :=
  if c.bCheck = true then judge (integrityEvent c p.count) p else p

/-- The ring of a channel as the zero-flow timeout leaves it (R67). -/
def keptRing (u : State) (r : RunId) (ch : Side) : List Time :=
  if ringStale (u.settings.active.run.get r).zeroFlowTimeout ((u.pulse.get r).ring.get ch) u.time.captureClock = true
  then [] else (u.pulse.get r).ring.get ch

theorem closePulse_uncomputed (fitted : u.fitted r = true) (h : ¬ Computed u r) : closePulse u r = { u.pulse.get r with
    lastCount := (u.pulse.get r).count
    lastChannel := meteredChannel (u.settings.active.run.get r) (u.pulse.get r).count } := by
  simp only [closePulse, if_pos fitted, runFigures_uncomputed h]
  rfl

theorem judge_figures (event : Bool) (p : PulseRun) (count : Two Nat) (ch : Side) (ring : Two (List Time)) :
    judge event { p with lastCount := count, lastChannel := ch, ring := ring }
      = { judge event p with lastCount := count, lastChannel := ch, ring := ring } := by
  cases event <;> cases alarm : p.integrityAlarm <;> simp only [judge, alarm] <;> (try split) <;> rfl

theorem closePulse_computed (h : Computed u r) : closePulse u r =
    { verdict (u.settings.active.run.get r) (u.pulse.get r) with
      lastCount := (u.pulse.get r).count
      lastChannel := meteredChannel (u.settings.active.run.get r) (u.pulse.get r).count
      ring := ⟨keptRing u r .a, keptRing u r .b⟩ } := by
  simp only [closePulse, if_pos h.1, runFigures_computed h]
  show (match (if (u.settings.active.run.get r).bCheck = true then _ else none : Option Bool) with
    | some e => judge e _
    | none => _) = _
  unfold verdict
  cases (u.settings.active.run.get r).bCheck
  · rfl
  · exact judge_figures ..

/-- What Judged says of a judgement made. -/
theorem judged_verdict (c : RunSection) (p : PulseRun) : Judged True c p (verdict c p) := by
  unfold verdict
  split
  · rename_i on
    exact judged_judge c p on
  · rename_i off
    exact ⟨fun _ => ⟨rfl, rfl, rfl⟩, fun _ on => absurd on off⟩

theorem judged_unjudged {P : Prop} (h : ¬ P) (c : RunSection) (p : PulseRun) : Judged P c p p :=
  ⟨fun _ => ⟨rfl, rfl, rfl⟩, fun computed => absurd computed h⟩

/-- The alarm, the counts of the judgement and what else stays, of a fitted run. -/
theorem judgedPulse_judged (fitted : u.fitted r = true) :
    Judged (Computed u r) (u.settings.active.run.get r) (u.pulse.get r) (judgedPulse u r) := by
  by_cases computed : Computed u r
  · rw [judgedPulse, closePulse_computed computed, eq_true computed]
    exact judged_verdict (u.settings.active.run.get r) (u.pulse.get r)
  · rw [judgedPulse, closePulse_uncomputed fitted computed]
    exact judged_unjudged computed (u.settings.active.run.get r) (u.pulse.get r)

theorem verdict_eq (c : RunSection) (p : PulseRun) : verdict c p = { p with
    consecutiveEvents := (verdict c p).consecutiveEvents
    consecutiveClean := (verdict c p).consecutiveClean
    integrityAlarm := (verdict c p).integrityAlarm } := by
  unfold verdict
  split
  · exact judge_eq _ _
  · rfl

theorem judgedPulse_figures (fitted : u.fitted r = true) :
    (judgedPulse u r).lastChannel = meteredChannel (u.settings.active.run.get r) (u.pulse.get r).count
      ∧ (judgedPulse u r).lastCount = (u.pulse.get r).count ∧ (judgedPulse u r).count = .both 0
      ∧ (judgedPulse u r).holdOff = (u.pulse.get r).holdOff
      ∧ (judgedPulse u r).maintenance = (u.pulse.get r).maintenance := by
  by_cases computed : Computed u r
  · rw [judgedPulse, closePulse_computed computed, verdict_eq]
    exact ⟨rfl, rfl, rfl, rfl, rfl⟩
  · rw [judgedPulse, closePulse_uncomputed fitted computed]
    exact ⟨rfl, rfl, rfl, rfl, rfl⟩

theorem judgedPulse_ring_uncomputed (fitted : u.fitted r = true) (h : ¬ Computed u r) :
    (judgedPulse u r).ring = (u.pulse.get r).ring := by
  rw [judgedPulse, closePulse_uncomputed fitted h]

theorem judgedPulse_ring_computed (h : Computed u r) (ch : Side) : (judgedPulse u r).ring.get ch = keptRing u r ch := by
  rw [judgedPulse, closePulse_computed h]
  cases ch <;> rfl

theorem keptRing_newest {ch : Side} {newest : Time} (h : ((u.pulse.get r).ring.get ch).getLast? = some newest) :
    keptRing u r ch =
      if (u.settings.active.run.get r).zeroFlowTimeout * 1000000 < (u.time.captureClock - newest).toNat then []
      else (u.pulse.get r).ring.get ch := by
  unfold keptRing
  rw [VolumeAndEnergy.ringStale_of_age (VolumeAndEnergy.ringAge_of_newest _ h)]
  simp only [decide_eq_true_iff]

theorem keptRing_empty {ch : Side} (h : (u.pulse.get r).ring.get ch = []) : keptRing u r ch = [] := by
  unfold keptRing
  split
  · rfl
  · exact h

/-- The alarm of a run judged. -/
theorem judgedPulse_alarm (h : Computed u r) (on : (u.settings.active.run.get r).bCheck = true) :
    (judgedPulse u r).integrityAlarm =
      if integrityEvent (u.settings.active.run.get r) (u.pulse.get r).count = true then
        (u.pulse.get r).integrityAlarm || decide ((u.pulse.get r).consecutiveEvents + 1 = 3)
      else (u.pulse.get r).integrityAlarm && !decide ((u.pulse.get r).consecutiveClean + 1 = 60) := by
  rw [judgedPulse, closePulse_computed h, verdict, if_pos on]
  cases integrityEvent (u.settings.active.run.get r) (u.pulse.get r).count
  · exact judge_alarm_clean _
  · exact judge_alarm_event _

/-! ## The notices of the INTEGRITY alarm (R25) -/

theorem runSubject_inRange (r : RunId) : Notice.subjectInRange ⟨.run, r.val⟩ = true := Orders.runSubject_inRange r

/-- An alarm that the judgement changes raises the run's notice. -/
theorem given_judged (h : BoundaryTaken c u v t)
    (changed : (judgedPulse u r).integrityAlarm ≠ (u.pulse.get r).integrityAlarm)
    (enabled : u.settings.active.station.enables.run = true) : noticeGiven .run r.val u t = true := by
  have pulse : (closePulse v r).integrityAlarm = (judgedPulse u r).integrityAlarm :=
    h.transfer (fun x => (closePulse x r).integrityAlarm) fun _ => rfl
  have before : v.pulse.get r = u.pulse.get r := h.transfer (·.pulse.get r) fun _ => rfl
  have enables : v.settings.active.station.enables.run = true :=
    (h.transfer (·.settings.active.station.enables.run) fun _ => rfl).trans enabled
  refine given_of_interval h (runSubject_inRange r) (accrue_pending (rateMonitors_pending (pending_raiseRuns ?_ enables)))
  rw [pulse, before]
  simpa using changed

/-- An alarm that a staged copy ends raises the run's notice, by the enables of the STATION copy then active. -/
theorem given_dropped (h : BoundaryTaken c u v t)
    (off : bCheckOff u.settings.active (appliedSettings u.settings).active r = true)
    (alarm : (judgedPulse u r).integrityAlarm = true)
    (enabled : t.settings.active.station.enables.run = true) : noticeGiven .run r.val u t = true := by
  have settings : v.settings = u.settings := h.transfer (·.settings) fun _ => rfl
  have pulse : ((clearCounts (closeInterval v)).pulse.get r).integrityAlarm = true := by
    have judged := h.transfer (fun x => (closePulse x r).integrityAlarm) fun _ => rfl
    rw [show (closePulse u r).integrityAlarm = true from alarm] at judged
    simpa [clearCounts, closeInterval_pulse] using judged
  refine given_of_closed h (runSubject_inRange r) (closed_of_worked
    (pending_of_link (countInterval_link _) (applyStaged_of_dropped (pending_raiseRuns ?_ ?_))))
  · simp [settings, off, pulse]
  · rw [h.settings] at enabled
    simpa [settings] using enabled

end

/-- Settles O13: the judgement is that of R24 and R25 by the old copy, which a staged copy then acts on. -/
theorem integrityJudged : Obligations.IntegrityJudged := by
  unfold Obligations.IntegrityJudged
  intro s u c r made fitted
  obtain ⟨v, t, taken, h⟩ := boundary_taken made
  obtain ⟨channel, last, count, holdOff, maintenance⟩ := judgedPulse_figures fitted
  have active : t.settings.active = (appliedSettings u.settings).active := by rw [h.settings]
  have copied : (t.settings.active.run.get r).bCheck
      = ((u.settings.staged.run.get r).map (·.bCheck)).getD (u.settings.active.run.get r).bCheck := by
    rw [active]
    cases staged : u.settings.staged.run.get r <;> simp [appliedSettings, staged]
  have dropped : bCheckOff u.settings.active (appliedSettings u.settings).active r = true
      ↔ (u.settings.active.run.get r).bCheck = true ∧ (t.settings.active.run.get r).bCheck = false := by
    rw [active]
    simp [bCheckOff]
  have event := integrityEvent_iff (u.settings.active.run.get r) (u.pulse.get r).count
  have kept (fields : PulseRun → Prop) (same : ∀ p, fields p → fields (clearIntegrity p))
      (holds : fields (judgedPulse u r)) : fields (t.pulse.get r) := by
    rw [h.pulse]
    split
    · exact same _ holds
    · exact holds
  refine ⟨t, taken, ?_⟩
  dsimp only
  refine ⟨?channel, kept (·.lastCount = _) (fun _ e => e) last, kept (·.count = _) (fun _ e => e) count,
    kept (·.holdOff = _) (fun _ e => e) holdOff, kept (·.maintenance = _) (fun _ e => e) maintenance,
    fun uncomputed => ?ring, fun computed => ⟨fun ch newest last => ?newest, fun ch empty => ?empty⟩, copied,
    fun stays => ⟨?judged, fun changed enabled => ?given⟩,
    fun off => ⟨?alarm, ?events, ?clean, fun set ends => ?ended, fun set stays enabled => ?dropped,
      fun set computed isEvent third enabled => ?both⟩⟩
  case channel =>
    rw [← meteredChannel_eq]
    exact kept (·.lastChannel = _) (fun _ e => e) channel
  case ring => exact kept (·.ring = _) (fun _ e => e) (judgedPulse_ring_uncomputed fitted uncomputed)
  case newest =>
    rw [← keptRing_newest last]
    exact kept (·.ring.get ch = _) (fun _ e => e) (judgedPulse_ring_computed computed ch)
  case empty =>
    rw [← keptRing_empty empty]
    exact kept (·.ring.get ch = _) (fun _ e => e) (judgedPulse_ring_computed computed ch)
  case judged =>
    rw [h.pulse, if_neg (mt dropped.mp stays)]
    exact judgedPulse_judged fitted
  case given =>
    rw [h.pulse, if_neg (mt dropped.mp stays)] at changed
    exact given_judged h changed enabled
  case alarm | events | clean =>
    rw [h.pulse, if_pos (dropped.mpr off)]
    rfl
  case ended =>
    obtain ⟨computed, noEvent, sixtieth⟩ := ends
    refine given_judged h ?_
    rw [judgedPulse_alarm computed off.1, if_neg (mt event.mp noEvent), set]
    simp [sixtieth]
  case dropped =>
    refine given_dropped h (dropped.mpr off) ?_ enabled
    by_cases computed : Computed u r
    · rw [judgedPulse_alarm computed off.1, set]
      split
      · rfl
      · rename_i noEvent
        have clean : (u.pulse.get r).consecutiveClean + 1 ≠ 60 :=
          fun sixtieth => stays ⟨computed, mt event.mpr noEvent, sixtieth⟩
        simp [clean]
    · exact ((judgedPulse_judged fitted).1 (.inl computed)).1.trans set
  case both =>
    have raised : (judgedPulse u r).integrityAlarm = true := by
      rw [judgedPulse_alarm computed off.1, if_pos (event.mpr isEvent)]
      simp [third]
    rcases enabled with enabled | enabled
    · exact given_judged h (by simp [raised, set]) enabled
    · exact given_dropped h (dropped.mpr off) raised enabled

end Sys2Proof.Proofs.Noticed
end

section
/-! PROOFS. The monitors at a boundary: the evaluations of the interval's close, the settings of a staged MONITORS copy, and the
notices of both (R150, R156, R157). -/

namespace Sys2Proof.Proofs.Monitored

open Sys2Proof Sys2Proof.Machine Sys2Proof.Proofs.Raised Sys2Proof.Proofs.Sections Sys2Proof.Proofs.LimitMonitors
  Sys2Proof.Proofs.Judgements Sys2Proof.Proofs.Boundaries Sys2Proof.Proofs.Accruals Sys2Proof.Proofs.Intervals
  Sys2Proof.Proofs.Taken Sys2Proof.Proofs.Noticed

/-! ## A fold one of whose steps is the one that matters -/

theorem foldl_at {α : Type} {f : State → α → State} {P Q : State → Prop} {i : α} {l : List α} {s : State}
    (nodup : l.Nodup) (mem : i ∈ l) (before : ∀ s j, j ≠ i → P s → P (f s j)) (taken : ∀ s, P s → Q (f s i))
    (after : ∀ s j, j ≠ i → Q s → Q (f s j)) (start : P s) : Q (l.foldl f s) := by
  obtain ⟨front, back, rfl⟩ := List.append_of_mem mem
  have others : ∀ j ∈ front ++ back, j ≠ i := fun j hj same =>
    (List.nodup_cons.mp (List.nodup_middle.mp nodup)).1 (same ▸ hj)
  rw [List.foldl_append, List.foldl_cons]
  refine List.foldlRecOn back f (taken _ ?_) fun s hs j hj => after s j (others j (List.mem_append_right _ hj)) hs
  exact List.foldlRecOn front f start fun s hs j hj => before s j (others j (List.mem_append_left _ hj)) hs

section

variable {u v x t : State} {c : Instr} {m i : Fin 16}

/-! ## One monitor of the sixteen -/

theorem evaluate_other (h : i ≠ m) (value : Nat) (s : State) :
    (evaluate m value s).monitors.each.get i = s.monitors.each.get i := by
  unfold evaluate
  split
  · simp [setMonitor, Sixteen.get_set, h]
  · rfl

theorem retuneMonitor_other {old new : MonitorsSection} (h : i ≠ m) (s : State) :
    (retuneMonitor old new s m).monitors.each.get i = s.monitors.each.get i := by
  simp [retuneMonitor, setMonitor, Sixteen.get_set, h]

/-- The standing of a monitor is that of its settings, the channels and the runs' states. -/
theorem standing_congr (hs : x.settings = v.settings) (hl : x.loop = v.loop)
    (hr : ∀ r, (x.run.get r).state = (v.run.get r).state) : standing m x = standing m v := by
  simp only [standing, State.fitted, hs, hl, hr]
  rfl

/-! ## An evaluation tried (R150, R156) -/

/-- In `x` a monitor stands at `mid`, and what it rose to since `v` has its notices pending, by the enables of `v`. -/
structure Tried (v x : State) (m : Fin 16) (mid : MonitorState) : Prop where
  value : x.monitors.each.get m = mid
  critical : (v.monitors.each.get m).critical = false → mid.critical = true →
    v.settings.active.station.enables.critical = true → Pending .critical m.val x
  limit : (v.monitors.each.get m).event = false → mid.event = true → mid.critical = false →
    v.settings.active.station.enables.limit = true → Pending .limit m.val x

theorem tried_same (h : x.monitors.each.get m = v.monitors.each.get m) : Tried v x m (v.monitors.each.get m) where
  value := h
  critical was is := absurd (was.symm.trans is) Bool.false_ne_true
  limit was is := absurd (was.symm.trans is) Bool.false_ne_true

theorem Tried.keeps {mid : MonitorState} {y : State} (h : Tried v x m mid)
    (value : y.monitors.each.get m = x.monitors.each.get m)
    (pending : ∀ k n, Pending k n x → Pending k n y) : Tried v y m mid where
  value := value.trans h.value
  critical was is enabled := pending _ _ (h.critical was is enabled)
  limit was is low enabled := pending _ _ (h.limit was is low enabled)

theorem tried_evaluate (hs : x.settings = v.settings) (hm : x.monitors.each.get m = v.monitors.each.get m) (value : Nat) :
    Tried v (evaluate m value x) m
      (if standing m x = .evaluated then
        evaluated (lowSense m) (v.settings.active.monitors.get m) value (v.monitors.each.get m)
      else v.monitors.each.get m) := by
  by_cases made : standing m x = .evaluated
  · have noticed : evaluate m value x = monitorNotices m (v.monitors.each.get m)
        (evaluated (lowSense m) (v.settings.active.monitors.get m) value (v.monitors.each.get m))
        (setMonitor m (evaluated (lowSense m) (v.settings.active.monitors.get m) value (v.monitors.each.get m)) x) := by
      rw [evaluate, if_pos made, hs, hm]
    have enables : ∀ y, (setMonitor m y x).settings = v.settings := fun _ => hs
    rw [if_pos made, noticed]
    refine ⟨by simp [setMonitor], fun was is enabled => pending_critical was is ?_,
      fun was is low enabled => pending_limit was is low ?_⟩
    · rwa [enables]
    · rwa [enables]
  · rw [if_neg made, evaluate, if_neg made]
    exact tried_same hm

/-! ## The close of the interval -/

theorem rateMonitor_ne {r k : RunId} (h : k ≠ r) : rateMonitor r ≠ rateMonitor k := by
  intro same
  exact h (Fin.ext (congrArg Fin.val same).symm)

/-- The rate monitor of a run computed is evaluated at the close. -/
def rateStep (before s : State) (r : RunId) : State :=
  if Computed before r then evaluate (rateMonitor r) (figuresOf before r).rate s else s

theorem rateMonitors_eq (before s : State) : rateMonitors before s = runIds.foldl (rateStep before) s := by
  unfold rateMonitors
  congr 1
  funext s r
  by_cases computed : Computed before r
  · rw [runFigures_computed computed, rateStep, if_pos computed]
  · rw [runFigures_uncomputed computed, rateStep, if_neg computed]

theorem rateStep_other {before : State} {r : RunId} (h : m = rateMonitor r → ¬ Computed before r) (s : State) :
    (rateStep before s r).monitors.each.get m = s.monitors.each.get m := by
  unfold rateStep
  split
  · rename_i computed
    exact evaluate_other (fun same => h same computed) _ _
  · rfl

/-- What the evaluations of the rates leave of a monitor of another input. -/
theorem rateMonitors_other {before : State} (h : ∀ r : RunId, m.val = r.val → ¬ Computed before r) (s : State) :
    (rateMonitors before s).monitors.each.get m = s.monitors.each.get m := by
  rw [rateMonitors_eq]
  exact foldl_keeps (·.monitors.each.get m) _ (fun s r => rateStep_other (fun same => h r (congrArg Fin.val same)) s) _ s

theorem mem_runIds (r : RunId) : r ∈ runIds := by fin_cases r <;> decide

theorem rateStep_pending {before : State} {r : RunId} {k : NoticeClass} {n : Nat} (h : Pending k n x) :
    Pending k n (rateStep before x r) := by
  unfold rateStep
  split
  · exact evaluate_pending h
  · exact h

theorem rateStep_settings {before : State} {r : RunId} : (rateStep before x r).settings = x.settings := by
  unfold rateStep
  split <;> simp

theorem rateStep_standing {before : State} {r : RunId} : standing m (rateStep before x r) = standing m x := by
  unfold rateStep
  split
  · exact standing_congr (by simp) (by simp) (by simp)
  · rfl

/-- The rate monitor of a run computed, evaluated in its turn. -/
theorem rateMonitors_tried {r : RunId} (computed : Computed v r) (hs : x.settings = v.settings) (hl : x.loop = v.loop)
    (hr : ∀ r, (x.run.get r).state = (v.run.get r).state) (hm : x.monitors = v.monitors) :
    Tried v (rateMonitors v x) (rateMonitor r)
      (if standing (rateMonitor r) v = .evaluated then
        evaluated (lowSense (rateMonitor r)) (v.settings.active.monitors.get (rateMonitor r)) (figuresOf v r).rate
          (v.monitors.each.get (rateMonitor r))
      else v.monitors.each.get (rateMonitor r)) := by
  rw [rateMonitors_eq]
  refine foldl_at (i := r) (l := runIds) (by decide) (mem_runIds r)
    (P := fun s => s.settings = v.settings ∧ standing (rateMonitor r) s = standing (rateMonitor r) v
      ∧ s.monitors.each.get (rateMonitor r) = v.monitors.each.get (rateMonitor r))
    (Q := fun s => Tried v s (rateMonitor r) _)
    (fun s k h start => ?earlier) (fun s start => ?taken) (fun s k h tried => ?after)
    ⟨hs, standing_congr hs hl hr, congrArg (·.each.get (rateMonitor r)) hm⟩
  case earlier =>
    obtain ⟨settings, stands, monitor⟩ := start
    exact ⟨rateStep_settings.trans settings, rateStep_standing.trans stands,
      (rateStep_other (fun same => absurd same (rateMonitor_ne h)) s).trans monitor⟩
  case taken =>
    obtain ⟨settings, stands, monitor⟩ := start
    rw [rateStep, if_pos computed, ← stands]
    exact tried_evaluate settings monitor _
  case after =>
    exact tried.keeps (rateStep_other (fun same => absurd same (rateMonitor_ne h)) s) fun _ _ => rateStep_pending

/-- The state in which the rates are evaluated. -/
def closedRuns (v : State) : State :=
  raiseRuns (fun r => (closePulse v r).integrityAlarm != (v.pulse.get r).integrityAlarm) (closeRuns v)

theorem closedRuns_found : (closedRuns v).settings = v.settings ∧ (closedRuns v).loop = v.loop
    ∧ (∀ r, ((closedRuns v).run.get r).state = (v.run.get r).state) ∧ (closedRuns v).monitors = v.monitors := by
  refine ⟨by simp [closedRuns, closeRuns], by simp [closedRuns, closeRuns], fun r => ?_, by simp [closedRuns, closeRuns]⟩
  have control : (closeControl v r).state = (v.run.get r).state := by
    unfold closeControl
    dsimp only
    split <;> rfl
  simp [closedRuns, closeRuns, control]

theorem accrue_other (h : m ≠ 14) (vbs : Nat) (s : State) :
    (accrue vbs s).monitors.each.get m = s.monitors.each.get m := by
  have evaluated : (debtToMonitor (accrueAccount vbs s)).monitors.each.get m = s.monitors.each.get m := by
    rw [debtToMonitor, evaluate_other h, accrueAccount_monitors]
  unfold accrue
  dsimp only
  split
  · rw [schedulingCheck_monitors, evaluated]
  · exact evaluated

theorem closeInterval_tried_rate {r : RunId} (computed : Computed v r) : Tried v (closeInterval v) (rateMonitor r)
    (if standing (rateMonitor r) v = .evaluated then
      evaluated (lowSense (rateMonitor r)) (v.settings.active.monitors.get (rateMonitor r)) (figuresOf v r).rate
        (v.monitors.each.get (rateMonitor r))
    else v.monitors.each.get (rateMonitor r)) := by
  obtain ⟨settings, loop, run, monitors⟩ := closedRuns_found (v := v)
  refine (rateMonitors_tried computed settings loop run monitors).keeps (accrue_other ?_ _ _) fun _ _ => accrue_pending
  intro same
  have := congrArg Fin.val same
  fin_cases r <;> simp [rateMonitor] at this

theorem closeInterval_tried_other (debt : m ≠ 14) (h : ∀ r : RunId, m.val = r.val → ¬ Computed v r) :
    Tried v (closeInterval v) m (v.monitors.each.get m) := by
  obtain ⟨settings, loop, run, monitors⟩ := closedRuns_found (v := v)
  refine tried_same ((accrue_other debt _ _).trans ((rateMonitors_other h _).trans ?_))
  exact congrArg (·.each.get m) monitors

/-- M14 is evaluated on the debt that the interval's odorant leaves. -/
theorem closeInterval_tried_debt : Tried v (closeInterval v) 14
    (if (v.settings.active.monitors.get 14).enabled = true then
      evaluated false (v.settings.active.monitors.get 14) (keptAccount v * 1000 / v.odorant.cap) (v.monitors.each.get 14)
    else v.monitors.each.get 14) := by
  obtain ⟨settings, loop, run, monitors⟩ := closedRuns_found (v := v)
  have other : (rateMonitors v (closedRuns v)).monitors.each.get 14 = v.monitors.each.get 14 := by
    refine (rateMonitors_other (fun r same => ?_) _).trans (congrArg (·.each.get 14) monitors)
    exact absurd same (by fin_cases r <;> decide)
  have stands : ∀ x : State, standing 14 x =
      if (x.settings.active.monitors.get 14).enabled = true then .evaluated else .disabled := fun x => by
    unfold standing
    cases (x.settings.active.monitors.get 14).enabled <;> rfl
  have account : (accrueAccount (sumFigures (·.base) v) (rateMonitors v (closedRuns v))).dose.account = keptAccount v := by
    rw [accrueAccount_dose (by simp [closedRuns, closeRuns]) (by simp [settings])]
    rfl
  have tried := tried_evaluate (v := v) (m := 14)
    (x := accrueAccount (sumFigures (·.base) v) (rateMonitors v (closedRuns v)))
    (by simp [settings]) (by simp [other]) (keptAccount v * 1000 / v.odorant.cap)
  rw [stands, accrueAccount_settings, rateMonitors_settings, settings] at tried
  have debt : doseDebt (accrueAccount (sumFigures (·.base) v) (rateMonitors v (closedRuns v)))
      = keptAccount v * 1000 / v.odorant.cap := by
    simp [doseDebt, account, State.odorant, settings]
  have evaluation : Tried v (debtToMonitor (accrueAccount (sumFigures (·.base) v) (rateMonitors v (closedRuns v)))) 14
      (if (v.settings.active.monitors.get 14).enabled = true then
        evaluated false (v.settings.active.monitors.get 14) (keptAccount v * 1000 / v.odorant.cap)
          (v.monitors.each.get 14)
      else v.monitors.each.get 14) := by
    rw [debtToMonitor, debt]
    revert tried
    cases (v.settings.active.monitors.get 14).enabled <;> exact id
  show Tried v (accrue (sumFigures (·.base) v) (rateMonitors v (closedRuns v))) 14 _
  unfold accrue
  dsimp only
  split
  · exact evaluation.keeps (by rw [schedulingCheck_monitors]) fun _ _ => schedulingCheck_pending
  · exact evaluation

/-! ## A staged MONITORS copy (R156, R157) -/

/-- What a monitor becomes under new settings (R157). -/
def retunedTo (was is : MonitorSettings) (old : MonitorState) : MonitorState :=
  if is.enabled = true then MonitorState.formed is.mode (retuned was is old) else clearedMonitor

theorem retuneMonitor_eq (old new : MonitorsSection) (s : State) (m : Fin 16) : retuneMonitor old new s m =
    monitorNotices m (s.monitors.each.get m) (retunedTo (old.get m) (new.get m) (s.monitors.each.get m))
      (setMonitor m (retunedTo (old.get m) (new.get m) (s.monitors.each.get m)) s) := rfl

/-- Every monitor takes its new settings in its turn, with its notice. -/
theorem retuneMonitors_at (old new : MonitorsSection) (m : Fin 16) :
    (retuneMonitors old new x).monitors.each.get m = retunedTo (old.get m) (new.get m) (x.monitors.each.get m)
      ∧ ((x.monitors.each.get m).event = false → (retunedTo (old.get m) (new.get m) (x.monitors.each.get m)).event = true →
          (retunedTo (old.get m) (new.get m) (x.monitors.each.get m)).critical = false →
          x.settings.active.station.enables.limit = true → Pending .limit m.val (retuneMonitors old new x)) := by
  have other (s : State) (k : Fin 16) (h : k ≠ m) := retuneMonitor_other (old := old) (new := new) (Ne.symm h) s
  refine foldl_at (i := m) (l := monitorIds) (by decide) (by fin_cases m <;> decide)
    (P := fun s => s.settings = x.settings ∧ s.monitors.each.get m = x.monitors.each.get m)
    (Q := fun s => s.monitors.each.get m = retunedTo (old.get m) (new.get m) (x.monitors.each.get m) ∧ (_ → _ → _ → _ →
      Pending .limit m.val s))
    (fun s k h start => ?earlier) (fun s start => ?taken) (fun s k h done => ?after) ⟨rfl, rfl⟩
  case earlier =>
    obtain ⟨settings, monitor⟩ := start
    exact ⟨(by simp [retuneMonitor_eq, setMonitor] : (retuneMonitor old new s k).settings = s.settings).trans settings,
      (other s k h).trans monitor⟩
  case taken =>
    obtain ⟨settings, monitor⟩ := start
    rw [retuneMonitor_eq, monitor]
    refine ⟨by simp [setMonitor], fun was is low enabled => pending_limit was is low ?_⟩
    show s.settings.active.station.enables.limit = true
    rw [settings, enabled]
  case after =>
    obtain ⟨value, limit⟩ := done
    refine ⟨(other s k h).trans value, fun was is low enabled => ?_⟩
    rw [retuneMonitor_eq]
    exact monitorNotices_pending (pending_of_link (s := s) rfl (limit was is low enabled))

/-! ## A monitor after the boundary -/

/-- The part as the staged copies find it has the monitors and the settings of the interval's close. -/
theorem dropped_found (old : ActiveSections) :
    (dropIntegrity old (applySections (settledPart v))).monitors = (closeInterval v).monitors
      ∧ (dropIntegrity old (applySections (settledPart v))).settings = appliedSettings v.settings := by
  simp [settledPart]

theorem worked_monitors : (worked v).monitors = (retunedPart (settledPart v)).monitors := by
  show (countInterval (applyStaged (settledPart v))).monitors = _
  rw [countInterval_monitors, applyStaged_eq]
  split <;> simp

theorem boundary_monitors (h : BoundaryTaken c u v t) : t.monitors = (retunedPart (settledPart v)).monitors := by
  rw [h.part (·.monitors) fun _ _ _ => rfl, ← worked_monitors]
  simp

/-- What a boundary leaves of a monitor, by what the interval's close made of it. -/
theorem monitorLeft_of_tried {mid : MonitorState} (h : BoundaryTaken c u v t) (tried : Tried v (closeInterval v) m mid) :
    MonitorLeft u t m mid := by
  have settings : v.settings = u.settings := h.transfer (·.settings) fun _ => rfl
  have monitors : v.monitors = u.monitors := h.transfer (·.monitors) fun _ => rfl
  have found : (settledPart v).settings = u.settings := by simp [settledPart, settings]
  have left := congrArg (·.each.get m) (boundary_monitors h)
  unfold retunedPart at left
  rw [found] at left
  refine ⟨fun none => ?none, fun copy staged => ?staged, fun was is enabled => ?critical, fun was is low enabled => ?limit⟩
  case none =>
    rw [none] at left
    refine left.trans ?_
    rw [← tried.value]
    exact congrArg (·.each.get m) (dropped_found _).1
  case staged =>
    obtain ⟨before, applied⟩ := dropped_found (v := v) u.settings.active
    have monitor : (dropIntegrity u.settings.active (applySections (settledPart v))).monitors.each.get m = mid :=
      (congrArg (·.each.get m) before).trans tried.value
    have copied : (appliedSettings u.settings).active.monitors = copy := by simp [appliedSettings, staged]
    obtain ⟨value, limit⟩ := retuneMonitors_at
      (x := dropIntegrity u.settings.active (applySections (settledPart v))) u.settings.active.monitors copy m
    rw [monitor] at value limit
    have new : t.monitors.each.get m = retunedTo (u.settings.active.monitors.get m) (copy.get m) mid := by
      rw [staged, copied] at left
      exact left.trans value
    refine ⟨?_, fun was is low enabled => ?_⟩
    · rw [new]
      exact retuned_spec _ _ mid
    · rw [new] at is low
      have pending := limit was is low (by rw [applied, settings, ← h.settings]; exact enabled)
      refine given_of_closed h (limitSubject_inRange m) (closed_of_worked
        (pending_of_link (countInterval_link _) (applyStaged_of_retuned ?_)))
      unfold retunedPart
      rw [show (settleRuns (clearCounts (closeInterval v))).settings = u.settings from found, staged, copied]
      exact pending
  case critical =>
    rw [← monitors] at was
    rw [← settings] at enabled
    exact given_of_interval h (criticalSubject_inRange m) (tried.critical was is enabled)
  case limit =>
    rw [← monitors] at was
    rw [← settings] at enabled
    exact given_of_interval h (limitSubject_inRange m) (tried.limit was is low enabled)

end

end Sys2Proof.Proofs.Monitored
end

section
/-! PROOFS. The interval entry of a run, and the odorant accrued at a boundary. -/

namespace Sys2Proof.Proofs.Entries

open Sys2Proof Sys2Proof.Machine Sys2Proof.Proofs.Sections Sys2Proof.Proofs.Dosing Sys2Proof.Proofs.Strokes
  Sys2Proof.Proofs.Failures Sys2Proof.Proofs.Boundaries Sys2Proof.Proofs.Accruals Sys2Proof.Proofs.Intervals
  Sys2Proof.Proofs.Taken Sys2Proof.Proofs.Noticed Sys2Proof.Proofs.Monitored

section

variable {c : Instr} {u v t : State} {r : RunId}

/-! ## The interval entry (R45, R48) -/

theorem substitutes_computed (h : BoundaryTaken c u v t) (computed : Computed u r) :
    (t.run.get r).pSubstitute = (figuresOf u r).pSubstitute ∧ (t.run.get r).tSubstitute = (figuresOf u r).tSubstitute := by
  have settles (l : LoopFront) (x : RunControl) : (settled l r x).pSubstitute = x.pSubstitute
      ∧ (settled l r x).tSubstitute = x.tSubstitute := by
    unfold settled
    split
    · split <;> exact ⟨rfl, rfl⟩
    · exact ⟨rfl, rfl⟩
  have control : closeControl u r = { u.run.get r with
      closedInInterval := false, stateForInterval := none
      pSubstitute := (figuresOf u r).pSubstitute, tSubstitute := (figuresOf u r).tSubstitute
      last := some (entryOf (figuresOf u r)) } := by
    rw [closeControl, runFigures_computed computed]
    rfl
  rw [h.run, (settles _ _).1, (settles _ _).2, control]
  exact ⟨rfl, rfl⟩

theorem rateMonitor_left (h : BoundaryTaken c u v t) (computed : Computed u r) {m : Fin 16} (hm : m.val = r.val) :
    MonitorLeft u t m (if standing m u = .evaluated then
      evaluated false (u.settings.active.monitors.get m) (figuresOf u r).rate (u.monitors.each.get m)
    else u.monitors.each.get m) := by
  obtain rfl : m = rateMonitor r := Fin.ext hm
  have sense : lowSense (rateMonitor r) = false := by fin_cases r <;> rfl
  have found : Computed v r := (h.transfer (fun x => Computed x r) fun _ => rfl).mpr computed
  have same := h.transfer (fun x => if standing (rateMonitor r) x = .evaluated then
      evaluated (lowSense (rateMonitor r)) (x.settings.active.monitors.get (rateMonitor r)) (figuresOf x r).rate
        (x.monitors.each.get (rateMonitor r))
    else x.monitors.each.get (rateMonitor r)) fun _ => rfl
  rw [← sense, ← same]
  exact monitorLeft_of_tried h (closeInterval_tried_rate found)

end

/-- Settles O12: the entry is that of the run's figures, and the rate monitor is evaluated on their rate. -/
theorem intervalEntry : Obligations.IntervalEntry := by
  unfold Obligations.IntervalEntry
  intro s u c r made computed
  obtain ⟨v, t, taken, h⟩ := boundary_taken made
  obtain ⟨pressure, temperature⟩ := substitutes_computed h computed
  refine ⟨t, _, taken, h.last computed, runEntry_figures u r, ?_⟩
  dsimp only
  rw [pressure, temperature]
  exact ⟨fun v good some => (pressureUsed (usedValue_latest good some)).2.1,
    fun v failed hold some => (pressureUsed (usedValue_held failed hold some)).2.1,
    fun failed none => (pressureUsed (usedValue_fallback failed none)).2.1,
    fun v good some => (temperatureUsed (usedValue_latest good some)).2.1,
    fun v failed hold some => (temperatureUsed (usedValue_held failed hold some)).2.1,
    fun failed none => (temperatureUsed (usedValue_fallback failed none)).2.1,
    fun m hm => rateMonitor_left h computed hm⟩

/-! ## The odorant accrued (R80, R81, R82) -/

section

variable {c : Instr} {u v t : State}

/-- The sums over the runs computed, as the station figures hold them (R72). -/
theorem sumFigures_eq (g : RunFigures → Nat) (u : State) :
    sumFigures g u = (runIds.map fun r => if Computed u r then g (figuresOf u r) else 0).sum := by
  unfold sumFigures
  congr 2
  funext r
  rw [runFigures_eq]
  by_cases computed : Computed u r
  · rw [if_pos computed, if_pos computed]
    rfl
  · rw [if_neg computed, if_neg computed]
    rfl

/-- A sum over the runs computed of what their figures give, by what the part holds of them. -/
theorem sumFigures_of {g : RunFigures → Nat} {held : RunId → Nat} (h : ∀ r, Computed u r → held r = g (figuresOf u r)) :
    sumFigures g u = (runIds.map fun r => if Computed u r then held r else 0).sum := by
  rw [sumFigures_eq]
  congr 2
  funext r
  by_cases computed : Computed u r
  · rw [if_pos computed, if_pos computed, h r computed]
  · rw [if_neg computed, if_neg computed]

theorem resultsOf_base (f : RunFigures) : (((some (resultsOf f)).map (·.base)).getD 0) = f.base := rfl

theorem entryOf_rate (f : RunFigures) : (((some (entryOf f)).map (·.rate)).getD 0) = f.rate := rfl

theorem station_base (h : BoundaryTaken c u v t) : sumFigures (·.base) u =
    (runIds.map fun r => if Computed u r then ((t.conv.last.get r).map (·.base)).getD 0 else 0).sum :=
  sumFigures_of fun r computed => by rw [h.results computed, resultsOf_base]

theorem station_rate (h : BoundaryTaken c u v t) : sumFigures (·.rate) u =
    (runIds.map fun r => if Computed u r then ((t.run.get r).last.map (·.rate)).getD 0 else 0).sum :=
  sumFigures_of fun r computed => by rw [h.last computed, entryOf_rate]

/-- The frame received plays no part in the odorant's work. -/
theorem checked_doses (h : BoundaryTaken c u v t) :
    (checked v).dose = (checked u).dose ∧ (checked v).table = (checked u).table := by
  have account : keptAccount v = keptAccount u := h.transfer keptAccount fun _ => rfl
  have before : v.dose.account = u.dose.account := h.transfer (·.dose.account) fun _ => rfl
  have dose : (accrued v).dose = (accrued u).dose := h.transfer (fun x => (accrued x).dose) fun _ => rfl
  have table : (accrued v).table = (accrued u).table := h.transfer (fun x => (accrued x).table) fun _ => rfl
  unfold checked
  rw [account, before]
  split
  · exact schedulingCheck_congr dose (h.transfer (fun x => (accrued x).pump) fun _ => rfl) table
      (h.transfer (fun x => (accrued x).settings) fun _ => rfl) (h.transfer (fun x => (accrued x).time) fun _ => rfl)
  · exact ⟨dose, table⟩

theorem doses_unstaged (h : BoundaryTaken c u v t) (none : u.settings.staged.odorant = none) :
    t.dose = (checked u).dose ∧ t.table = (checked u).table := by
  have found : v.settings.staged.odorant = _ := h.transfer (·.settings.staged.odorant) fun _ => rfl
  obtain ⟨dose, table⟩ := worked_doses_unstaged (found.trans none)
  rw [← (checked_doses h).1, ← (checked_doses h).2, ← dose, ← table, h.part (·.dose) fun _ _ _ => rfl,
    h.part (·.table) fun _ _ _ => rfl]
  simp

theorem doses_staged (h : BoundaryTaken c u v t) (some : u.settings.staged.odorant.isSome = true) :
    t.dose = (schedulingCheck (recapped u)).dose ∧ t.table = (schedulingCheck (recapped u)).table := by
  have found : v.settings.staged.odorant = _ := h.transfer (·.settings.staged.odorant) fun _ => rfl
  have settings : v.settings = u.settings := h.transfer (·.settings) fun _ => rfl
  have account : keptAccount v = keptAccount u := h.transfer keptAccount fun _ => rfl
  have part (x : State) : (checked x).pump = x.pump ∧ (checked x).time = x.time := by
    unfold checked
    split <;> simp [accrued]
  obtain ⟨dose, table⟩ := worked_doses_staged (v := v) (by rw [found]; exact some)
  have same := schedulingCheck_congr (x := recapped v) (u := recapped u)
    (by simp only [recapped, (checked_doses h).1, account, settings])
    (by
      rw [recapped, recapped]
      exact (part v).1.trans ((h.transfer (·.pump) fun _ => rfl).trans (part u).1.symm))
    (checked_doses h).2 (congrArg appliedSettings settings)
    (by
      rw [recapped, recapped]
      exact (part v).2.trans ((h.transfer (·.time) fun _ => rfl).trans (part u).2.symm))
  rw [← same.1, ← same.2, ← dose, ← table, h.part (·.dose) fun _ _ _ => rfl, h.part (·.table) fun _ _ _ => rfl]
  simp

theorem closeRecord_station (cause : CloseCause) (s : State) : (closeRecord cause s).station = s.recorder.station := rfl

/-- The station's accumulators with the interval's odorant, in the record where the period closes. -/
theorem station_left (h : BoundaryTaken c u v t) :
    (if closesPeriod c u = true then t.recorder.ring.head?.map (·.station) else some t.recorder.station) =
      some { u.recorder.station with
        owed := u.recorder.station.owed + owedMass u
        forgone := u.recorder.station.forgone + (u.dose.account + owedMass u - keptAccount u) + recappedExcess u } := by
  have station : (worked v).recorder.station = { u.recorder.station with
      owed := u.recorder.station.owed + owedMass u
      forgone := u.recorder.station.forgone + (u.dose.account + owedMass u - keptAccount u) + recappedExcess u } := by
    have recorder : v.recorder = u.recorder := h.transfer (·.recorder) fun _ => rfl
    have account : v.dose.account = u.dose.account := h.transfer (·.dose.account) fun _ => rfl
    have owed : owedMass v = owedMass u := h.transfer owedMass fun _ => rfl
    have kept : keptAccount v = keptAccount u := h.transfer keptAccount fun _ => rfl
    have excess : recappedExcess v = recappedExcess u := h.transfer recappedExcess fun _ => rfl
    rw [worked_recorder, recorder, account, owed, kept, excess]
  rw [← station]
  split
  · rename_i closes
    rw [h.ring, if_pos closes, List.take_succ_cons, List.head?_cons, Option.map_some, closeRecord_station]
  · rename_i stays
    rw [h.recorder]
    show some (closed c v).recorder.station = _
    rw [closed, h.closes, if_neg stays]

theorem debt_left (h : BoundaryTaken c u v t) : MonitorLeft u t 14
    (if (u.settings.active.monitors.get 14).enabled = true then
      evaluated false (u.settings.active.monitors.get 14) (keptAccount u * 1000 / u.odorant.cap) (u.monitors.each.get 14)
    else u.monitors.each.get 14) := by
  have same := h.transfer (fun x => if (x.settings.active.monitors.get 14).enabled = true then
      evaluated false (x.settings.active.monitors.get 14) (keptAccount x * 1000 / x.odorant.cap) (x.monitors.each.get 14)
    else x.monitors.each.get 14) fun _ => rfl
  rw [← same]
  exact monitorLeft_of_tried h closeInterval_tried_debt

end

/-- Settles O19: the accrual at the interval's close, whose account the check and M14 then find. -/
theorem boundaryAccruesOdorant : Obligations.BoundaryAccruesOdorant := by
  unfold Obligations.BoundaryAccruesOdorant
  intro s u c made
  obtain ⟨v, t, taken, h⟩ := boundary_taken made
  refine ⟨t, ⟨sumFigures (·.base) u, sumFigures (·.rate) u⟩, taken, by rw [h.conv]; rfl, station_base h, station_rate h,
    fun none => ?_⟩
  have excess : recappedExcess u = 0 := by simp [recappedExcess, none]
  have left := station_left h
  rw [excess, Nat.add_zero] at left
  obtain ⟨dose, table⟩ := doses_unstaged h none
  refine ⟨?_, left, debt_left h⟩
  rw [dose, table, checked]
  show if u.dose.account < keptAccount u then _ else _
  split
  · exact ⟨rfl, rfl⟩
  · exact ⟨rfl, rfl⟩

/-- Settles O20: the check by what it finds, and the account under the cap of a staged ODORANT copy. -/
theorem schedulingAndOdorantCopy : Obligations.SchedulingAndOdorantCopy := by
  unfold Obligations.SchedulingAndOdorantCopy
  refine ⟨fun v => ?_, fun s u c copy made staged => ?_⟩
  · split
    · rename_i owed
      rw [schedulingCheck_owed ((strokeOwed_iff v).mpr owed)]
      refine ⟨rfl, place_aux _ _, fun id within free first => ?_⟩
      refine (congrArg ActionTable.places (place_at free within first _)).trans ?_
      show v.table.places.set id (some (strokeEntry v)) = _
      unfold strokeEntry strokeDue
      rfl
    · rename_i notOwed
      exact schedulingCheck_notOwed (mt (strokeOwed_iff v).mp notOwed)
  · obtain ⟨w, t, taken, h⟩ := boundary_taken made
    have copied : t.odorant = copy := by
      rw [State.odorant, h.settings]
      simp [appliedSettings, staged]
    refine ⟨t, ⟨sumFigures (·.base) u, sumFigures (·.rate) u⟩, taken, by rw [h.conv]; rfl, copied, ?_⟩
    have settings : t.settings = appliedSettings u.settings := h.settings
    have cap : (appliedSettings u.settings).active.odorant = copy := by simp [appliedSettings, staged]
    obtain ⟨dose, table⟩ := doses_staged h (by rw [staged]; rfl)
    have left := station_left h
    have excess : recappedExcess u = keptAccount u - copy.cap := by
      rw [recappedExcess, staged, cap]
      rfl
    rw [excess] at left
    have capped : recapped u = { checked u with
        settings := t.settings, dose := { (checked u).dose with account := min (keptAccount u) copy.cap } } := by
      rw [recapped, settings, cap]
    rw [capped, checked] at dose table
    exact ⟨dose, table, left, debt_left h⟩

end Sys2Proof.Proofs.Entries
end

section
/-! PROOFS. What a period close leaves, made by a boundary or alone: the store's items, the period opened, the record (R111, R135,
R139, R143, R172). -/

namespace Sys2Proof.Proofs.Closings

open Sys2Proof Sys2Proof.Machine Sys2Proof.Proofs.Basics Sys2Proof.Proofs.Raised Sys2Proof.Proofs.Sections
  Sys2Proof.Proofs.Contents Sys2Proof.Proofs.Dosing Sys2Proof.Proofs.Strokes Sys2Proof.Proofs.Boundaries Sys2Proof.Proofs.Accruals
  Sys2Proof.Proofs.Taken Sys2Proof.Proofs.Noticed Sys2Proof.Proofs.Monitored

/-! ## The store once a state is served -/

section

variable {u b t : State}

/-- Serving a state changes its store and its link alone. -/
theorem ends_kept (h : Ends b t) : t = { b with store := t.store, link := t.link } := by
  rcases h with rfl | ⟨f, rfl⟩
  · exact finish_eq b
  · rw [finish_eq (queueReply f (finish b)), show queueReply f (finish b) = { b with
      store := (queueReply f (finish b)).store, link := (queueReply f (finish b)).link } from ?_]
    rw [finish_eq b]
    rfl

/-- With an item in progress once a state is served, a reply queued leaves the store. -/
theorem ends_store (h : Ends b t) {w : StoreWrite} (busy : (finish b).store.writing = some w) :
    t.store = (finish b).store := by
  rcases h with rfl | ⟨f, rfl⟩
  · rfl
  · have same : (queueReply f (finish b)).store = (finish b).store := rfl
    rw [finish_store, serveStore_busy (same.symm ▸ busy), same]

/-- RESUME listed is added, whatever serves the state. -/
theorem resumeAdded_ends (h : Ends b t) (live : b.live = true) (listed : b.store.list.resume = true)
    (writing : b.store.writing.map (·.content) = u.store.writing.map (·.content)) :
    ResumeAdded u t ∧ (b.store.list.ring = true → t.store.list.ring = true) := by
  obtain ⟨idle, busy⟩ := resumeAdded_finish u b live listed writing
  have inProgress : ∃ w, (finish b).store.writing = some w := by
    cases before : u.store.writing with
    | none =>
      obtain ⟨-, w, some, -⟩ := idle before
      exact ⟨w, some⟩
    | some w =>
      obtain ⟨-, some⟩ := busy w before
      obtain ⟨x, held, -⟩ := Option.map_eq_some_iff.mp some
      exact ⟨x, held⟩
  obtain ⟨w, some⟩ := inProgress
  have store := ends_store h some
  refine ⟨⟨fun none => ?_, fun x before => ?_⟩, fun ring => ?_⟩
  · obtain ⟨unlisted, x, written, holds, left, stale⟩ := idle none
    refine ⟨by rw [store, unlisted], x, by rw [store, written], ?_, left, stale⟩
    rw [ends_kept h]
    rw [finish_eq b] at holds
    exact holds
  · rw [store]
    exact busy x before
  · rw [store]
    exact ring_listed_finish b listed ring

end

/-! ## The items a boundary lists -/

section

variable {v s : State} {c : Instr} {i j : StoreItem}

theorem add_writing (i : StoreItem) (st : Store) : (st.add i).writing.map (·.content) = st.writing.map (·.content) := by
  cases h : st.writing with
  | none => simp [Store.add, h]
  | some w =>
    simp only [Store.add, h, Option.map_some]
    split <;> rfl

theorem addSections_writing (which : PerSection Bool) (s : State) :
    (addSections which s).store.writing.map (·.content) = s.store.writing.map (·.content) :=
  foldl_keeps (·.store.writing.map (·.content)) _ (fun s i => by
    split
    · exact add_writing _ _
    · rfl) _ s

theorem applySections_writing (s : State) :
    (applySections s).store.writing.map (·.content) = s.store.writing.map (·.content) := by
  unfold applySections
  dsimp only
  split
  · exact (add_writing _ _).trans (addSections_writing _ _)
  · exact addSections_writing _ _

theorem closed_writing : (closed c v).store.writing.map (·.content) = v.store.writing.map (·.content) := by
  have before : (worked v).store.writing.map (·.content) = v.store.writing.map (·.content) := by
    have store : (worked v).store = (applySections (settledPart v)).store := by
      show (countInterval (applyStaged (settledPart v))).store = _
      rw [countInterval_store, applyStaged_store]
    rw [store, applySections_writing]
    simp [settledPart]
  unfold closed
  split
  · rw [closePeriod_store, add_writing, add_writing, before]
  · exact before

end

/-! ## The period closed -/

theorem closePeriod_through (cause : CloseCause) (s : State) :
    (closePeriod cause s).recorder.storedThrough = s.recorder.storedThrough := by
  rw [closePeriod_recorder]
  rfl

section

variable {cause : CloseCause} {u y z t : State}

theorem clearedStrays (pumps : Two Pump) (p : Side) :
    (pumps.map fun x => { x with strays := 0 }).get p = { pumps.get p with strays := 0 } := by
  cases p <;> rfl

theorem openStation_eq (mode : DosingMode) (account : Nat) : openStation (noModes.mark mode) account =
    { owed := 0, autoDelivered := 0, forgone := 0, surplus := 0, manualMass := 0
      strokes := .both { confirmed := 0, missed := 0, stray := 0 }, manualMisses := 0, changeovers := 0
      modes := { off := decide (mode = .off), auto := decide (mode = .auto), manual := decide (mode = .manual) }
      abandoned := false, accountOpen := account } := by
  cases mode <;> rfl

/-- What a close made at `y` leaves of the part as `u` had it, once it is served. -/
theorem periodClosed_of (dose : t.dose = y.dose) (trim : y.dose.trim = u.dose.trim) (mode : y.dose.mode = u.dose.mode)
    (station : t.recorder.station = (closePeriod cause y).recorder.station)
    (index : t.recorder.lastIndex = (closePeriod cause y).recorder.lastIndex)
    (through : t.recorder.storedThrough = u.recorder.storedThrough)
    (pump : t.pump = (closePeriod cause y).pump) (before : y.pump = u.pump)
    (notice : t.settings.active.station.enables.period = true → noticeGiven .period 0 u t = true)
    (ring : t.store.list.ring = true) (resume : ResumeAdded u t) : PeriodClosed u t (closeRecord cause y) := by
  refine ⟨congrArg Dose.account dose.symm, congrArg Dose.trim dose.symm, by rw [dose, trim], by rw [dose, mode], ?_, ?_, through,
    fun p => ?_, notice, ring, resume⟩
  · rw [station, dose, closePeriod_recorder]
    exact openStation_eq _ _
  · rw [index, closePeriod_recorder]
    rfl
  · rw [pump, closePeriod_pump, before, clearedStrays]
    split <;> rfl

/-! ## The close a boundary makes -/

variable {v : State} {c : Instr}

theorem checked_keeps (v : State) : (checked v).dose.trim = v.dose.trim ∧ (checked v).dose.mode = v.dose.mode
    ∧ (checked v).table.aux = v.table.aux := by
  unfold checked
  split
  · rw [schedulingCheck_aux, schedulingCheck_dose]
    exact ⟨rfl, rfl, rfl⟩
  · exact ⟨rfl, rfl, rfl⟩

theorem worked_keeps (v : State) : (worked v).dose.trim = v.dose.trim ∧ (worked v).dose.mode = v.dose.mode
    ∧ (worked v).table.aux = v.table.aux := by
  cases staged : v.settings.staged.odorant with
  | none =>
    rw [(worked_doses_unstaged staged).1, (worked_doses_unstaged staged).2]
    exact checked_keeps v
  | some copy =>
    have isSome : v.settings.staged.odorant.isSome = true := by rw [staged]; rfl
    rw [(worked_doses_staged isSome).1, (worked_doses_staged isSome).2, schedulingCheck_aux, schedulingCheck_dose]
    exact checked_keeps v

theorem boundary_live (running : v.time.phase = .running) : (boundaryWith (closeOf c) v).live = true := by
  have phase : (boundaryWith (closeOf c) v).time.phase = .running := by
    rw [boundaryWith_eq, beginInterval]
    show ((startScan _).time).phase = _
    rw [startScan_time]
    unfold closed
    split <;> simp [running]
  simp [State.live, phase]

theorem boundary_store : (boundaryWith (closeOf c) v).store = (closed c v).store := by
  rw [boundaryWith_eq]
  simp

/-- RESUME listed by a boundary's work is added. -/
theorem boundary_resume (h : BoundaryTaken c u v t) (running : u.time.phase = .running)
    (listed : (closed c v).store.list.resume = true) :
    ResumeAdded u t ∧ ((closed c v).store.list.ring = true → t.store.list.ring = true) := by
  have phase : v.time.phase = .running := (h.transfer (·.time.phase) fun _ => rfl).trans running
  have store : v.store = u.store := h.transfer (·.store) fun _ => rfl
  have added := resumeAdded_ends (u := u) h.ends (boundary_live phase) (by rw [boundary_store, listed])
    (by rw [boundary_store, closed_writing, store])
  rwa [boundary_store] at added

/-- RECONFIG marked leaves all of the recorder but the runs. -/
theorem markReconfig_keeps (test : RunId → Bool) (s : State) :
    (markReconfig test s).recorder.station = s.recorder.station
      ∧ (markReconfig test s).recorder.lastIndex = s.recorder.lastIndex
      ∧ (markReconfig test s).recorder.storedThrough = s.recorder.storedThrough
      ∧ (markReconfig test s).recorder.lastSequence = s.recorder.lastSequence := ⟨rfl, rfl, rfl, rfl⟩

theorem boundary_periodClosed (h : BoundaryTaken c u v t) (running : u.time.phase = .running)
    (closes : closesPeriod c u = true) : PeriodClosed u t (closeRecord (boundaryCause c) (worked v)) := by
  have made : closed c v = closePeriod (boundaryCause c) (worked v) := by rw [closed, h.closes, if_pos closes]
  obtain ⟨trim, mode, -⟩ := worked_keeps v
  have recorder := h.recorder
  rw [made] at recorder
  obtain ⟨station, index, through, -⟩ :=
    markReconfig_keeps (reconfigRuns v.settings) (closePeriod (boundaryCause c) (worked v))
  obtain ⟨resume, ring⟩ := boundary_resume h running (by rw [made, closePeriod_store]; rfl)
  refine periodClosed_of (y := worked v) ?dose (trim.trans (h.transfer (·.dose.trim) fun _ => rfl))
    (mode.trans (h.transfer (·.dose.mode) fun _ => rfl)) (by rw [recorder, station]) (by rw [recorder, index]) ?through ?pump
    (worked_pump.trans (h.transfer (·.pump) fun _ => rfl)) ?notice (ring (by rw [made, closePeriod_store]; rfl)) resume
  case dose =>
    rw [h.part (·.dose) fun _ _ _ => rfl]
    simp
  case through =>
    have before : (worked v).recorder.storedThrough = u.recorder.storedThrough := by
      rw [worked_recorder]
      exact h.transfer (·.recorder.storedThrough) fun _ => rfl
    rw [recorder, through, closePeriod_through, before]
  case pump =>
    rw [h.part (·.pump) fun _ _ _ => rfl, made]
    simp
  case notice =>
    intro enabled
    have settings : t.settings = (worked v).settings := by
      rw [h.part (·.settings) fun _ _ _ => rfl]
      simp
    refine h.served.given .period 0 (by decide) ?_
    have given := closePeriod_notice (boundaryCause c) u (worked v) (by rw [← settings]; exact enabled)
    rw [boundaryWith_eq, made]
    simpa [noticeGiven] using given

end

end Sys2Proof.Proofs.Closings
end

section
/-! PROOFS. What ends at a boundary: the interval, the settling of a run, the period (R7 to R12, R22, R42). -/

namespace Sys2Proof.Proofs.Ended

open Sys2Proof Sys2Proof.Machine Sys2Proof.Proofs.Raised Sys2Proof.Proofs.Conversions Sys2Proof.Proofs.Strokes
  Sys2Proof.Proofs.Boundaries Sys2Proof.Proofs.Accruals Sys2Proof.Proofs.Intervals Sys2Proof.Proofs.Records
  Sys2Proof.Proofs.Taken Sys2Proof.Proofs.Noticed Sys2Proof.Proofs.Entries Sys2Proof.Proofs.Closings

section

variable {c : Instr} {u v t : State} {r : RunId}

/-! ## The runs that settle (R42) -/

theorem closeControl_keeps (u : State) (r : RunId) : (closeControl u r).state = (u.run.get r).state
    ∧ (closeControl u r).settle = (u.run.get r).settle ∧ (closeControl u r).closedInInterval = false
    ∧ (closeControl u r).stateForInterval = none := by
  by_cases computed : Computed u r
  · rw [closeControl, runFigures_computed computed]
    exact ⟨rfl, rfl, rfl, rfl⟩
  · rw [closeControl, runFigures_uncomputed computed]
    exact ⟨rfl, rfl, rfl, rfl⟩

theorem settled_interval (l : LoopFront) (r : RunId) (x : RunControl) :
    (settled l r x).closedInInterval = x.closedInInterval ∧ (settled l r x).stateForInterval = x.stateForInterval := by
  unfold settled
  split
  · split <;> exact ⟨rfl, rfl⟩
  · exact ⟨rfl, rfl⟩

theorem settled_ended {l : LoopFront} {x : RunControl} (starting : x.state = .starting) (last : x.settle ≤ 1) :
    settled l r x = { x with settle := 0, state := meteringState r l } := by
  rw [settled, if_pos starting, if_pos last]

theorem settled_goesOn {l : LoopFront} {x : RunControl} (starting : x.state = .starting) (more : 1 < x.settle) :
    settled l r x = { x with settle := x.settle - 1 } := by
  rw [settled, if_pos starting, if_neg (Nat.not_le.mpr more)]

theorem settled_still {l : LoopFront} {x : RunControl} (h : x.state ≠ .starting) : settled l r x = x := if_neg h

theorem meteringState_ne (r : RunId) (l : LoopFront) : meteringState r l ≠ .starting := by
  unfold meteringState
  split <;> decide

theorem worked_eq (v : State) : worked v = countInterval (applyStaged (settledPart v)) := rfl

/-- A run that leaves STARTING raises its notice (R51). -/
theorem given_settled (h : BoundaryTaken c u v t) (starting : (u.run.get r).state = .starting)
    (last : (u.run.get r).settle ≤ 1) (enabled : u.settings.active.station.enables.run = true) :
    noticeGiven .run r.val u t = true := by
  have settings : v.settings = u.settings := h.transfer (·.settings) fun _ => rfl
  have run : v.run = u.run := h.transfer (·.run) fun _ => rfl
  obtain ⟨state, settle, -, -⟩ := closeControl_keeps v r
  rw [run] at state settle
  have pending : Pending .run r.val (settledPart v) := by
    unfold settledPart settleRuns
    dsimp only
    refine pending_raiseRuns ?_ (by simpa [settings] using enabled)
    simp [closeInterval_run, settled_ended (state.trans starting) (settle.trans_le last), state, starting,
      meteringState_ne]
  refine given_of_closed h (runSubject_inRange r) (closed_of_worked ?_)
  rw [worked_eq]
  exact pending_of_link (countInterval_link _) (applyStaged_pending pending)

/-! ## The interval and the period -/

/-- The clocks and the counts after a boundary. -/
theorem boundary_time (h : BoundaryTaken c u v t) : t.time = { u.time with
    intervalStart := u.time.stationTime, intervalIndex := u.time.intervalIndex + 1
    periodCount := if closesPeriod c u = true then 0 else u.time.periodCount + 1
    periodOpen := if closesPeriod c u = true then u.time.stationTime else u.time.periodOpen } := by
  have time : v.time = u.time := h.transfer (·.time) fun _ => rfl
  have before : (closed c v).time = { u.time with
      periodCount := if closesPeriod c u = true then 0 else u.time.periodCount + 1
      periodOpen := if closesPeriod c u = true then u.time.stationTime else u.time.periodOpen } := by
    unfold closed
    rw [h.closes]
    split <;> simp [time, State.now]
  rw [h.part (·.time) fun _ _ _ => rfl, beginInterval, startScan_time]
  simp [before]

theorem boundary_aux (h : BoundaryTaken c u v t) : t.table.aux = u.table.aux := by
  rw [h.part (·.table) fun _ _ _ => rfl]
  simpa [(worked_keeps v).2.2] using h.transfer (·.table.aux) fun _ => rfl

theorem boundary_count (h : BoundaryTaken c u v t) (r : RunId) : (t.pulse.get r).count = .both 0 := by
  rw [h.pulse]
  split <;> rfl

/-- The figures of the record that a boundary's close makes. -/
theorem boundary_record (h : BoundaryTaken c u v t) :
    (closeRecord (boundaryCause c) (worked v)).cause = boundaryCause c
      ∧ (closeRecord (boundaryCause c) (worked v)).intervals = u.time.periodCount + 1
      ∧ (closeRecord (boundaryCause c) (worked v)).duration = (u.now - u.time.periodOpen).toNat
      ∧ (closeRecord (boundaryCause c) (worked v)).lastIndex = u.time.intervalIndex
      ∧ (closeRecord (boundaryCause c) (worked v)).sequence = nextSequence u.recorder.lastSequence := by
  have time : v.time = u.time := h.transfer (·.time) fun _ => rfl
  have last : v.recorder.lastSequence = u.recorder.lastSequence := h.transfer (·.recorder.lastSequence) fun _ => rfl
  simp [closeRecord, buildRecord, worked_recorder, closeRecorder, time, last, State.now]

end

/-- Settles O8: the boundary's work by its parts, the period's close made on what the blocks' work has left. -/
theorem boundaryEndsInterval : Obligations.BoundaryEndsInterval := by
  unfold Obligations.BoundaryEndsInterval
  intro s u c made fits
  obtain ⟨v, t, taken, h⟩ := boundary_taken made
  have running := boundary_running made
  have time := boundary_time h
  refine ⟨t, taken, by rw [time, running], by rw [time], by rw [time]; rfl, by rw [time], by rw [time], h.loop fits,
    boundary_count h, fun r => ?interval, fun r still => ?still, fun r starting more => ?goesOn,
    fun r starting last => ⟨?settle, ?state, given_settled h starting last⟩, ?period, h.sense, h.pins, boundary_aux h,
    h.pending⟩
  case interval =>
    obtain ⟨-, -, closed, state⟩ := closeControl_keeps u r
    rw [h.run, (settled_interval _ _ _).1, (settled_interval _ _ _).2]
    exact ⟨closed, state⟩
  case still =>
    obtain ⟨state, settle, -, -⟩ := closeControl_keeps u r
    rw [h.run, settled_still (state ▸ still)]
    exact ⟨state, settle⟩
  case goesOn =>
    obtain ⟨state, settle, -, -⟩ := closeControl_keeps u r
    rw [h.run, settled_goesOn (state.trans starting) (settle ▸ more)]
    exact ⟨state.trans starting, congrArg (· - 1) settle⟩
  case settle =>
    obtain ⟨state, settle, -, -⟩ := closeControl_keeps u r
    rw [h.run, settled_ended (state.trans starting) (settle.trans_le last)]
  case state =>
    obtain ⟨state, settle, -, -⟩ := closeControl_keeps u r
    rw [h.run, settled_ended (state.trans starting) (settle.trans_le last)]
    exact meteringState_eq r u.loop
  case period =>
    split
    · rename_i closes
      obtain ⟨cause, intervals, duration, index, sequence⟩ := boundary_record h
      refine ⟨by rw [time]; exact if_pos closes, by rw [time]; exact if_pos closes, _, by rw [h.ring, if_pos closes],
        cause, intervals, duration, index, sequence, ?_, boundary_periodClosed h running closes⟩
      have made : closed c v = closePeriod (boundaryCause c) (worked v) := by rw [closed, h.closes, if_pos closes]
      rw [h.recorder, (markReconfig_keeps _ _).2.2.2, made, closePeriod_recorder]
      rfl
    · rename_i stays
      have same : closed c v = worked v := by rw [closed, h.closes, if_neg stays]
      obtain ⟨-, index, through, last⟩ := markReconfig_keeps (reconfigRuns v.settings) (worked v)
      refine ⟨by rw [time]; exact if_neg stays, by rw [time]; exact if_neg stays, by rw [h.ring, if_neg stays], ?_, ?_, ?_, ?_⟩
      · rw [h.recorder, same, last, worked_recorder]
        exact h.transfer (·.recorder.lastSequence) fun _ => rfl
      · rw [h.recorder, same, index, worked_recorder]
        exact h.transfer (·.time.intervalIndex) fun _ => rfl
      · rw [h.recorder, same, through, worked_recorder]
        exact h.transfer (·.recorder.storedThrough) fun _ => rfl
      · rw [h.part (·.pump) fun _ _ _ => rfl]
        simpa [same] using h.transfer (·.pump) fun _ => rfl

end Sys2Proof.Proofs.Ended
end

section
/-! PROOFS. The staged copies made active at a boundary, and the items of the store that they list (R157, R163, R166). -/

namespace Sys2Proof.Proofs.Applied

open Sys2Proof Sys2Proof.Machine Sys2Proof.Proofs.Sections Sys2Proof.Proofs.Contents Sys2Proof.Proofs.Boundaries
  Sys2Proof.Proofs.Accruals Sys2Proof.Proofs.Intervals Sys2Proof.Proofs.Taken Sys2Proof.Proofs.Noticed
  Sys2Proof.Proofs.Monitored Sys2Proof.Proofs.Closings Sys2Proof.Proofs.Ended

theorem zip_get (f : Bool → Bool → Bool) (x y : PerSection Bool) (i : SectionId) :
    (PerSection.zip f x y).get i = f (x.get i) (y.get i) := by
  cases i <;> simp [PerSection.zip, PerSection.get]

/-! ## Items that stay listed -/

/-- An item is on the store write list. -/
def onList (l : WriteList) : StoreItem → Bool
  | .resume => l.resume
  | .ring => l.ring
  | .flags => l.flags
  | .sectionCopy i => l.sections.get i

section

variable {s v u t : State} {c : Instr} {i j : StoreItem} {l : WriteList}

theorem onList_mark_same : onList (l.mark i) i = true := by
  cases i
  case sectionCopy k => exact PerSection.get_set_same _ _ _
  all_goals rfl

theorem onList_mark (h : onList l i = true) : onList (l.mark j) i = true := by
  cases i <;> cases j
  case sectionCopy.sectionCopy k m =>
    show (l.sections.set m true).get k = true
    rw [PerSection.get_set]
    split
    · rfl
    · exact h
  all_goals simp_all [onList, WriteList.mark]

theorem add_onList {st : Store} (h : onList st.list i = true) : onList (st.add j).list i = true := onList_mark h

theorem addItem_onList_same : onList (addItem i s).store.list i = true := onList_mark_same

theorem addItem_onList (h : onList s.store.list i = true) : onList (addItem j s).store.list i = true := add_onList h

theorem sectionSet_get (x : PerSection Bool) (k : SectionId) (h : x.get k = true) : x.set k true = x := by
  cases k
  case run r =>
    have same : x.run.set r true = x.run := by
      rw [← show x.run.get r = true from h]
      exact Conversions.Four.set_get _ _
    simp [PerSection.set, same]
  all_goals
    cases x
    simp_all [PerSection.set, PerSection.get]

theorem listed_of_onList {k : SectionId} (h : onList s.store.list (.sectionCopy k) = true) : Listed (.sectionCopy k) s := by
  left
  show ({ s.store.list with sections := s.store.list.sections.set k true } : WriteList) = s.store.list
  rw [sectionSet_get _ _ h]

theorem addSections_onList {which : PerSection Bool} {k : SectionId} (h : which.get k = true) :
    onList (addSections which s).store.list (.sectionCopy k) = true := by
  refine foldl_at (i := k) (l := sectionIds) (P := fun _ => True)
    (Q := fun x => onList x.store.list (.sectionCopy k) = true) (by decide) ?_ (fun _ _ _ _ => trivial)
    (fun x _ => ?_) (fun x m _ done => ?_) trivial
  · cases k
    case run r => fin_cases r <;> decide
    all_goals decide
  · rw [if_pos h]
    exact addItem_onList_same
  · split
    · exact addItem_onList done
    · exact done

theorem applySections_onList {k : SectionId} (h : (stagedMarks s.settings.staged).get k = true) :
    onList (applySections s).store.list (.sectionCopy k) = true := by
  unfold applySections
  dsimp only
  split
  · exact addItem_onList (addSections_onList h)
  · exact addSections_onList h

theorem applySections_onList_resume (h : s.settings.stagedHeatingValue.isSome = true) :
    onList (applySections s).store.list .resume = true := by
  unfold applySections
  dsimp only
  rw [if_pos h]
  exact addItem_onList_same

/-- What the staged copies list is listed still once the boundary's work is done. -/
theorem closed_onList (h : onList (applySections (settledPart v)).store.list i = true) :
    onList (closed c v).store.list i = true := by
  have before : onList (worked v).store.list i = true := by
    rw [worked_eq, countInterval_store, applyStaged_store]
    exact h
  unfold closed
  split
  · rw [closePeriod_store]
    exact add_onList (add_onList before)
  · exact before

theorem section_listed (h : BoundaryTaken c u v t) {k : SectionId}
    (staged : (stagedMarks u.settings.staged).get k = true) :
    t.store.list.sections.get k = true ∨ t.store.writing.map (·.content.item) = some (.sectionCopy k) := by
  have settings : (settledPart v).settings = u.settings := by
    simpa [settledPart] using h.transfer (·.settings) fun _ => rfl
  have listed : Listed (.sectionCopy k) (boundaryWith (closeOf c) v) := by
    refine listed_of_onList ?_
    rw [boundary_store]
    exact closed_onList (applySections_onList (by rw [settings]; exact staged))
  refine (h.served.listed _ (by simp) listed).imp (fun marked => ?_) id
  have := congrArg (·.sections.get k) marked
  simpa [WriteList.mark] using this.symm

theorem resume_listed (h : BoundaryTaken c u v t) (running : u.time.phase = .running)
    (staged : u.settings.stagedHeatingValue ≠ none) : ResumeAdded u t := by
  have settings : (settledPart v).settings = u.settings := by
    simpa [settledPart] using h.transfer (·.settings) fun _ => rfl
  refine (boundary_resume h running (closed_onList (i := .resume) (applySections_onList_resume ?_))).1
  rw [settings]
  exact Option.isSome_iff_ne_none.mpr staged

/-- A B check turned off clears the run's integrity state. -/
theorem pulse_dropped (h : BoundaryTaken c u v t) {r : RunId} (was : (u.settings.active.run.get r).bCheck = true)
    (is : (t.settings.active.run.get r).bCheck = false) : t.pulse.get r = clearIntegrity (judgedPulse u r) := by
  rw [h.settings] at is
  rw [h.pulse, if_pos (by simp [bCheckOff, was, is])]

/-- An alarm that a boundary ends raises the run's notice, whichever work of the boundary ends it. -/
theorem given_alarmEnded (h : BoundaryTaken c u v t) {r : RunId} (was : (u.settings.active.run.get r).bCheck = true)
    (is : (t.settings.active.run.get r).bCheck = false) (alarm : (u.pulse.get r).integrityAlarm = true)
    (before : u.settings.active.station.enables.run = true) (after : t.settings.active.station.enables.run = true) :
    noticeGiven .run r.val u t = true := by
  cases judged : (judgedPulse u r).integrityAlarm with
  | false => exact given_judged h (by rw [judged, alarm]; decide) before
  | true =>
    rw [h.settings] at is
    exact given_dropped h (by simp [bCheckOff, was, is]) judged after

end

/-- Settles O9: `appliedSettings`, and what its copies do. -/
theorem boundaryAppliesStaged : Obligations.BoundaryAppliesStaged := by
  unfold Obligations.BoundaryAppliesStaged
  intro s u c made
  obtain ⟨v, t, taken, h⟩ := boundary_taken made
  have settings := h.settings
  refine ⟨t, taken, by rw [settings]; rfl, fun r => by rw [settings]; exact Four.get_tabulate _ r, by rw [settings]; rfl,
    by rw [settings]; rfl, by rw [settings]; rfl, by rw [settings]; rfl, resume_listed h (boundary_running made),
    by rw [settings]; rfl, by rw [settings]; rfl, by rw [settings]; rfl, by rw [settings]; rfl,
    fun i => ⟨by rw [settings]; exact zip_get _ _ _ i, by rw [settings]; exact zip_get _ _ _ i, section_listed h⟩,
    fun r was is => ?dropped, fun m debt others => ?monitor⟩
  case dropped =>
    rw [pulse_dropped h was is]
    exact ⟨rfl, rfl, rfl, given_alarmEnded h was is⟩
  case monitor =>
    have monitors : v.monitors = u.monitors := h.transfer (·.monitors) fun _ => rfl
    rw [← monitors]
    exact monitorLeft_of_tried h (closeInterval_tried_other debt fun r same computed =>
      others r same ((h.transfer (fun x => Computed x r) fun _ => rfl).mp computed))

end Sys2Proof.Proofs.Applied
end

section
/-! PROOFS. The two commands that force a close of the period (R12, R13, R14). -/

namespace Sys2Proof.Proofs.Forced

open Sys2Proof Sys2Proof.Machine Sys2Proof.Proofs.Raised Sys2Proof.Proofs.Sections Sys2Proof.Proofs.Dosing
  Sys2Proof.Proofs.Strokes Sys2Proof.Proofs.Conversions Sys2Proof.Proofs.Boundaries Sys2Proof.Proofs.Accruals
  Sys2Proof.Proofs.Records Sys2Proof.Proofs.Taken Sys2Proof.Proofs.Entries Sys2Proof.Proofs.Closings
  Sys2Proof.Proofs.Ended Sys2Proof.Proofs.Requests

/-! ## The entries of the station host -/

section

variable {t : ActionTable} {test : Entry → Bool} {e : Entry}

theorem lowestFree_free {l : List (Option Entry)} {i : Nat} (h : lowestFree l = some i) : l[i]? = some none := by
  induction l generalizing i with
  | nil => cases h
  | cons x rest ih =>
    cases x with
    | none =>
      cases h
      rfl
    | some y =>
      obtain ⟨j, low, rfl⟩ := Option.map_eq_some_iff.mp h
      simpa using ih low

theorem count_place_other (h : test e = false) (t : ActionTable) : (t.place e).count test = t.count test := by
  unfold ActionTable.place
  split
  · rename_i i low
    have := countP_set (fun x : Option Entry => x.any test) (lowestFree_free low) (some e)
    simpa [ActionTable.count, boolCode, h] using this
  · rfl

end

theorem schedulingCheck_linkCount (s : State) : (schedulingCheck s).table.count isLink = s.table.count isLink := by
  by_cases owed : strokeOwed s = true
  · rw [schedulingCheck_owed owed]
    exact count_place_other rfl _
  · rw [schedulingCheck_notOwed owed]

section

variable {c : Instr} {s u v t : State} {cause : CloseCause}

theorem boundary_linkCount (h : BoundaryTaken c u v t) : t.table.count isLink = u.table.count isLink := by
  have counted : (checked u).table.count isLink = u.table.count isLink := by
    unfold checked
    split
    · exact schedulingCheck_linkCount _
    · rfl
  cases staged : u.settings.staged.odorant with
  | none => rw [(doses_unstaged h staged).2, counted]
  | some copy =>
    rw [(doses_staged h (by rw [staged]; rfl)).2, schedulingCheck_linkCount]
    exact counted

/-! ## A close forced by a boundary -/

theorem forced_boundary (h : BoundaryTaken c u v t) (running : u.time.phase = .running)
    (closes : closesPeriod c u = true) (forced : boundaryCause c = .forced) (age : u.age ≠ 0) : ForcedCloseLeaves u t := by
  have time := boundary_time h
  have made : closed c v = closePeriod (boundaryCause c) (worked v) := by rw [closed, h.closes, if_pos closes]
  obtain ⟨cause, intervals, duration, -, sequence⟩ := boundary_record h
  refine ⟨_, by rw [h.ring, if_pos closes], cause.trans forced, sequence, by rw [intervals, if_neg age], duration, ?last,
    by rw [time, running], by rw [time]; exact if_pos closes, by rw [time]; exact if_pos closes,
    by rw [time, if_neg age]; rfl, by rw [time, if_neg age], h.record_length, boundary_periodClosed h running closes,
    fun none => absurd none age, fun none => absurd none age, fun none => absurd none age⟩
  case last =>
    rw [h.recorder, (markReconfig_keeps _ _).2.2.2, made, closePeriod_recorder]
    rfl

/-! ## A close at an age of 0 ms -/

/-- A close changes the time base, the pumps, the recorder, the store and the link alone. -/
theorem closePeriod_eq (cause : CloseCause) (s : State) : closePeriod cause s = { s with
    time := { s.time with periodCount := 0, periodOpen := s.now }
    pump := (closePeriod cause s).pump, recorder := (closePeriod cause s).recorder
    store := (closePeriod cause s).store, link := (closePeriod cause s).link } := by
  unfold closePeriod closePeriodAs
  dsimp only
  rw [raise_eq]
  rfl

theorem closePeriod_listed (cause : CloseCause) (s : State) :
    (closePeriod cause s).store.list.resume = true ∧ (closePeriod cause s).store.list.ring = true
      ∧ (closePeriod cause s).store.writing.map (·.content) = s.store.writing.map (·.content) := by
  rw [closePeriod_store]
  exact ⟨rfl, rfl, (add_writing _ _).trans (add_writing _ _)⟩

/-- What a close made alone leaves, once it is served. -/
theorem alone_periodClosed {table : ActionTable} (same : v = { u with table := table, link := v.link })
    (line : v.link.tx = u.link.tx) (ends : Ends (closePeriod .forced v) t) (running : u.time.phase = .running) :
    PeriodClosed u t (closeRecord .forced v) := by
  have found {α : Type} (f : State → α) (hf : ∀ l : Link, f { u with table := table, link := l } = f u) : f v = f u :=
    (congrArg f same).trans (hf v.link)
  have part {α : Type} (f : State → α)
      (hf : ∀ x : State, ∀ (st : Store) (l : Link), f { x with store := st, link := l } = f x) :
      f t = f (closePeriod .forced v) := (congrArg f (ends_kept ends)).trans (hf _ _ _)
  obtain ⟨resume, ring, writing⟩ := closePeriod_listed .forced v
  have live : (closePeriod .forced v).live = true := by
    have phase : v.time.phase = .running := (found (·.time.phase) fun _ => rfl).trans running
    simp [State.live, phase]
  obtain ⟨added, ringListed⟩ := resumeAdded_ends (u := u) ends live resume
    (writing.trans (found (·.store.writing.map (·.content)) fun _ => rfl))
  refine periodClosed_of (y := v) ((part (·.dose) fun _ _ _ => rfl).trans (closePeriod_dose _ _))
    (found (·.dose.trim) fun _ => rfl) (found (·.dose.mode) fun _ => rfl) (part (·.recorder.station) fun _ _ _ => rfl)
    (part (·.recorder.lastIndex) fun _ _ _ => rfl) ?through (part (·.pump) fun _ _ _ => rfl) (found (·.pump) fun _ => rfl)
    (fun enabled => ?notice) (ringListed ring) added
  case through =>
    rw [part (·.recorder.storedThrough) fun _ _ _ => rfl, closePeriod_through]
    exact found (·.recorder.storedThrough) fun _ => rfl
  case notice =>
    have settings : t.settings = v.settings := (part (·.settings) fun _ _ _ => rfl).trans (closePeriod_settings _ _)
    have given := closePeriod_notice .forced u v (by rw [← settings]; exact enabled)
    have free (e : (closePeriod .forced v).link.tx = none) : u.link.tx = none := by
      rwa [closePeriod_tx, line] at e
    rcases ends with rfl | ⟨f, rfl⟩
    · exact (served_finish u _ free).given .period 0 (by decide) given
    · exact (served_reply u _ f free).given .period 0 (by decide) given

theorem forced_alone {table : ActionTable} (same : v = { u with table := table, link := v.link })
    (line : v.link.tx = u.link.tx) (ends : Ends (closePeriod .forced v) t) (running : u.time.phase = .running)
    (age : u.age = 0) : ForcedCloseLeaves u t ∧ t.table = table := by
  have closing := alone_periodClosed same line ends running
  have kept := ends_kept ends
  rw [closePeriod_eq .forced v] at kept
  have recorder : t.recorder = openPeriod v.dose.mode v.dose.account (placeRecord (closeRecord .forced v) v.recorder) := by
    rw [← closePeriod_recorder]
    exact congrArg (·.recorder) (ends_kept ends)
  have runs (r : RunId) : t.recorder.runs.get r = (v.recorder.runs.get r).reopened := by
    rw [recorder]
    exact Four.get_map _ _ _
  have holds (r : RunId) (fitted : v.fitted r = true) :
      HoldsRun (closeRecord .forced v) r (v.run.get r).state (v.recorder.runs.get r) := by
    have held := buildRecord_holds (r := r) (n := v.settings.build.runs)
      (figures := ⟨.forced, v.time.periodCount, (v.now - v.time.periodOpen).toNat⟩) (states := v.run.map (·.state))
      (trim := v.dose.trim) (account := v.dose.account) (rec := v.recorder) (by simpa [State.fitted] using fitted)
    rwa [Four.get_map] at held
  have length : (closeRecord .forced v).runs.length = min v.settings.build.runs 4 := buildRecord_length
  generalize v.link = l at same kept
  subst same
  have time : t.time = { u.time with periodCount := 0, periodOpen := u.now } := congrArg (·.time) kept
  refine ⟨⟨_, by rw [recorder]; rfl, rfl, rfl, by rw [if_pos age]; rfl, rfl, by rw [recorder]; rfl, by rw [time, running],
    by rw [time], by rw [time], by rw [time, if_pos age], by rw [time, if_pos age], length, closing, fun _ => ?part,
    fun _ => ⟨by rw [recorder]; rfl, fun r _ => runs r⟩, fun _ => ⟨rfl, rfl, rfl, rfl, holds⟩⟩, congrArg (·.table) kept⟩
  case part =>
    have pump : t.pump = _ := congrArg (·.pump) kept
    have held : t.recorder = _ := congrArg (·.recorder) kept
    have tables : t.table = table := congrArg (·.table) kept
    rw [pump, held, tables]
    exact kept

end

/-! ## The two commands -/

theorem forced_periodClose {s u : State} {after : Nat} (hu : s.elapse after = u) {tag : Byte} (takes : u.takes = true) :
    ∃ t : State, exec (.periodClose after tag []) s = .next t ∧ ForcedCloseLeaves u t
      ∧ (u.age = 0 → t.table = u.table)
      ∧ (∀ n, t.recorder.lastSequence = some n →
          newestReply t = some (okReply 0x12#8 tag (bytesLE 4 n.toNat))) := by
  obtain ⟨running, -⟩ := takes_iff.mp takes
  refine ⟨_, exec_periodClose hu takes, ?_⟩
  generalize reply : okReply 0x12#8 tag _ = f
  have ends : Ends (forcedClose (dropFrame u)) (finish (queueReply f (finish (forcedClose (dropFrame u))))) := .inr ⟨f, rfl⟩
  have last := congrArg (·.recorder.lastSequence) (ends_kept ends)
  have newest := newestReply_queued (finish (forcedClose (dropFrame u))) f
  generalize finish (queueReply f (finish (forcedClose (dropFrame u)))) = t at ends last newest
  have answer (n : Time) (some : t.recorder.lastSequence = some n) :
      newestReply t = .some (okReply 0x12#8 tag (bytesLE 4 n.toNat)) := by
    have sequence : (forcedClose (dropFrame u)).recorder.lastSequence = .some n := last.symm.trans some
    rw [newest, ← reply, sequence]
    rfl
  by_cases age : u.age = 0
  · have alone : forcedClose (dropFrame u) = closePeriod .forced (dropFrame u) := if_pos age
    rw [alone] at ends
    obtain ⟨leaves, table⟩ := forced_alone (u := u) (v := dropFrame u) (table := u.table) rfl rfl ends running age
    exact ⟨leaves, fun _ => table, answer⟩
  · rw [forcedClose_boundary (u := dropFrame u) age] at ends
    have taken : BoundaryTaken (.periodClose after tag []) u (dropFrame u) t := ⟨rfl, rfl, ends⟩
    exact ⟨forced_boundary taken running rfl rfl age, fun zero => absurd zero age, answer⟩

theorem forced_entry {s u : State} {after : Nat} (hu : s.elapse after = u) {id : Fin 8} {e : Entry}
    (running : u.time.phase = .running) (hat : u.table.at id.val = some e) (kind : e.kind = .closePeriod)
    (due : reached e.due u.now = true) :
    ∃ t : State, exec (.closePeriodEntryDue after id) s = .next t ∧ ForcedCloseLeaves u t
      ∧ (u.age = 0 → t.table = { u.table with places := u.table.places.set id.val none })
      ∧ t.table.count isLink + boolCode (isLink e) = u.table.count isLink := by
  refine ⟨_, exec_closeEntry hu running hat kind due, ?_⟩
  have freed := count_free hat isLink
  have ends : Ends (forcedClose { u with table := u.table.free id.val })
      (finish (forcedClose { u with table := u.table.free id.val })) := .inl rfl
  show ForcedCloseLeaves u (finish (forcedClose { u with table := u.table.free id.val }))
    ∧ (u.age = 0 → (finish (forcedClose { u with table := u.table.free id.val })).table = u.table.free id.val)
    ∧ (finish (forcedClose { u with table := u.table.free id.val })).table.count isLink + boolCode (isLink e)
      = u.table.count isLink
  generalize finish (forcedClose { u with table := u.table.free id.val }) = t at ends
  by_cases age : u.age = 0
  · have alone : forcedClose { u with table := u.table.free id.val }
        = closePeriod .forced { u with table := u.table.free id.val } := if_pos age
    rw [alone] at ends
    obtain ⟨leaves, table⟩ := forced_alone (u := u) (v := { u with table := u.table.free id.val })
      (table := u.table.free id.val) rfl rfl ends running age
    exact ⟨leaves, fun _ => table, by rw [table]; exact freed⟩
  · rw [forcedClose_boundary (u := { u with table := u.table.free id.val }) age] at ends
    have taken : BoundaryTaken (.closePeriodEntryDue after id) { u with table := u.table.free id.val }
        { u with table := u.table.free id.val } t := ⟨rfl, rfl, ends⟩
    have leaves : ForcedCloseLeaves { u with table := u.table.free id.val } t :=
      forced_boundary taken running rfl rfl age
    refine ⟨leaves, fun zero => absurd zero age, ?_⟩
    rw [boundary_linkCount taken]
    exact freed

/-- Settles O10: at an age of 0 ms the close alone, else the boundary. -/
theorem forcedCloses : Obligations.ForcedCloses := by
  unfold Obligations.ForcedCloses
  intro s u after hu
  exact ⟨fun _ takes => forced_periodClose hu takes, fun _ _ running hat kind due => forced_entry hu running hat kind due⟩

end Sys2Proof.Proofs.Forced
end

section
/-! PROOFS. Supply lost and the edges of PFW (R17, R37, R118, R173, R177). -/

namespace Sys2Proof.Proofs.Powers

open Sys2Proof Sys2Proof.Machine Sys2Proof.Proofs.Arms Sys2Proof.Proofs.Basics Sys2Proof.Proofs.Events

/-! ## Loss of supply (R173) -/

section

variable {s u : State} {after : Nat}

/-- A part with power off and nothing to serve is left as it is. -/
theorem finish_still (live : s.live = false) (writing : s.store.writing = none) (warning : s.store.warningResume = false) :
    finish s = s := by
  unfold finish
  rw [serveStore_idle writing warning (.inl live), serveLink_still (.inl live)]

theorem finish_loseSupply (u : State) : finish (loseSupply u) = loseSupply u := finish_still rfl rfl rfl

/-- The item being written as supply is lost: every other copy stays, and without a warning its own fails its check. -/
theorem storeAfterLoss_writing {w : StoreWrite} (h : u.store.writing = some w) :
    OtherCopiesKept w.content.item u.store (storeAfterLoss u)
      ∧ (u.live = true → CopyFails w.content.item (storeAfterLoss u)) := by
  have kept : OtherCopiesKept w.content.item u.store u.store :=
    ⟨fun _ => rfl, fun _ => rfl, fun _ => rfl, fun _ => rfl, fun _ _ => rfl, fun _ => rfl, fun _ => rfl, fun _ => rfl⟩
  have spoiled := spoil_copies w.content.item u.store
  unfold storeAfterLoss
  rw [h]
  dsimp only
  split
  · rename_i halt
    have dead (live : u.live = true) : False := by simp [State.live, halt] at live
    refine ⟨?_, fun live => (dead live).elim⟩
    split
    · exact spoiled.2
    · exact kept
    · exact (put_copies w.content u.store).2
  · exact ⟨spoiled.2, fun _ => spoiled.1⟩

theorem storeAfterLoss_idle (h : u.store.writing = none) : storeAfterLoss u = u.store := by
  unfold storeAfterLoss
  rw [h]

theorem exec_lossOfSupply_on (hu : s.elapse after = u) (on : u.time.phase ≠ .off) :
    exec (.lossOfSupply after) s = .next (loseSupply u) := by
  have lost : supplyLost u = loseSupply u := if_neg on
  rw [exec_lossOfSupply, event_at hu (by simp [on]), lost, finish_loseSupply]

/-- POWER_ON in HALT is a loss of supply and a power-on (R4). -/
theorem exec_powerOn_halt (hu : s.elapse after = u) (halt : u.time.phase = .halt) :
    exec (.powerOn after) s = exec (.powerOn 0) (loseSupply u) := by
  have up : powerUp u = powerUp (loseSupply u) := by
    unfold powerUp
    rw [if_pos halt, if_neg (show ¬ (loseSupply u).time.phase = .halt by simp [loseSupply])]
  rw [exec_powerOn, exec_powerOn, event_at hu (by simp [halt]),
    event_at (elapse_of_off (s := loseSupply u) rfl) (by simp [loseSupply]), up]

end

/-- Settles O7: `storeAfterLoss`, and what `loseSupply` leaves. -/
theorem lossOfSupplyKeepsStore : Obligations.LossOfSupplyKeepsStore := by
  unfold Obligations.LossOfSupplyKeepsStore
  intro s u after hu
  refine ⟨fun on => ?_, fun off supply => ?_⟩
  · refine ⟨_, exec_lossOfSupply_on hu on, rfl, rfl, rfl, rfl, rfl, fun idle => ?_, fun w writing => ?_,
      exec_powerOn_halt hu⟩
    · show (storeAfterLoss u).sections = _ ∧ (storeAfterLoss u).flags = _ ∧ (storeAfterLoss u).ring = _
        ∧ (storeAfterLoss u).resume = _
      rw [storeAfterLoss_idle idle]
      exact ⟨rfl, rfl, rfl, rfl⟩
    · exact storeAfterLoss_writing writing
  · have lost : supplyLost u = { u with pins := { u.pins with supply := false } } := if_pos off
    rw [exec_lossOfSupply, event_at hu (by simp [supply]), lost]

/-! ## The power-fail warning (R17, R118) -/

section

variable {s u : State} {after : Nat}

/-- The part at the warning. -/
def warned (u : State) : State := { u with
  time := { u.time with
    phase := .halt, haltInstant := u.now, restartPending := false, restartDue := false, riseHeld := false }
  loop := { u.loop with converter := .idle }
  pump := u.pump.map fun x => { x with line := false }
  table := { u.table with aux := .both false }
  recorder := { u.recorder with station := { u.recorder.station with
    abandoned := u.recorder.station.abandoned || u.pump.a.strokeInFlight || u.pump.b.strokeInFlight } }
  pins := { u.pins with pfwHigh := false }
  link := { u.link with receiver := huntReceiver, tx := none }
  store := { u.store with list := emptyWriteList, warningResume := true } }

theorem markAbandoned_eq (u : State) : markAbandoned u = { u with
    recorder := { u.recorder with station := { u.recorder.station with
      abandoned := u.recorder.station.abandoned || u.pump.a.strokeInFlight || u.pump.b.strokeInFlight } } } := by
  unfold markAbandoned
  cases a : u.pump.a.strokeInFlight <;> cases b : u.pump.b.strokeInFlight <;>
    simp [onStation, State.onRecorder]

theorem setPfw_powerFail (u : State) : setPfw false (powerFail u) = warned u := by
  unfold powerFail
  dsimp only
  rw [markAbandoned_eq]
  rfl

theorem warned_store_idle (idle : u.store.writing = none) : (finish (warned u)).store = { u.store with
    list := emptyWriteList, warningResume := false
    writing := some { content := .resume (resumeContent (warned u)), left := 30000, stale := false } } := by
  rw [finish_store, serveStore_warning (s := warned u) idle rfl]
  rfl

theorem warned_store_busy {w : StoreWrite} (busy : u.store.writing = some w) :
    (finish (warned u)).store = { u.store with list := emptyWriteList, warningResume := true } := by
  rw [finish_store, serveStore_busy (s := warned u) busy]
  rfl

end

/-! ## The edges of PFW (R37, R177) -/

section

variable {s u : State} {after : Nat}

theorem exec_warning (hu : s.elapse after = u) (live : u.live = true) :
    exec (.powerFailWarning after) s = .next (finish (warned u)) := by
  rw [exec_powerFailWarning, event_at hu rfl, if_pos live, setPfw_powerFail]

theorem exec_fall (hu : s.elapse after = u) (dead : u.live = false) :
    exec (.powerFailWarning after) s = .next (finish { u with pins := { u.pins with pfwHigh := false } }) := by
  rw [exec_powerFailWarning, event_at hu rfl, if_neg (by simp [dead])]
  rfl

/-- A start that waits for supply or for PFW leaves the part. -/
theorem startWhenReady_waits (h : u.time.phase ≠ .off ∨ u.pins.supply = false ∨ u.pins.pfwHigh = false) :
    startWhenReady u = u := by
  rw [startWhenReady, if_neg]
  rintro ⟨off, supply, high⟩
  rcases h with h | h | h
  · exact h off
  · simp [supply] at h
  · simp [high] at h

theorem finish_waits {x : State} (h : x.time.phase ≠ .off ∨ x.pins.supply = false ∨ x.pins.pfwHigh = false) :
    (.next (finish (startWhenReady x)) : Result) = .next (finish x) := by
  rw [startWhenReady_waits h]

theorem exec_rise (hu : s.elapse after = u) :
    exec (.pfwRise after) s = .next (finish (startWhenReady (holdRise (setPfw true u)))) := by
  rw [exec_pfwRise, event_at hu rfl]

theorem exec_powerOn_off (hu : s.elapse after = u) (off : u.time.phase = .off) : exec (.powerOn after) s =
    .next (finish (startWhenReady { u with pins := { u.pins with supply := true } })) := by
  have up : powerUp u = startWhenReady { u with pins := { u.pins with supply := true } } := by
    unfold powerUp
    rw [if_neg (by simp [off])]
    rfl
  rw [exec_powerOn, event_at hu (by simp [off]), up]

/-- A rise with power off and supply present starts the part as POWER_ON does. -/
theorem exec_rise_off (hu : s.elapse after = u) (off : u.time.phase = .off) (supply : u.pins.supply = true) :
    exec (.pfwRise after) s = exec (.powerOn after) { s with pins := { s.pins with pfwHigh := true } } := by
  have same : u = s := by
    have phase : s.time.phase = .off := by
      rw [← hu] at off
      simpa using off
    rw [← hu, elapse_of_off phase]
  subst same
  have risen : holdRise (setPfw true u) = { u with pins := { u.pins with pfwHigh := true } } :=
    if_neg (by simp [setPfw, off])
  have held : ({ u.pins with pfwHigh := true } : Pins) = { u.pins with supply := true, pfwHigh := true } := by rw [← supply]
  rw [exec_rise hu, risen,
    exec_powerOn_off (u := { u with pins := { u.pins with pfwHigh := true } })
      (elapse_of_off (s := { u with pins := { u.pins with pfwHigh := true } }) off) off, held]

end

/-- Settles O5: the warning by its parts, and each edge by the phase it finds. -/
theorem pfwEdgesTaken : Obligations.PfwEdgesTaken := by
  unfold Obligations.PfwEdgesTaken
  intro s u after hu
  refine ⟨fun live => ⟨_, exec_warning hu live, rfl, ?alarm, ?list, ?sections, ?ring, ?resume, fun w busy => ?busy,
      fun idle => ?idle⟩, exec_fall hu, fun halt => ?held, fun live => ?level, fun off low => ?waits, exec_rise_off hu,
    fun off unsupplied => ?unsupplied⟩
  case alarm =>
    have dead : (finish (warned u)).live = false := by simp [State.live, warned]
    simp [State.alarm, dead]
  case list | sections | ring | resume =>
    cases writing : u.store.writing with
    | none => exact (congrArg _ (warned_store_idle writing)).trans rfl
    | some w => exact (congrArg _ (warned_store_busy writing)).trans rfl
  case busy =>
    rw [show (finish _).store = _ from warned_store_busy busy]
    exact ⟨busy, rfl⟩
  case idle =>
    have store := warned_store_idle idle
    have holds : ItemHolds .resume (finish (warned u)) (.resume (resumeContent (warned u))) :=
      itemHolds_finish _ _ _ (itemHolds_content .resume (warned u))
    refine ⟨congrArg (·.warningResume) store, ⟨_, congrArg (·.writing) store, holds, rfl, rfl⟩, _,
      congrArg (·.writing) store, holds, rfl, rfl, ?_, rfl, rfl⟩
    rw [finish_recorder]
    rfl
  case held =>
    have risen : holdRise (setPfw true u) =
        { u with time := { u.time with riseHeld := true }, pins := { u.pins with pfwHigh := true } } := if_pos halt
    rw [exec_rise hu, risen]
    exact finish_waits (.inl (by simp [halt]))
  case level =>
    have running : u.time.phase ≠ .halt ∧ u.time.phase ≠ .off := by
      constructor <;> intro phase <;> simp [State.live, phase] at live
    have risen : holdRise (setPfw true u) = { u with pins := { u.pins with pfwHigh := true } } := if_neg running.1
    rw [exec_rise hu, risen]
    exact finish_waits (.inl running.2)
  case waits =>
    rw [exec_powerOn_off hu off]
    exact finish_waits (.inr (.inr low))
  case unsupplied =>
    have risen : holdRise (setPfw true u) = { u with pins := { u.pins with pfwHigh := true } } :=
      if_neg (by simp [setPfw, off])
    rw [exec_rise hu, risen]
    exact finish_waits (.inr (.inl unsupplied))

end Sys2Proof.Proofs.Powers
end

section
/-! PROOFS. The blocks' start on entry to WARMUP: the dose controller, the notices, the scan (R51, R98). -/

namespace Sys2Proof.Proofs.Starting

open Sys2Proof Sys2Proof.Machine Sys2Proof.Proofs.Raised Sys2Proof.Proofs.Dosing Sys2Proof.Proofs.Strokes
  Sys2Proof.Proofs.Events Sys2Proof.Proofs.Steps Sys2Proof.Proofs.Replies

section

variable {y t : State}

/-! ## The dose controller's start (R98) -/

theorem startDuty_eq (y : State) : startDuty y =
    if (y.pump.get y.odorant.preferred).state = .ready then y.odorant.preferred
    else if (y.pump.get y.odorant.preferred.other).state = .ready then y.odorant.preferred.other
    else if y.pumpIsFitted y.dose.duty = true then y.dose.duty else .a := by
  simp only [startDuty, State.pumpReady, State.duty, beq_iff_eq]
  rfl

theorem startMode_iff (y : State) : startMode y = .auto ↔
    y.odorant.startAuto = true ∧ y.settings.defaulted.odorant = false := by
  simp [startMode]

theorem startMode_off (h : startMode y ≠ .auto) : startMode y = .off := by
  unfold startMode at h ⊢
  split <;> simp_all

/-- The part as AUTO starts, before the check (R98 steps 1 to 3). -/
def readied (y : State) : State := { y with
  dose := { y.dose with
    mode := .auto, duty := startDuty y
    state := if (y.pump.get (startDuty y)).state = .ready then .armed else .fault }
  recorder := { y.recorder with station := { y.recorder.station with modes := y.recorder.station.modes.mark .auto } } }

theorem startDosing_auto (h : startMode y = .auto) :
    startDosing y = raise .dosing 0 (schedulingCheck (readied y)) := by
  have ready : (if y.pumpReady (startDuty y) then DosingState.armed else .fault) =
      if (y.pump.get (startDuty y)).state = .ready then .armed else .fault := by
    simp [State.pumpReady]
  unfold startDosing
  rw [h]
  dsimp only [setMode, State.onDose, onStation, State.onRecorder, setDosingState, State.duty]
  unfold readied
  rw [← ready]
  rfl

theorem startDosing_off (h : startMode y ≠ .auto) : startDosing y = { y with
    dose := { y.dose with mode := .off, duty := startDuty y, state := .idle, account := 0 }
    recorder := { y.recorder with station := { y.recorder.station with
      modes := y.recorder.station.modes.mark .off
      forgone := y.recorder.station.forgone + y.dose.account } } } := by
  unfold startDosing
  rw [startMode_off h]
  rfl

/-- The mode, the duty and the account that the start leaves, the figures it keeps, and the station's accumulators. -/
theorem startDosing_keeps (y : State) : (startDosing y).dose.mode = startMode y ∧ (startDosing y).dose.duty = startDuty y
    ∧ (startDosing y).dose.account = (if startMode y = .auto then y.dose.account else 0)
    ∧ (startDosing y).dose.residue = y.dose.residue ∧ (startDosing y).dose.trim = y.dose.trim
    ∧ (startDosing y).dose.trimHoldOff = y.dose.trimHoldOff ∧ (startDosing y).dose.lastReading = y.dose.lastReading
    ∧ (startDosing y).dose.lastDrive = y.dose.lastDrive ∧ (startDosing y).dose.recentDrive = y.dose.recentDrive := by
  by_cases auto : startMode y = .auto
  · rw [startDosing_auto auto, raise_dose, schedulingCheck_dose, if_pos auto, auto]
    exact ⟨rfl, rfl, rfl, rfl, rfl, rfl, rfl, rfl, rfl⟩
  · rw [startDosing_off auto, if_neg auto, startMode_off auto]
    exact ⟨rfl, rfl, rfl, rfl, rfl, rfl, rfl, rfl, rfl⟩

theorem startDosing_recorder (y : State) : (startDosing y).recorder = { y.recorder with
    station := { y.recorder.station with
      modes := y.recorder.station.modes.mark (startMode y)
      forgone := y.recorder.station.forgone + (y.dose.account - (startDosing y).dose.account) } } := by
  by_cases auto : startMode y = .auto
  · have account := (startDosing_keeps y).2.2.1
    rw [if_pos auto] at account
    rw [account, Nat.sub_self, startDosing_auto auto, auto, raise_recorder, schedulingCheck_recorder]
    rfl
  · rw [startDosing_off auto, startMode_off auto]
    rfl

/-! ## The start served -/

/-- The part as it enters WARMUP, from what its blocks hold. -/
def started (y : State) : State := finish (startScan (announceRuns (startDosing y)))

theorem started_part {α : Type} (f : State → α)
    (hf : ∀ x : State, ∀ (st : Store) (l : Link), f { x with store := st, link := l } = f x) :
    f (started y) = f (startScan (announceRuns (startDosing y))) :=
  (congrArg f (finish_eq _)).trans (hf _ _ _)

@[simp] theorem started_dose : (started y).dose = (startDosing y).dose := by simp [started]
@[simp] theorem started_table : (started y).table = (startDosing y).table := by simp [started]
@[simp] theorem started_recorder : (started y).recorder = (startDosing y).recorder := by simp [started]
@[simp] theorem started_pump : (started y).pump = y.pump := by simp [started]
@[simp] theorem started_run : (started y).run = y.run := by simp [started]
@[simp] theorem started_conv : (started y).conv = y.conv := by simp [started]
@[simp] theorem started_pulse : (started y).pulse = y.pulse := by simp [started]
@[simp] theorem started_sense : (started y).sense = y.sense := by simp [started]
@[simp] theorem started_monitors : (started y).monitors = y.monitors := by simp [started]
@[simp] theorem started_settings : (started y).settings = y.settings := by simp [started]
@[simp] theorem started_time : (started y).time = y.time := by simp [started]
@[simp] theorem started_pins : (started y).pins = y.pins := by simp [started]
@[simp] theorem started_pending : (started y).pending = y.pending := by simp [started]

theorem started_loop (fits : 0 < y.settings.build.runs) :
    (started y).loop = { y.loop with converter := .converting (.p 0) 25000 } := by
  rw [started, finish_loop, startScan_first (by simpa using fits)]
  simp

theorem started_store : (started y).store = (serveStore (startScan (announceRuns (startDosing y)))).store :=
  finish_store _

theorem started_queue (h : y.link.queue = []) : (started y).link.queue = [] := by
  have before : (startScan (announceRuns (startDosing y))).link.queue = [] := by
    have same : line (startScan (announceRuns (startDosing y))) = line y := by simp
    exact (congrArg (·.1) same).trans h
  obtain ⟨k, served, -⟩ := finish_queue (startScan (announceRuns (startDosing y)))
  rw [started, served, before, List.drop_nil]

theorem startDosing_aux (y : State) : (startDosing y).table.aux = y.table.aux := by
  by_cases auto : startMode y = .auto
  · rw [startDosing_auto auto, raise_table, schedulingCheck_aux]
    rfl
  · rw [startDosing_off auto]

/-- A pair pending as the start is served is given. -/
theorem given_started {c : NoticeClass} {n : Nat} (hn : Notice.subjectInRange ⟨c, n⟩ = true)
    (h : Pending c n (announceRuns (startDosing y))) : noticeGiven c n State.reset (started y) = true :=
  noticeGiven_finish c n State.reset _ hn (fun _ => rfl) (given_of_pending (pending_of_link (startScan_link _) h))

/-- The runs left in service are announced (R51). -/
theorem given_announced (r : RunId) (inService : (y.run.get r).state ≠ .out)
    (enabled : y.settings.active.station.enables.run = true) : noticeGiven .run r.val State.reset (started y) = true :=
  given_started (Orders.runSubject_inRange r) (pending_raiseRuns (by simpa using inService) (by simpa using enabled))

/-- The due time of a stroke depends on the last drive, the spacing and the time alone. -/
theorem strokeDue_congr {x : State} (recent : x.dose.recentDrive = y.dose.recentDrive)
    (last : x.dose.lastDrive = y.dose.lastDrive) (settings : x.settings = y.settings) (time : x.time = y.time) :
    strokeDue x = strokeDue y := by
  simp only [strokeDue, State.odorant, State.now, recent, last, settings, time]
  rfl

/-- In AUTO with the duty pump not READY the start makes no check. -/
theorem startDosing_fault (auto : startMode y = .auto) (unready : (y.pump.get (startDuty y)).state ≠ .ready) :
    (startDosing y).dose = { (readied y).dose with state := .fault } := by
  have fault : (readied y).dose.state = .fault := if_neg unready
  rw [startDosing_auto auto, raise_dose, schedulingCheck_of_not_armed (by simp [fault]), ← fault]

theorem startDosing_short (auto : startMode y = .auto) (ready : (y.pump.get (startDuty y)).state = .ready)
    (short : y.dose.account < y.odorant.strokeMass) : (startDosing y).dose = { (readied y).dose with state := .armed } := by
  have armed : (readied y).dose.state = .armed := if_pos ready
  have notOwed : ¬ strokeOwed (readied y) = true := fun owed =>
    Nat.not_le.mpr short ((strokeOwed_iff (readied y)).mp owed).2.2.2
  rw [startDosing_auto auto, raise_dose, schedulingCheck_notOwed notOwed, ← armed]

theorem startDosing_owed (auto : startMode y = .auto) (ready : (y.pump.get (startDuty y)).state = .ready)
    (owed : y.odorant.strokeMass ≤ y.dose.account) :
    (startDosing y).dose = { (readied y).dose with state := .strokeWait, massInFlight := y.odorant.strokeMass }
      ∧ (startDosing y).table = y.table.place (strokeEntry (readied y)) := by
  have armed : (readied y).dose.state = .armed := if_pos ready
  have stroke : strokeOwed (readied y) = true := (strokeOwed_iff (readied y)).mpr ⟨rfl, armed, ready, owed⟩
  rw [startDosing_auto auto, raise_dose, raise_table, schedulingCheck_owed stroke]
  exact ⟨rfl, rfl⟩

/-- The start of the dose controller, once served. -/
theorem startsDosing_started (table : y.table = emptyTable) (idle : y.dose.massInFlight = 0) :
    StartsDosing y.dose.duty (started y) := by
  obtain ⟨mode, duty, -⟩ := startDosing_keeps y
  have sameMode : (started y).dose.mode = startMode y := by rw [started_dose, mode]
  have sameDuty : (started y).dose.duty = startDuty y := by rw [started_dose, duty]
  have odorant : (started y).odorant = y.odorant := by simp [State.odorant]
  have account (auto : startMode y = .auto) : (started y).dose.account = y.dose.account := by
    rw [started_dose, (startDosing_keeps y).2.2.1, if_pos auto]
  unfold StartsDosing
  dsimp only
  rw [sameMode, sameDuty, odorant, started_pump]
  refine ⟨?duty, ?notManual, fun off => ?off, fun auto unready => ?fault, fun auto ready short => ?short,
    fun auto ready owed => ?owed, fun auto enabled => ?notice⟩
  case duty =>
    rw [startDuty_eq]
    simp only [State.pumpIsFitted, started_settings]
    rfl
  case notManual =>
    unfold startMode
    split <;> decide
  case off =>
    rw [started_dose, startDosing_off off]
    exact ⟨rfl, idle⟩
  case fault =>
    rw [started_dose, startDosing_fault auto unready]
    exact ⟨rfl, idle⟩
  case short =>
    rw [account auto] at short
    rw [started_dose, startDosing_short auto ready short]
    exact ⟨rfl, idle⟩
  case owed =>
    rw [account auto] at owed
    obtain ⟨dose, places⟩ := startDosing_owed auto ready owed
    have due : strokeDue (started y) = strokeDue (readied y) :=
      strokeDue_congr (by rw [started_dose, dose]) (by rw [started_dose, dose]) (by simp [readied]) (by simp [readied])
    rw [started_dose, started_table, dose, places, table, due]
    exact ⟨rfl, rfl, rfl⟩
  case notice =>
    refine given_started (by decide) (raiseRuns_pending ?_)
    rw [startDosing_auto auto]
    refine pending_raise ?_
    rw [schedulingCheck_settings]
    rwa [started_settings] at enabled

end

end Sys2Proof.Proofs.Starting
end

section
/-! PROOFS. POWER_ON: what it takes up from the store, and the resumed period closed (R18, R37, R100, R148, R149, R163, R175). -/

namespace Sys2Proof.Proofs.PowerOns

open Sys2Proof Sys2Proof.Machine Sys2Proof.Proofs.Basics Sys2Proof.Proofs.Raised Sys2Proof.Proofs.Dosing
  Sys2Proof.Proofs.Accruals Sys2Proof.Proofs.Records Sys2Proof.Proofs.Powers Sys2Proof.Proofs.Starting

/-! ## A stored copy taken up -/

section

variable {α : Type} {x : Stored α} {factory c : α}

theorem loaded_of_valid (h : x = .valid c) : loaded x factory = c ∧ notValid x = false := by
  subst h
  exact ⟨rfl, rfl⟩

theorem loaded_of_invalid (h : ∀ c, x ≠ .valid c) : loaded x factory = factory ∧ notValid x = true := by
  cases x with
  | valid c => exact absurd rfl (h c)
  | _ => exact ⟨rfl, rfl⟩

end

section

variable {s : State} {r : ResumeRecord} {st : Store} {after : Nat}

theorem resumeOf_valid (h : st.resume = .valid r) : resumeOf st = some r := by
  rw [resumeOf, h]

theorem resumeOf_invalid (h : ∀ r, st.resume ≠ .valid r) : resumeOf st = none := by
  unfold resumeOf
  split
  · rename_i r valid
    exact absurd valid (h r)
  · rfl

/-! ## The blocks loaded -/

/-- The part with its blocks loaded and the first period opened, before the dose controller's start. -/
def loadedPart (s : State) : State := forgoExcess (openFirstPeriod (loadBlocks s))

/-- The part with its supply present. -/
def supplied (s : State) : State := { s with pins := { s.pins with supply := true } }

theorem exec_powerOn_high (off : s.time.phase = .off) (high : s.pins.pfwHigh = true) :
    exec (.powerOn after) s = .next (started (loadedPart (supplied s))) := by
  have ready : startWhenReady (supplied s) = startPower (supplied s) := if_pos ⟨off, rfl, high⟩
  rw [exec_powerOn_off (elapse_of_off off) off]
  exact congrArg (fun x => (.next (finish x) : Result)) ready

theorem loadedPart_dose (s : State) : (loadedPart s).dose = { (loadBlocks s).dose with
    mode := startMode (loadBlocks s)
    account := min (loadBlocks s).dose.account (loadBlocks s).odorant.cap } := rfl

theorem loadedPart_recorder (s : State) : (loadedPart s).recorder =
    { openPeriod (startMode (loadBlocks s)) (loadBlocks s).dose.account (loadBlocks s).recorder with
      station := { openStation (noModes.mark (startMode (loadBlocks s))) (loadBlocks s).dose.account with
        forgone := (loadBlocks s).dose.account - (loadBlocks s).odorant.cap } } := by
  have opened : (openFirstPeriod (loadBlocks s)).recorder =
      openPeriod (startMode (loadBlocks s)) (loadBlocks s).dose.account (loadBlocks s).recorder := rfl
  have station : (openPeriod (startMode (loadBlocks s)) (loadBlocks s).dose.account (loadBlocks s).recorder).station =
      openStation (noModes.mark (startMode (loadBlocks s))) (loadBlocks s).dose.account := rfl
  have cap : (openFirstPeriod (loadBlocks s)).odorant = (loadBlocks s).odorant := rfl
  rw [loadedPart, forgoExcess_recorder, opened, station, cap]
  simp [openStation, openFirstPeriod]

theorem startMode_loadedPart (s : State) : startMode (loadedPart s) = startMode (loadBlocks s) := rfl

/-! ## What power-on leaves whatever the resume record -/

theorem mark_mark (modes : ModeFlags) (m : DosingMode) : (modes.mark m).mark m = modes.mark m := by
  cases m <;> rfl

/-- The accumulators of the first period, and the account that the start leaves. -/
theorem started_station (s : State) : (started (loadedPart s)).recorder.station =
    { openStation (noModes.mark (started (loadedPart s)).dose.mode) (loadBlocks s).dose.account with
      forgone := (loadBlocks s).dose.account - (started (loadedPart s)).dose.account } := by
  have mode := (startDosing_keeps (loadedPart s)).1
  have account := (startDosing_keeps (loadedPart s)).2.2.1
  have within : (startDosing (loadedPart s)).dose.account ≤ min (loadBlocks s).dose.account (loadBlocks s).odorant.cap := by
    rw [account]
    split
    · exact Nat.le_refl _
    · exact Nat.zero_le _
  have forgone : (loadBlocks s).dose.account - (loadBlocks s).odorant.cap
      + (min (loadBlocks s).dose.account (loadBlocks s).odorant.cap - (startDosing (loadedPart s)).dose.account)
      = (loadBlocks s).dose.account - (startDosing (loadedPart s)).dose.account := by omega
  rw [started_recorder, started_dose, startDosing_recorder, loadedPart_recorder, mode, startMode_loadedPart]
  simp only [loadedPart_dose, openStation, mark_mark]
  rw [← forgone]

/-! ## The resumed period (R18, R148) -/

/-- The stored ring, or no record where it is not valid. -/
def storedRing (st : Store) : List PeriodRecord :=
  match st.ring with
  | .valid ring => ring
  | _ => []

/-- The stored ring with the resume record's own records put before it. -/
def joinedRing (st : Store) (r : ResumeRecord) : List PeriodRecord :=
  ((r.unstored.filter fun y => !(storedRing st).any fun z => z.sequence == y.sequence) ++ storedRing st).take 48

/-- The stored ring is valid and joins the resume record's without a gap (R148). -/
def Joins (st : Store) (r : ResumeRecord) : Prop :=
  st.ring ≠ .absent ∧ st.ring ≠ .failing ∧ consecutive (joinedRing st r) = true
    ∧ (joinedRing st r).head?.map (·.sequence) = r.lastSequence

theorem loadRing_joined (h : st.resume = .valid r) (joins : Joins st r) :
    loadRing st.ring st.resume = ⟨joinedRing st r, r.lastSequence, (storedRing st).head?.map (·.sequence)⟩ := by
  obtain ⟨present, good, gapless, last⟩ := joins
  cases ring : st.ring with
  | absent => exact absurd ring present
  | failing => exact absurd ring good
  | valid records =>
    have stored : storedRing st = records := by rw [storedRing, ring]
    unfold joinedRing at gapless last ⊢
    rw [stored] at gapless last ⊢
    have stands : mergeStands ((mergedRing records r.unstored).take ringSize) r.lastSequence = true := by
      simp only [mergeStands, Bool.and_eq_true, beq_iff_eq]
      exact ⟨gapless, last⟩
    rw [h]
    unfold loadRing
    dsimp only
    rw [if_pos stands]
    rfl

theorem loadRing_apart (h : st.resume = .valid r) (apart : ¬ Joins st r) :
    loadRing st.ring st.resume = ⟨r.unstored.take 48, r.lastSequence, none⟩ := by
  rw [h]
  cases ring : st.ring with
  | absent => rfl
  | failing => rfl
  | valid records =>
    have stored : storedRing st = records := by rw [storedRing, ring]
    have gap : ¬ mergeStands ((mergedRing records r.unstored).take ringSize) r.lastSequence = true := by
      intro stands
      simp only [mergeStands, Bool.and_eq_true, beq_iff_eq] at stands
      refine apart ⟨by simp [ring], by simp [ring], ?_⟩
      unfold joinedRing
      rw [stored]
      exact stands
    unfold loadRing
    dsimp only
    rw [if_neg gap]
    rfl

theorem loadRing_last (h : st.resume = .valid r) : (loadRing st.ring st.resume).last = r.lastSequence := by
  by_cases joins : Joins st r
  · rw [loadRing_joined h joins]
  · rw [loadRing_apart h joins]

theorem loadRecorder_resumed (h : st.resume = .valid r) : loadRecorder st = { freshRecorder with
    ring := (loadRing st.ring st.resume).ring, lastSequence := r.lastSequence
    storedThrough := (loadRing st.ring st.resume).storedThrough
    runs := r.runs, station := r.station, lastIndex := r.lastIndex, totals := r.totals } := by
  unfold loadRecorder
  dsimp only
  rw [resumeOf_valid h, loadRing_last h]

/-- The record of the resumed period. -/
def resumedRecord (r : ResumeRecord) (st : Store) : PeriodRecord := powerRecord r (loadRecorder st)

theorem closeResumed_eq (h : st.resume = .valid r) : closeResumed st = { loadRecorder st with
    ring := (resumedRecord r st :: (loadRing st.ring st.resume).ring).take 48
    lastSequence := some (resumedRecord r st).sequence } := by
  unfold closeResumed
  rw [resumeOf_valid h]
  show placeRecord (resumedRecord r st) (loadRecorder st) = _
  rw [loadRecorder_resumed h]
  rfl

theorem resumedRecord_figures (h : st.resume = .valid r) : (resumedRecord r st).cause = .power
    ∧ (resumedRecord r st).intervals = r.intervalCount ∧ (resumedRecord r st).duration = r.elapsed
    ∧ (resumedRecord r st).lastIndex = r.lastIndex ∧ (resumedRecord r st).station = r.station
    ∧ (resumedRecord r st).accountClose = r.account ∧ (resumedRecord r st).trim = r.trim
    ∧ (resumedRecord r st).sequence = nextSequence r.lastSequence
    ∧ (resumedRecord r st).runs.length = min r.buildRuns 4
    ∧ (∀ i : RunId, i.val < r.buildRuns → HoldsRun (resumedRecord r st) i (r.runStates.get i) (r.runs.get i)) := by
  unfold resumedRecord
  rw [loadRecorder_resumed h]
  exact ⟨rfl, rfl, rfl, rfl, rfl, rfl, rfl, rfl, buildRecord_length, fun i within => buildRecord_holds within⟩

/-! ## The part with a resumed period -/

theorem openedAccumulators_eq (kept : Bool) (a : RunAccumulators) :
    (if kept = true then a else freshRunAccumulators).reopened = openedAccumulators kept a := by
  cases kept <;> rfl

theorem keepFitted_reopened (before after : Nat) (runs : Four RunAccumulators) (i : RunId) :
    ((keepFitted before after runs).map RunAccumulators.reopened).get i =
      openedAccumulators (decide (i.val < after) && decide (i.val < before)) (runs.get i) := by
  rw [← openedAccumulators_eq]
  simp [keepFitted, and_comm]

/-- The recorder of the first period (R135, R148). -/
theorem started_recorderOf (s : State) : (started (loadedPart s)).recorder =
    { closeResumed s.store with
      runs := (loadBlocks s).recorder.runs.map RunAccumulators.reopened
      station := (started (loadedPart s)).recorder.station, lastIndex := 0 } := by
  rw [started_recorder, startDosing_recorder, loadedPart_recorder]
  rfl

theorem loadBlocks_account (h : s.store.resume = .valid r) : (loadBlocks s).dose = { freshDose with
    account := r.account, residue := r.owedResidue, trim := r.trim, duty := r.duty
    lastDrive := r.driveAge.map fun a => 0 - ms a, recentDrive := r.driveAge.isSome } := by
  show loadDose s.store _ = _
  unfold loadDose
  rw [resumeOf_valid h]

theorem startedRun_eq (settle : Nat) : startedRun settle = { freshRun with
    state := if settle = 0 then .degraded else .starting, settle := settle } := by
  unfold startedRun
  split
  · rename_i zero
    rw [zero]
    rfl
  · rfl

theorem loadRun_resumed (h : st.resume = .valid r) (g : Settings) (i : RunId) : loadRun st g i =
    if i.val < g.build.runs ∧ i.val < r.buildRuns ∧ r.runStates.get i ≠ .out ∧ g.defaulted.run.get i = false then
      { freshRun with
        state := if (g.active.run.get i).settleTime = 0 then .degraded else .starting
        settle := (g.active.run.get i).settleTime }
    else freshRun := by
  unfold loadRun
  rw [resumeOf_valid h, ← startedRun_eq]

theorem loadPump_resumed (h : st.resume = .valid r) (pumps : Nat) (p : Side) : loadPump st pumps p =
    freshPump (if pumpFitted pumps p = false then .absent
      else if pumpFitted r.buildPumps p = true ∧ r.pumpFailed.get p = true then .failed else .ready) := by
  unfold loadPump
  rw [resumeOf_valid h]
  cases pumpFitted pumps p
  · rfl
  · simp [Bool.and_eq_true]

theorem loadBlocks_pump (s : State) (p : Side) : (loadBlocks s).pump.get p =
    loadPump s.store (loadSettings s.store).build.pumps p := by
  cases p <;> rfl

/-- RESUME is written and RING stays listed once a part with a resumed period has started. -/
theorem started_store_resumed (h : s.store.resume = .valid r) :
    WriteStarted .resume (started (loadedPart s)) (started (loadedPart s))
      ∧ (started (loadedPart s)).store.list.ring = true := by
  have store : (startScan (announceRuns (startDosing (loadedPart s)))).store =
      { s.store with list := listResumed s.store, writing := none, warningResume := false } := by
    simp [loadedPart, openFirstPeriod, loadBlocks]
  have list : listResumed s.store = { emptyWriteList with resume := true, ring := true } := by
    unfold listResumed
    rw [resumeOf_valid h]
    rfl
  have live : (startScan (announceRuns (startDosing (loadedPart s)))).live = true := by
    have phase : (loadedPart s).time.phase = .warmup := rfl
    simp [State.live, phase]
  have added := resumeAdded_finish (startScan (announceRuns (startDosing (loadedPart s)))) _ live
    (by rw [store, list]) rfl
  exact ⟨(added.1 (by rw [store])).2, ring_listed_finish _ (by rw [store, list]) (by rw [store, list])⟩

/-! ## POWER_ON with a valid resume record -/

theorem powerOn_joined (h : s.store.resume = .valid r) (joins : Joins s.store r) :
    (started (loadedPart s)).recorder.ring = (resumedRecord r s.store :: joinedRing s.store r).take 48
      ∧ (started (loadedPart s)).recorder.storedThrough = (storedRing s.store).head?.map (·.sequence) := by
  rw [started_recorderOf, closeResumed_eq h, loadRecorder_resumed h, loadRing_joined h joins]
  exact ⟨rfl, rfl⟩

theorem powerOn_apart (h : s.store.resume = .valid r) (apart : ¬ Joins s.store r) :
    (started (loadedPart s)).recorder.ring = (resumedRecord r s.store :: r.unstored.take 48).take 48
      ∧ (started (loadedPart s)).recorder.storedThrough = none := by
  rw [started_recorderOf, closeResumed_eq h, loadRecorder_resumed h, loadRing_apart h apart]
  exact ⟨rfl, rfl⟩

theorem powerOn_books (h : s.store.resume = .valid r) :
    (started (loadedPart s)).recorder.lastSequence = some (resumedRecord r s.store).sequence
      ∧ (started (loadedPart s)).recorder.totals = r.totals := by
  rw [started_recorderOf, closeResumed_eq h, loadRecorder_resumed h]
  exact ⟨rfl, rfl⟩

theorem powerOn_runs (h : s.store.resume = .valid r) (i : RunId) : (started (loadedPart s)).recorder.runs.get i =
    openedAccumulators ((started (loadedPart s)).fitted i && decide (i.val < r.buildRuns)) (r.runs.get i) := by
  have runs : (loadBlocks s).recorder.runs = keepFitted r.buildRuns (loadSettings s.store).build.runs r.runs := by
    show keepFitted _ _ (closeResumed s.store).runs = _
    rw [closeResumed_eq h, loadRecorder_resumed h, resumeOf_valid h]
    rfl
  have fitted : (started (loadedPart s)).fitted i = decide (i.val < (loadSettings s.store).build.runs) := by
    rw [State.fitted, started_settings]
    rfl
  rw [started_recorderOf, fitted]
  dsimp only
  rw [runs, keepFitted_reopened]

theorem powerOn_residue (h : s.store.resume = .valid r) (i : RunId) : (started (loadedPart s)).conv.residue.get i =
    if (started (loadedPart s)).fitted i = true then r.residues.get i else 0 := by
  have residues : (loadResidues s.store (loadSettings s.store)).get i =
      if i.val < (loadSettings s.store).build.runs then r.residues.get i else 0 := by
    simp [loadResidues, resumeOf_valid h]
  rw [started_conv, State.fitted, started_settings]
  refine residues.trans ?_
  show _ = if decide (i.val < (loadSettings s.store).build.runs) = true then _ else _
  simp only [decide_eq_true_iff]

theorem powerOn_run (h : s.store.resume = .valid r) (i : RunId) : (started (loadedPart s)).run.get i =
    if (started (loadedPart s)).fitted i = true ∧ i.val < r.buildRuns ∧ r.runStates.get i ≠ .out
        ∧ (started (loadedPart s)).settings.defaulted.run.get i = false then
      { freshRun with
        state := if ((started (loadedPart s)).runSection i).settleTime = 0 then .degraded else .starting
        settle := ((started (loadedPart s)).runSection i).settleTime }
    else freshRun := by
  have run : (loadedPart s).run.get i = loadRun s.store (loadSettings s.store) i := Four.get_tabulate _ i
  rw [started_run, run, loadRun_resumed h, State.fitted, State.runSection, started_settings]
  simp only [decide_eq_true_iff]
  rfl

theorem powerOn_pump (h : s.store.resume = .valid r) (p : Side) : (started (loadedPart s)).pump.get p = freshPump
    (if (started (loadedPart s)).pumpIsFitted p = false then .absent
      else if pumpFitted r.buildPumps p = true ∧ r.pumpFailed.get p = true then .failed else .ready) := by
  rw [started_pump, State.pumpIsFitted, started_settings]
  exact (loadBlocks_pump s p).trans (loadPump_resumed h _ p)

/-- The doses' figures taken up from the resume record (R100). -/
theorem powerOn_doses (h : s.store.resume = .valid r) : (started (loadedPart s)).dose.trim = r.trim
    ∧ (started (loadedPart s)).dose.residue = r.owedResidue
    ∧ (started (loadedPart s)).dose.account =
        (if (started (loadedPart s)).dose.mode = .auto then min r.account (started (loadedPart s)).odorant.cap else 0)
    ∧ StartsDosing r.duty (started (loadedPart s))
    ∧ (started (loadedPart s)).dose.recentDrive = r.driveAge.isSome
    ∧ (started (loadedPart s)).dose.lastDrive = r.driveAge.map (fun a => 0 - BitVec.ofNat 32 a) := by
  have dose : (loadedPart s).dose = _ := (loadedPart_dose s).trans (by rw [loadBlocks_account h])
  obtain ⟨mode, -, account, residue, trim, -, -, last, recent⟩ := startDosing_keeps (loadedPart s)
  have cap : (started (loadedPart s)).odorant.cap = (loadBlocks s).odorant.cap := by
    rw [State.odorant, started_settings]
    rfl
  have starts := startsDosing_started (y := loadedPart s) rfl (by rw [dose]; rfl)
  rw [show (loadedPart s).dose.duty = r.duty by rw [dose]] at starts
  rw [started_dose, residue, trim, last, recent, account, mode, cap, dose]
  exact ⟨rfl, rfl, rfl, starts, rfl, rfl⟩

/-! ## POWER_ON without a valid resume record -/

theorem loadRing_fresh_valid (h : ∀ r, st.resume ≠ .valid r) {ring : List PeriodRecord} (hr : st.ring = .valid ring) :
    loadRing st.ring st.resume = ⟨ring.take 48, ring.head?.map (·.sequence), ring.head?.map (·.sequence)⟩ := by
  rw [hr]
  cases resume : st.resume with
  | valid r => exact absurd resume (h r)
  | absent => rfl
  | failing => rfl

theorem loadRing_fresh_none (h : ∀ r, st.resume ≠ .valid r) (hr : ∀ ring, st.ring ≠ .valid ring) :
    loadRing st.ring st.resume = ⟨[], none, none⟩ := by
  cases resume : st.resume with
  | valid r => exact absurd resume (h r)
  | _ =>
    cases ring : st.ring with
    | valid records => exact absurd ring (hr records)
    | _ => rfl

theorem closeResumed_fresh (h : ∀ r, st.resume ≠ .valid r) : closeResumed st = { freshRecorder with
    ring := (loadRing st.ring st.resume).ring, lastSequence := (loadRing st.ring st.resume).last
    storedThrough := (loadRing st.ring st.resume).storedThrough } := by
  unfold closeResumed loadRecorder
  dsimp only
  rw [resumeOf_invalid h]

theorem loadBlocks_dose_fresh (h : ∀ r, s.store.resume ≠ .valid r) :
    (loadBlocks s).dose = { freshDose with duty := (loadSettings s.store).active.odorant.preferred } := by
  show loadDose s.store _ = _
  unfold loadDose
  rw [resumeOf_invalid h]

theorem powerOn_ring_fresh (h : ∀ r, s.store.resume ≠ .valid r) :
    (∀ ring, s.store.ring = .valid ring →
        (started (loadedPart s)).recorder.ring = ring.take 48
          ∧ (started (loadedPart s)).recorder.lastSequence = ring.head?.map (·.sequence)
          ∧ (started (loadedPart s)).recorder.storedThrough = ring.head?.map (·.sequence))
      ∧ ((∀ ring, s.store.ring ≠ .valid ring) →
          (started (loadedPart s)).recorder.ring = [] ∧ (started (loadedPart s)).recorder.lastSequence = none
            ∧ (started (loadedPart s)).recorder.storedThrough = none) := by
  rw [started_recorderOf, closeResumed_fresh h]
  refine ⟨fun ring valid => ?_, fun invalid => ?_⟩
  · rw [loadRing_fresh_valid h valid]
    exact ⟨rfl, rfl, rfl⟩
  · rw [loadRing_fresh_none h invalid]
    exact ⟨rfl, rfl, rfl⟩

theorem powerOn_figures_fresh (h : ∀ r, s.store.resume ≠ .valid r) :
    (started (loadedPart s)).recorder.totals = .all ⟨0, 0, 0, 0, 0, 0⟩
      ∧ (started (loadedPart s)).recorder.runs = .all freshRunAccumulators
      ∧ (started (loadedPart s)).recorder.station = openStation (noModes.mark (started (loadedPart s)).dose.mode) 0 := by
  have account : (loadBlocks s).dose.account = 0 := by rw [loadBlocks_dose_fresh h]; rfl
  have runs : (loadBlocks s).recorder.runs = keepFitted 0 (loadSettings s.store).build.runs freshRecorder.runs := by
    show keepFitted _ _ (closeResumed s.store).runs = _
    rw [closeResumed_fresh h, resumeOf_invalid h]
    rfl
  refine ⟨?_, ?_, ?_⟩
  · rw [started_recorderOf, closeResumed_fresh h]
    rfl
  · rw [started_recorderOf]
    dsimp only
    rw [runs]
    rfl
  · rw [started_station, account]
    simp [openStation]

theorem powerOn_blocks_fresh (h : ∀ r, s.store.resume ≠ .valid r) :
    (started (loadedPart s)).conv.residue = .all 0 ∧ (started (loadedPart s)).run = .all freshRun
      ∧ (∀ p : Side, (started (loadedPart s)).pump.get p =
          freshPump (if (started (loadedPart s)).pumpIsFitted p = true then .ready else .absent)) := by
  refine ⟨?_, ?_, fun p => ?_⟩
  · rw [started_conv]
    show loadResidues s.store _ = _
    unfold loadResidues
    rw [resumeOf_invalid h]
    rfl
  · rw [started_run]
    show Four.tabulate (loadRun s.store _) = _
    refine Four.ext_get _ _ fun i => ?_
    rw [Four.get_tabulate, Four.get_all, loadRun, resumeOf_invalid h]
  · rw [started_pump, State.pumpIsFitted, started_settings]
    refine (loadBlocks_pump s p).trans ?_
    show _ = freshPump (if pumpFitted (loadSettings s.store).build.pumps p = true then _ else _)
    rw [loadPump, resumeOf_invalid h]
    split <;> rfl

theorem powerOn_doses_fresh (h : ∀ r, s.store.resume ≠ .valid r) : (started (loadedPart s)).dose.account = 0
    ∧ (started (loadedPart s)).dose.residue = 0 ∧ (started (loadedPart s)).dose.trim = 10000
    ∧ (started (loadedPart s)).dose.recentDrive = false ∧ (started (loadedPart s)).dose.lastDrive = none
    ∧ StartsDosing (started (loadedPart s)).odorant.preferred (started (loadedPart s)) := by
  have dose : (loadedPart s).dose = _ := (loadedPart_dose s).trans (by rw [loadBlocks_dose_fresh h])
  obtain ⟨-, -, account, residue, trim, -, -, last, recent⟩ := startDosing_keeps (loadedPart s)
  have none : (loadedPart s).dose.account = 0 := by rw [dose]; exact Nat.zero_min _
  have preferred : (started (loadedPart s)).odorant.preferred = (loadedPart s).dose.duty := by
    rw [dose, State.odorant, started_settings]
    rfl
  have starts := startsDosing_started (y := loadedPart s) rfl (by rw [dose]; rfl)
  rw [preferred]
  rw [started_dose, residue, trim, last, recent, account, none, ite_self, dose]
  rw [dose] at starts
  exact ⟨rfl, rfl, rfl, rfl, rfl, starts⟩

theorem started_store_fresh (h : ∀ r, s.store.resume ≠ .valid r) :
    (started (loadedPart s)).store.list = emptyWriteList ∧ (started (loadedPart s)).store.writing = none := by
  have store : (startScan (announceRuns (startDosing (loadedPart s)))).store =
      { s.store with list := emptyWriteList, writing := none, warningResume := false } := by
    have list : listResumed s.store = emptyWriteList := by
      unfold listResumed
      rw [resumeOf_invalid h]
      rfl
    simp [loadedPart, openFirstPeriod, loadBlocks, list]
  rw [started_store, serveStore_idle (by rw [store]) (by rw [store]) (.inr (by rw [store]; rfl)), store]
  exact ⟨rfl, rfl⟩

/-! ## The settings taken up (R163, R171) -/

theorem loadSettings_station : (∀ c, st.sections.station = .valid c → (loadSettings st).active.station = c
      ∧ (loadSettings st).build = c.build ∧ (loadSettings st).defaulted.station = false)
    ∧ ((∀ c, st.sections.station ≠ .valid c) → (loadSettings st).active.station = factoryStation
      ∧ (loadSettings st).build = ⟨4, 2, .r19200⟩ ∧ (loadSettings st).defaulted.station = true) := by
  refine ⟨fun c valid => ?_, fun invalid => ?_⟩
  · obtain ⟨active, defaulted⟩ := loaded_of_valid (factory := factoryStation) valid
    refine ⟨active, ?_, defaulted⟩
    show storedBuild st = c.build
    rw [storedBuild, valid]
  · obtain ⟨active, defaulted⟩ := loaded_of_invalid (factory := factoryStation) invalid
    refine ⟨active, ?_, defaulted⟩
    show storedBuild st = factoryBuild
    unfold storedBuild
    split
    · rename_i c valid
      exact absurd valid (invalid c)
    · rfl

theorem loadSettings_run (i : RunId) : (∀ c, st.sections.run.get i = .valid c → (loadSettings st).active.run.get i = c
      ∧ (loadSettings st).defaulted.run.get i = false)
    ∧ ((∀ c, st.sections.run.get i ≠ .valid c) → (loadSettings st).active.run.get i = factoryRun
      ∧ (loadSettings st).defaulted.run.get i = true) := by
  have active : (loadSettings st).active.run.get i = loaded (st.sections.run.get i) factoryRun := Four.get_map _ _ i
  have defaulted : (loadSettings st).defaulted.run.get i = notValid (st.sections.run.get i) := Four.get_map _ _ i
  rw [active, defaulted]
  exact ⟨fun c valid => loaded_of_valid valid, fun invalid => loaded_of_invalid invalid⟩

theorem loadSettings_protection : (∀ f, st.flags = .valid f → (loadSettings st).protection = f)
    ∧ ((∀ f, st.flags ≠ .valid f) → (loadSettings st).protection = .all false) :=
  ⟨fun _ valid => (loaded_of_valid valid).1, fun invalid => (loaded_of_invalid invalid).1⟩

theorem loadDose_fresh (st : Store) (preferred : Side) :
    (loadDose st preferred).trimHoldOff = none ∧ (loadDose st preferred).lastReading = none := by
  unfold loadDose
  split <;> exact ⟨rfl, rfl⟩

theorem started_stored (s : State) : (started (loadedPart s)).store.sections = s.store.sections
    ∧ (started (loadedPart s)).store.flags = s.store.flags ∧ (started (loadedPart s)).store.ring = s.store.ring
    ∧ (started (loadedPart s)).store.resume = s.store.resume := by
  obtain ⟨sections, flags, ring, resume⟩ := finish_stored (startScan (announceRuns (startDosing (loadedPart s))))
  have store : (startScan (announceRuns (startDosing (loadedPart s)))).store = (loadBlocks s).store := by
    simp [loadedPart, openFirstPeriod]
  rw [store] at sections flags ring resume
  exact ⟨sections, flags, ring, resume⟩

theorem powerOn_heating : (∀ r, s.store.resume = .valid r → (loadSettings s.store).heatingValue = r.heatingValue)
    ∧ ((∀ r, s.store.resume ≠ .valid r) → (loadSettings s.store).heatingValue = 38000) := by
  refine ⟨fun r valid => ?_, fun invalid => ?_⟩
  · show ((resumeOf s.store).map (·.heatingValue)).getD factoryHeatingValue = _
    rw [resumeOf_valid valid]
    rfl
  · show ((resumeOf s.store).map (·.heatingValue)).getD factoryHeatingValue = _
    rw [resumeOf_invalid invalid]
    rfl

end

/-- Settles O4: the blocks loaded from the store (`loadedPart`), then the start (`started`). -/
theorem powerOnLoadsStore : Obligations.PowerOnLoadsStore := by
  unfold Obligations.PowerOnLoadsStore
  intro s after off high
  obtain ⟨sections, flags, ring, resume⟩ := started_stored (supplied s)
  obtain ⟨mode, -, -, -, -, holdOff, reading, -⟩ := startDosing_keeps (loadedPart (supplied s))
  have time : (started (loadedPart (supplied s))).time = warmupTime 0 := started_time
  have settings : (started (loadedPart (supplied s))).settings = loadSettings s.store := started_settings
  have dose := loadDose_fresh s.store (loadSettings s.store).active.odorant.preferred
  refine ⟨_, exec_powerOn_high off high, ?_⟩
  rw [State.now, State.odorant, time, settings]
  refine ⟨rfl, rfl, rfl, rfl, rfl, loadSettings_station.1, loadSettings_station.2, fun i => (loadSettings_run i).1,
    fun i => (loadSettings_run i).2, fun _ => loaded_of_valid, loaded_of_invalid, fun _ => loaded_of_valid,
    loaded_of_invalid, fun _ => loaded_of_valid, loaded_of_invalid, loadSettings_protection.1, loadSettings_protection.2,
    rfl, rfl, rfl, rfl, sections, flags, ring, resume, started_monitors, ?aux, started_queue rfl, started_sense,
    started_pulse, by rw [started_conv]; rfl, by rw [started_conv]; rfl, started_loop (y := loadedPart (supplied s)),
    fun i inService enabled => ?announced, ?mode, ?holdOff, ?reading, ?index, fun r valid => ?resumed, fun invalid => ?fresh⟩
  case aux => rw [started_table, startDosing_aux]; rfl
  case announced =>
    rw [started_run] at inService
    exact given_announced i inService enabled
  case mode =>
    rw [started_dose, mode]
    exact startMode_iff _
  case holdOff =>
    rw [started_dose, holdOff]
    exact dose.1
  case reading =>
    rw [started_dose, reading]
    exact dose.2
  case index => rw [started_recorderOf]
  case resumed =>
    obtain ⟨cause, intervals, duration, lastIndex, station, account, trim, sequence, length, holds⟩ :=
      resumedRecord_figures valid
    obtain ⟨last, totals⟩ := powerOn_books (s := supplied s) valid
    obtain ⟨sameTrim, residue, kept, starts, recent, drive⟩ := powerOn_doses (s := supplied s) valid
    obtain ⟨written, listed⟩ := started_store_resumed (s := supplied s) valid
    have opened := started_station (supplied s)
    rw [show (loadBlocks (supplied s)).dose.account = r.account by
      rw [loadBlocks_account (s := supplied s) valid]] at opened
    have run := powerOn_run (s := supplied s) valid
    rw [settings] at run
    rw [State.odorant, settings] at kept
    refine ⟨resumedRecord r s.store, ?ring, cause, intervals, duration, lastIndex, station, account, trim, sequence, length,
      holds, last, totals, powerOn_heating.1 r valid, powerOn_runs (s := supplied s) valid, opened,
      powerOn_residue (s := supplied s) valid, run, powerOn_pump (s := supplied s) valid, sameTrim, residue, kept, starts,
      recent, drive, written, listed⟩
    by_cases joins : Joins s.store r
    · exact (if_pos joins).mpr (powerOn_joined (s := supplied s) valid joins)
    · exact (if_neg joins).mpr (powerOn_apart (s := supplied s) valid joins)
  case fresh =>
    obtain ⟨valid, none⟩ := powerOn_ring_fresh (s := supplied s) invalid
    obtain ⟨totals, runs, station⟩ := powerOn_figures_fresh (s := supplied s) invalid
    obtain ⟨residue, run, pump⟩ := powerOn_blocks_fresh (s := supplied s) invalid
    obtain ⟨account, owed, trim, recent, last, starts⟩ := powerOn_doses_fresh (s := supplied s) invalid
    obtain ⟨list, writing⟩ := started_store_fresh (s := supplied s) invalid
    rw [State.odorant, settings] at starts
    exact ⟨valid, none, totals, runs, station, powerOn_heating.2 invalid, residue, run, pump, account, owed, trim, recent,
      last, starts, list, writing⟩

end Sys2Proof.Proofs.PowerOns
end

section
/-! PROOFS. RESTART and the restart it begins: the final close, the RESTART close, what is reset, kept and read (R15, R16, R176). -/

namespace Sys2Proof.Proofs.Restarts

open Sys2Proof Sys2Proof.Machine Sys2Proof.Proofs.Arms Sys2Proof.Proofs.Basics Sys2Proof.Proofs.Orders
  Sys2Proof.Proofs.Requests Sys2Proof.Proofs.Raised Sys2Proof.Proofs.Dosing Sys2Proof.Proofs.Strokes
  Sys2Proof.Proofs.Events Sys2Proof.Proofs.Accruals Sys2Proof.Proofs.Intervals Sys2Proof.Proofs.Records
  Sys2Proof.Proofs.Boundaries Sys2Proof.Proofs.Taken Sys2Proof.Proofs.Entries Sys2Proof.Proofs.Closings
  Sys2Proof.Proofs.Ended Sys2Proof.Proofs.Applied Sys2Proof.Proofs.Forced Sys2Proof.Proofs.Powers
  Sys2Proof.Proofs.Starting Sys2Proof.Proofs.PowerOns

/-- RESTART is answered, and its restart waits for the reply to be sent. -/
theorem restart_answered {s u : State} {after : Nat} {tag : Byte} (hu : s.elapse after = u) (takes : u.takes = true) :
    exec (.restart after tag []) s = .next
      (answered { kind := 0xAF#8, tag := tag, payload := [0x00#8] }
        { u with time := { u.time with restartPending := true } }) := by
  obtain ⟨running, -⟩ := takes_iff.mp takes
  refine exec_done (kind := 0x2F#8) (payload := []) (d := []) rfl rfl hu takes ?_
  show handleRestart [] (dropFrame u) = _
  unfold handleRestart
  rw [unlessWarming_running _ (dropFrame u) running, withLength_ok 0 [] _ _ rfl]
  rfl

/-! ## The final close (R15, R119) -/

section

variable {s u : State} {r : RunId} {after : Nat}

/-- The part with its strokes in flight given up. -/
def abandoned (u : State) : State := { u with
  pump := u.pump.map restartedPump
  recorder := { u.recorder with station := { u.recorder.station with
    abandoned := u.recorder.station.abandoned || u.pump.a.strokeInFlight || u.pump.b.strokeInFlight } } }

theorem abandonStrokes_eq (u : State) : abandonStrokes u = abandoned u := by
  unfold abandonStrokes
  rw [markAbandoned_eq]
  rfl

/-- An interval of 1 ms or more is in progress, which the restart closes first. -/
abbrev Closing (u : State) : Prop := u.time.phase = .running ∧ u.age ≠ 0

/-- The part once the interval in progress has closed, where one is. -/
def finalPart (u : State) : State := finalClose (abandoned u)

theorem finalPart_closing (h : Closing u) : finalPart u = countInterval (closeInterval (abandoned u)) := if_pos h

theorem finalPart_still (h : ¬ Closing u) : finalPart u = abandoned u := if_neg h

theorem finalPart_keeps (u : State) : (finalPart u).settings = u.settings ∧ (finalPart u).store = u.store
    ∧ (finalPart u).sense = u.sense ∧ (finalPart u).pins = u.pins ∧ (finalPart u).pending = u.pending
    ∧ (finalPart u).pump = u.pump.map restartedPump
    ∧ (finalPart u).time = { u.time with periodCount := u.time.periodCount + if Closing u then 1 else 0 } := by
  by_cases h : Closing u
  · rw [finalPart_closing h, if_pos h]
    simp [abandoned, countInterval]
  · rw [finalPart_still h, if_neg h]
    exact ⟨rfl, rfl, rfl, rfl, rfl, rfl, rfl⟩

theorem finalPart_run (u : State) (r : RunId) : ((finalPart u).run.get r).state = (u.run.get r).state := by
  by_cases h : Closing u
  · rw [finalPart_closing h, countInterval_run, closeInterval_run, Four.get_tabulate]
    exact (closeControl_keeps (abandoned u) r).1
  · rw [finalPart_still h]
    rfl

theorem closePulse_holdOff (u : State) (r : RunId) : (closePulse u r).holdOff = (u.pulse.get r).holdOff := by
  by_cases fitted : u.fitted r = true
  · exact (Noticed.judgedPulse_figures fitted).2.2.2.1
  · rw [closePulse, if_neg fitted]

theorem finalPart_holdOff (u : State) (r : RunId) : ((finalPart u).pulse.get r).holdOff = (u.pulse.get r).holdOff := by
  by_cases h : Closing u
  · rw [finalPart_closing h, countInterval_pulse, closeInterval_pulse, Four.get_tabulate]
    exact closePulse_holdOff (abandoned u) r
  · rw [finalPart_still h]
    rfl

/-- A run adds an interval's figures at the final close. -/
abbrev Adds (u : State) (r : RunId) : Prop := Closing u ∧ Computed u r

/-- The accumulators of a run as the RESTART close finds them. -/
def gatheredFinal (u : State) (r : RunId) : RunAccumulators :=
  if Adds u r then
    accumulatorsWith (entryOf (figuresOf u r)) (resultsOf (figuresOf u r)) (u.recorder.runs.get r)
  else u.recorder.runs.get r

theorem finalPart_runs (u : State) (r : RunId) : (finalPart u).recorder.runs.get r = gatheredFinal u r := by
  unfold gatheredFinal
  by_cases h : Closing u
  · rw [finalPart_closing h]
    show (closeInterval (abandoned u)).recorder.runs.get r = _
    rw [closeInterval_recorder]
    show gathered (abandoned u) r = _
    by_cases computed : Computed u r
    · rw [if_pos ⟨h, computed⟩]
      exact gathered_computed (u := abandoned u) computed
    · rw [if_neg fun adds => computed adds.2]
      exact gathered_uncomputed (u := abandoned u) computed
  · rw [finalPart_still h, if_neg fun adds => h adds.1]
    rfl

theorem finalPart_totals (u : State) (r : RunId) : (finalPart u).recorder.totals.get r =
    if Adds u r then totalsWith (resultsOf (figuresOf u r)) (u.recorder.totals.get r)
    else u.recorder.totals.get r := by
  by_cases h : Closing u
  · rw [finalPart_closing h]
    show (closeInterval (abandoned u)).recorder.totals.get r = _
    rw [closeInterval_recorder]
    show (closeRecorder (abandoned u)).totals.get r = _
    by_cases computed : Computed u r
    · rw [if_pos ⟨h, computed⟩]
      exact totals_computed (u := abandoned u) computed
    · rw [if_neg fun adds => computed adds.2]
      exact totals_uncomputed (u := abandoned u) computed
  · rw [finalPart_still h, if_neg fun adds => h adds.1]
    rfl

theorem finalPart_residue (u : State) (r : RunId) : (finalPart u).conv.residue.get r =
    if Adds u r then (figuresOf u r).residue else u.conv.residue.get r := by
  by_cases h : Closing u
  · rw [finalPart_closing h, countInterval_conv, closeInterval_conv]
    by_cases computed : Computed u r
    · rw [if_pos ⟨h, computed⟩]
      exact (conversion_computed (u := abandoned u) computed).2
    · rw [if_neg fun adds => computed adds.2]
      exact (conversion_uncomputed (u := abandoned u) computed).1
  · rw [finalPart_still h, if_neg fun adds => h adds.1]
    rfl

/-- The account that the final close leaves, which the record holds. -/
def finalAccount (u : State) : Nat := if Closing u then keptAccount u else u.dose.account

theorem checked_dose (v : State) : (checked v).dose = { (accrued v).dose with
    state := (checked v).dose.state, massInFlight := (checked v).dose.massInFlight } := by
  unfold checked
  split
  · exact schedulingCheck_dose _
  · rfl

theorem finalPart_dose (u : State) : (finalPart u).dose = { u.dose with
    state := (finalPart u).dose.state, massInFlight := (finalPart u).dose.massInFlight
    account := finalAccount u
    residue := if Closing u then owedDividend (sumFigures (·.base) u) u % 1000000000 else u.dose.residue } := by
  unfold finalAccount
  by_cases h : Closing u
  · rw [finalPart_closing h, countInterval_dose, (closeInterval_doses (v := abandoned u)).1, if_pos h, if_pos h]
    exact checked_dose (abandoned u)
  · rw [finalPart_still h, if_neg h, if_neg h]
    rfl

theorem finalPart_station (u : State) : (finalPart u).recorder.station =
    if Closing u then { u.recorder.station with
      owed := u.recorder.station.owed + owedMass u
      forgone := u.recorder.station.forgone + (u.dose.account + owedMass u - keptAccount u)
      abandoned := u.recorder.station.abandoned || u.pump.a.strokeInFlight || u.pump.b.strokeInFlight }
    else { u.recorder.station with
      abandoned := u.recorder.station.abandoned || u.pump.a.strokeInFlight || u.pump.b.strokeInFlight } := by
  by_cases h : Closing u
  · rw [finalPart_closing h, if_pos h]
    show (closeInterval (abandoned u)).recorder.station = _
    rw [closeInterval_recorder]
    rfl
  · rw [finalPart_still h, if_neg h]
    rfl

/-- The ring and its numbers before the record, and the index of the last interval counted. -/
theorem finalPart_books (u : State) : (finalPart u).recorder.ring = u.recorder.ring
    ∧ (finalPart u).recorder.lastSequence = u.recorder.lastSequence
    ∧ (finalPart u).recorder.storedThrough = u.recorder.storedThrough
    ∧ (finalPart u).recorder.lastIndex = (if Closing u then u.time.intervalIndex else u.recorder.lastIndex) := by
  by_cases h : Closing u
  · have index : (finalPart u).recorder.lastIndex = (closeInterval (abandoned u)).time.intervalIndex := by
      rw [finalPart_closing h]
      rfl
    have rest {α : Type} (f : Recorder → α) (hf : ∀ x n, f { x with lastIndex := n } = f x) :
        f (finalPart u).recorder = f (closeInterval (abandoned u)).recorder := by
      rw [finalPart_closing h]
      exact hf _ _
    rw [index, if_pos h, closeInterval_time, rest (·.ring) fun _ _ => rfl, rest (·.lastSequence) fun _ _ => rfl,
      rest (·.storedThrough) fun _ _ => rfl, closeInterval_recorder]
    exact ⟨rfl, rfl, rfl, rfl⟩
  · rw [finalPart_still h, if_neg h]
    exact ⟨rfl, rfl, rfl, rfl⟩

theorem finalPart_lock (u : State) : (finalPart u).monitors.limitLock = u.monitors.limitLock := by
  by_cases h : Closing u
  · rw [finalPart_closing h, countInterval_monitors]
    exact Sections.closeInterval_lock (abandoned u)
  · rw [finalPart_still h]
    rfl

/-! ## The RESTART close, and what is reset (R16, R176) -/

/-- The record of the period that the restart ends. -/
def finalRecord (u : State) : PeriodRecord := closeRecord .restart (finalPart u)

/-- The part as it enters WARMUP, before the dose controller's start. -/
def resetPart (u : State) : State := resetBlocks u.settings.build (rereadBuild (closePeriod .restart (finalPart u)))

theorem exec_restart (hu : s.elapse after = u) (ready : restartReady u = true) :
    exec (.restartBegin after) s = .next (started (resetPart u)) := by
  rw [exec_restartBegin, event_at hu ready]
  unfold restartPart
  rw [abandonStrokes_eq]
  rfl

theorem resetPart_settings (u : State) : (resetPart u).settings =
    { u.settings with staged := noneStaged, stagedHeatingValue := none, build := (resetPart u).settings.build } := by
  have before : (closePeriod .restart (finalPart u)).settings = u.settings :=
    (closePeriod_settings _ _).trans (finalPart_keeps u).1
  rw [← before]
  rfl

theorem resetPart_dose (u : State) : (resetPart u).dose = { (finalPart u).dose with
    massInFlight := 0, trimHoldOff := none, lastReading := none
    lastDrive := if u.dose.recentDrive = true then u.dose.lastDrive.map (· - u.now) else none } := by
  have dose : (resetPart u).dose = { (closePeriod .restart (finalPart u)).dose with
      massInFlight := 0, trimHoldOff := none, lastReading := none
      lastDrive := if (closePeriod .restart (finalPart u)).dose.recentDrive = true then
          (closePeriod .restart (finalPart u)).dose.lastDrive.map (· - (closePeriod .restart (finalPart u)).now)
        else none } := rfl
  have now : (closePeriod .restart (finalPart u)).now = u.now := by
    rw [State.now, closePeriod_time, (finalPart_keeps u).2.2.2.2.2.2]
    rfl
  rw [dose, now, closePeriod_dose, finalPart_dose]

/-- The recorder of the period that the restart opens. -/
theorem resetPart_recorder (u : State) : (resetPart u).recorder = { (finalPart u).recorder with
    ring := (finalRecord u :: u.recorder.ring).take 48, lastSequence := some (finalRecord u).sequence
    station := openStation (noModes.mark u.dose.mode) (finalAccount u), lastIndex := 0
    runs := keepFitted u.settings.build.runs (resetPart u).settings.build.runs
      ((finalPart u).recorder.runs.map RunAccumulators.reopened) } := by
  have recorder : (resetPart u).recorder = { (closePeriod .restart (finalPart u)).recorder with
      runs := keepFitted u.settings.build.runs (resetPart u).settings.build.runs
        (closePeriod .restart (finalPart u)).recorder.runs } := rfl
  rw [recorder, closePeriod_recorder, ← (finalPart_books u).1, finalPart_dose]
  rfl

theorem resetPart_runs (u : State) (r : RunId) : (resetPart u).recorder.runs.get r =
    openedAccumulators (decide (r.val < (resetPart u).settings.build.runs) && decide (r.val < u.settings.build.runs))
      (gatheredFinal u r) := by
  rw [resetPart_recorder, ← finalPart_runs, ← keepFitted_reopened]
  simp only [keepFitted, Four.get_tabulate, Four.get_map]
  split <;> rfl

/-- The record of the period ended (R139, R140). -/
theorem finalRecord_figures (u : State) : (finalRecord u).cause = .restart
    ∧ (finalRecord u).sequence = nextSequence u.recorder.lastSequence
    ∧ (finalRecord u).duration = (u.now - u.time.periodOpen).toNat
    ∧ (finalRecord u).intervals = u.time.periodCount + (if Closing u then 1 else 0)
    ∧ (finalRecord u).runs.length = min u.settings.build.runs 4
    ∧ (finalRecord u).lastIndex = (if Closing u then u.time.intervalIndex else u.recorder.lastIndex)
    ∧ (finalRecord u).trim = u.dose.trim ∧ (finalRecord u).accountClose = finalAccount u
    ∧ (finalRecord u).station = (finalPart u).recorder.station
    ∧ (∀ r, u.fitted r = true → HoldsRun (finalRecord u) r (u.run.get r).state (gatheredFinal u r)) := by
  obtain ⟨settings, -, -, -, -, -, time⟩ := finalPart_keeps u
  obtain ⟨-, last, -, index⟩ := finalPart_books u
  have sequence : (finalRecord u).sequence = nextSequence (finalPart u).recorder.lastSequence := rfl
  have duration : (finalRecord u).duration =
      ((finalPart u).time.stationTime - (finalPart u).time.periodOpen).toNat := rfl
  have intervals : (finalRecord u).intervals = (finalPart u).time.periodCount := rfl
  have lastIndex : (finalRecord u).lastIndex = (finalPart u).recorder.lastIndex := rfl
  have trim : (finalRecord u).trim = (finalPart u).dose.trim := rfl
  have account : (finalRecord u).accountClose = (finalPart u).dose.account := rfl
  rw [sequence, duration, intervals, lastIndex, trim, account, last, index, time, finalPart_dose]
  refine ⟨rfl, rfl, rfl, rfl, ?_, rfl, rfl, rfl, rfl, fun r fitted => ?_⟩
  · rw [← settings]
    exact buildRecord_length
  · have held := buildRecord_holds (r := r) (n := (finalPart u).settings.build.runs)
      (figures := ⟨.restart, (finalPart u).time.periodCount, ((finalPart u).now - (finalPart u).time.periodOpen).toNat⟩)
      (states := (finalPart u).run.map (·.state)) (trim := (finalPart u).dose.trim)
      (account := (finalPart u).dose.account) (rec := (finalPart u).recorder)
      (by rw [settings]; simpa [State.fitted] using fitted)
    rwa [Four.get_map, finalPart_run, finalPart_runs] at held

/-! ## What the restart resets (R16, R38, R53, R59, R119, R134) -/

theorem resetPart_pulse (u : State) (r : RunId) :
    (resetPart u).pulse.get r = { freshPulse with holdOff := (u.pulse.get r).holdOff } := by
  have pulse : (resetPart u).pulse = (closePeriod .restart (finalPart u)).pulse.map restartedPulse := rfl
  rw [pulse, closePeriod_pulse, Four.get_map, restartedPulse, finalPart_holdOff]

theorem resetPart_time (u : State) : (resetPart u).time = warmupTime u.time.captureClock := by
  have time : (resetPart u).time = warmupTime (closePeriod .restart (finalPart u)).time.captureClock := rfl
  rw [time, closePeriod_time, (finalPart_keeps u).2.2.2.2.2.2]

theorem resetPart_residue (u : State) (r : RunId) : (resetPart u).conv.residue.get r =
    if r.val < (resetPart u).settings.build.runs ∧ r.val < u.settings.build.runs then
      (if Adds u r then (figuresOf u r).residue else u.conv.residue.get r)
    else 0 := by
  have residue : (resetPart u).conv.residue.get r =
      if r.val < u.settings.build.runs ∧ r.val < (resetPart u).settings.build.runs then
        (closePeriod .restart (finalPart u)).conv.residue.get r
      else 0 := Four.get_tabulate _ r
  rw [residue, closePeriod_conv, finalPart_residue]
  exact if_congr and_comm rfl rfl

theorem resetPart_run (u : State) (r : RunId) : (resetPart u).run.get r =
    if r.val < (resetPart u).settings.build.runs ∧ r.val < u.settings.build.runs ∧ (u.run.get r).state ≠ .out then
      { freshRun with
        state := if (u.runSection r).settleTime = 0 then .degraded else .starting
        settle := (u.runSection r).settleTime }
    else freshRun := by
  have settings : (closePeriod .restart (finalPart u)).settings = u.settings :=
    (closePeriod_settings _ _).trans (finalPart_keeps u).1
  have run : (resetPart u).run.get r = restartedRun u.settings.build.runs (resetPart u).settings.build.runs
      ((closePeriod .restart (finalPart u)).settings.active.run.get r).settleTime r
      ((closePeriod .restart (finalPart u)).run.get r) := Four.get_tabulate _ r
  rw [run, closePeriod_run, settings, restartedRun, finalPart_run, startedRun_eq]
  exact if_congr and_left_comm rfl rfl

theorem resetPart_pump (u : State) (p : Side) : (resetPart u).pump.get p = freshPump
    (if pumpFitted (resetPart u).settings.build.pumps p = false then .absent
      else if pumpFitted u.settings.build.pumps p = false then .ready
      else if (u.pump.get p).state = .driving ∨ (u.pump.get p).state = .await then .ready
      else (u.pump.get p).state) := by
  have closed : (closePeriod .restart (finalPart u)).pump.get p = restartedPump (u.pump.get p) := by
    rw [closePeriod_pump, clearedStrays, (finalPart_keeps u).2.2.2.2.2.1]
    cases p <;> rfl
  have pump : (resetPart u).pump.get p = rebuiltPump u.settings.build.pumps (resetPart u).settings.build.pumps p
      ((closePeriod .restart (finalPart u)).pump.get p) := by
    cases p <;> rfl
  have kept : restartedPump (u.pump.get p) = freshPump
      (if (u.pump.get p).state = .driving ∨ (u.pump.get p).state = .await then .ready else (u.pump.get p).state) := by
    unfold restartedPump
    cases (u.pump.get p).state <;> rfl
  rw [pump, closed, kept, rebuiltPump]
  cases pumpFitted (resetPart u).settings.build.pumps p <;> cases pumpFitted u.settings.build.pumps p <;> rfl

/-- What the restart takes over as the final close leaves it. -/
theorem resetPart_keeps (u : State) : (resetPart u).pins = u.pins ∧ (resetPart u).sense = u.sense
    ∧ (resetPart u).pending = u.pending ∧ (resetPart u).monitors.limitLock = u.monitors.limitLock
    ∧ (resetPart u).recorder.totals = (finalPart u).recorder.totals
    ∧ (resetPart u).recorder.storedThrough = u.recorder.storedThrough := by
  obtain ⟨-, -, sense, pins, pending, -⟩ := finalPart_keeps u
  have parts : (resetPart u).pins = (closePeriod .restart (finalPart u)).pins
      ∧ (resetPart u).sense = (closePeriod .restart (finalPart u)).sense
      ∧ (resetPart u).pending = (closePeriod .restart (finalPart u)).pending
      ∧ (resetPart u).monitors.limitLock = (closePeriod .restart (finalPart u)).monitors.limitLock :=
    ⟨rfl, rfl, rfl, rfl⟩
  rw [parts.1, parts.2.1, parts.2.2.1, parts.2.2.2, closePeriod_pins, closePeriod_sense, closePeriod_pending,
    closePeriod_monitors, resetPart_recorder, pins, sense, pending, finalPart_lock]
  exact ⟨rfl, rfl, rfl, rfl, rfl, (finalPart_books u).2.2.1⟩

/-! ## The store and the build read (R169, R172, R176) -/

/-- The store as the restart's start is served. -/
def listedStore (u : State) : Store :=
  ((u.store.add .ring).add .resume).relist u.settings.unstored u.settings.flagsUnstored

theorem resetPart_store (u : State) : (resetPart u).store = listedStore u := by
  have settings : (closePeriod .restart (finalPart u)).settings = u.settings :=
    (closePeriod_settings _ _).trans (finalPart_keeps u).1
  have store : (resetPart u).store = (closePeriod .restart (finalPart u)).store.relist
      (closePeriod .restart (finalPart u)).settings.unstored
      (closePeriod .restart (finalPart u)).settings.flagsUnstored := rfl
  rw [store, settings, closePeriod_store, (finalPart_keeps u).2.1]
  rfl

theorem listedStore_sections (u : State) (i : SectionId) : (listedStore u).list.sections.get i =
    (u.store.list.sections.get i || u.settings.unstored.get i) := zip_get _ _ _ i

theorem listedStore_writing (u : State) :
    (listedStore u).writing.map (·.content) = u.store.writing.map (·.content) :=
  (add_writing _ _).trans (add_writing _ _)

/-- A write in progress of another item than RING and RESUME goes on as it is. -/
theorem listedStore_goesOn {w : StoreWrite} (h : u.store.writing = some w) (ring : w.content.item ≠ .ring)
    (resume : w.content.item ≠ .resume) : (listedStore u).writing = some w := by
  simp [listedStore, Store.relist, Store.add, h, ring, resume]

/-- With RESUME first on the list, the other items stay listed as the event ends. -/
theorem served_list {b : State} (listed : b.store.list.resume = true) :
    (finish b).store.list = { b.store.list with resume := (finish b).store.list.resume } := by
  have first : b.store.list.first? = some .resume := by simp [WriteList.first?, listed]
  have served : (serveStore b).store.list = { b.store.list with resume := (serveStore b).store.list.resume } := by
    unfold serveStore
    rw [first]
    split
    · rfl
    · split
      · rfl
      · split <;> rfl
  rw [finish_store]
  exact served

theorem started_list (u : State) : (started (resetPart u)).store.list =
    { (listedStore u).list with resume := (started (resetPart u)).store.list.resume } := by
  have store : (startScan (announceRuns (startDosing (resetPart u)))).store = listedStore u := by
    simp [resetPart_store]
  rw [← store]
  exact served_list (by rw [store]; rfl)

theorem started_resume (u : State) : ResumeAdded u (started (resetPart u)) := by
  have store : (startScan (announceRuns (startDosing (resetPart u)))).store = listedStore u := by
    simp [resetPart_store]
  have live : (startScan (announceRuns (startDosing (resetPart u)))).live = true := by
    have phase : (resetPart u).time.phase = .warmup := by rw [resetPart_time]; rfl
    simp [State.live, phase]
  exact resumeAdded_finish u _ live (by rw [store]; rfl) (by rw [store]; exact listedStore_writing u)

theorem started_goesOn {w : StoreWrite} (h : u.store.writing = some w) (ring : w.content.item ≠ .ring)
    (resume : w.content.item ≠ .resume) : (started (resetPart u)).store.writing = some w := by
  have store : (startScan (announceRuns (startDosing (resetPart u)))).store = listedStore u := by
    simp [resetPart_store]
  have going := listedStore_goesOn h ring resume
  rw [started_store, serveStore_busy (by rw [store]; exact going), store, going]

theorem stationListed_iff (st : Store) : stationListed st = true ↔ st.list.sections.station = true
    ∨ st.writing.map (·.content.item) = some (.sectionCopy .station) := by
  unfold stationListed
  cases st.writing <;> simp

theorem resetPart_build (u : State) : (resetPart u).settings.build =
    if u.store.list.sections.station = true ∨ u.settings.unstored.station = true
        ∨ u.store.writing.map (·.content.item) = some (.sectionCopy .station) then
      u.settings.active.station.build
    else match u.store.sections.station with
      | .valid c => c.build
      | _ => factoryBuild := by
  have settings : (closePeriod .restart (finalPart u)).settings = u.settings :=
    (closePeriod_settings _ _).trans (finalPart_keeps u).1
  have build : (resetPart u).settings.build =
      if stationListed (resetPart u).store = true then (closePeriod .restart (finalPart u)).settings.active.station.build
      else storedBuild (resetPart u).store := rfl
  have item : (listedStore u).writing.map (·.content.item) = u.store.writing.map (·.content.item) := by
    have same := congrArg (Option.map StoreContent.item) (listedStore_writing u)
    rwa [Option.map_map, Option.map_map] at same
  have listed : (listedStore u).list.sections.station = (u.store.list.sections.station || u.settings.unstored.station) :=
    listedStore_sections u .station
  rw [build, settings, resetPart_store]
  simp only [stationListed_iff, item, listed, Bool.or_eq_true, or_assoc]
  rfl

/-! ## What the final close leaves -/

theorem started_fitted (u : State) (r : RunId) :
    (started (resetPart u)).fitted r = decide (r.val < (resetPart u).settings.build.runs) := by
  rw [State.fitted, started_settings]

/-- The base volume that the final close adds. -/
theorem base_closing (h : Closing u) :
    (runIds.map fun r => if Adds u r then (resultsOf (figuresOf u r)).base else 0).sum = sumFigures (·.base) u := by
  rw [sumFigures_eq]
  congr 2
  funext r
  exact if_congr (and_iff_right h) rfl rfl

/-- The interval that is to close, with its runs computed, leaves their figures. -/
theorem adds_iff (u : State) (r : RunId) :
    ((u.time.phase == .running && u.age != 0) && decide (Computed u r)) = true ↔ Adds u r := by
  simp [Adds, Closing]

theorem started_station (u : State) : (started (resetPart u)).recorder.station =
    { openStation ((noModes.mark u.dose.mode).mark (started (resetPart u)).dose.mode) (finalAccount u) with
      forgone := finalAccount u - (started (resetPart u)).dose.account } := by
  have mode := (startDosing_keeps (resetPart u)).1
  rw [started_recorder, started_dose, startDosing_recorder, mode, resetPart_recorder, resetPart_dose, finalPart_dose]
  simp [openStation]

theorem finalClose_leaves (u : State) : FinalCloseLeaves u (started (resetPart u)) (finalRecord u) := by
  obtain ⟨-, -, -, -, -, lastIndex, trim, account, station, holds⟩ := finalRecord_figures u
  have totals (r : RunId) : (started (resetPart u)).recorder.totals.get r = (finalPart u).recorder.totals.get r := by
    rw [started_recorder, startDosing_recorder, ← (resetPart_keeps u).2.2.2.2.1]
  have runs (r : RunId) : (started (resetPart u)).recorder.runs.get r = (resetPart u).recorder.runs.get r := by
    rw [started_recorder, startDosing_recorder]
  have residue : (started (resetPart u)).dose.residue =
      if Closing u then owedDividend (sumFigures (·.base) u) u % 1000000000 else u.dose.residue := by
    rw [started_dose, (startDosing_keeps (resetPart u)).2.2.2.1, resetPart_dose, finalPart_dose]
  have fitted (r : RunId) : u.fitted r = decide (r.val < u.settings.build.runs) := rfl
  have closing : (u.time.phase == .running && u.age != 0) = true ↔ Closing u := by simp [Closing]
  refine ⟨.tabulate fun r => entryOf (figuresOf u r), .tabulate fun r => resultsOf (figuresOf u r),
    .tabulate fun r => (figuresOf u r).residue, ?_⟩
  simp only [Four.get_tabulate, adds_iff, closing, ← Bool.not_eq_true, totals, runs, residue, started_conv, started_fitted,
    fitted, decide_eq_true_eq, resetPart_residue, resetPart_runs, finalPart_totals, lastIndex, trim, account, station,
    finalPart_station]
  refine ⟨fun r _ => ⟨runEntry_figures u r, runResults_figures u r⟩, fun _ => trivial, fun _ => trivial,
    fun r within => holds r (decide_eq_true within), fun _ => rfl, trivial, trivial, fun closes => ?_, fun still => ?_⟩
  · rw [base_closing closes, finalAccount, if_pos closes, if_pos closes, if_pos closes]
    exact ⟨rfl, rfl, rfl⟩
  · rw [finalAccount, if_neg still, if_neg still, if_neg still]
    exact ⟨rfl, rfl, rfl⟩

/-! ## The entries of the table -/

/-- The start places an automatic stroke at most, which no class of the station host's or of proofs counts. -/
theorem startDosing_count {y : State} (empty : y.table = emptyTable) {test : Entry → Bool}
    (other : test (strokeEntry (readied y)) = false) : (startDosing y).table.count test = 0 := by
  have none : emptyTable.count test = 0 := rfl
  by_cases auto : startMode y = .auto
  · have table : (readied y).table = emptyTable := empty
    rw [startDosing_auto auto, raise_table]
    by_cases owed : strokeOwed (readied y) = true
    · rw [schedulingCheck_owed owed]
      exact (count_place_other other _).trans (by rw [table, none])
    · rw [schedulingCheck_notOwed owed, table, none]
  · rw [startDosing_off auto]
    exact (congrArg (ActionTable.count test) empty).trans none

end

/-- Settles O6: the final close (`finalPart`), the RESTART close and the resets (`resetPart`), then the start (`started`). -/
theorem restartAnsweredAndBegun : Obligations.RestartAnsweredAndBegun := by
  unfold Obligations.RestartAnsweredAndBegun
  refine ⟨fun s u after tag hu takes => restart_answered hu takes, fun s u after hu ready => ?_⟩
  obtain ⟨cause, sequence, duration, intervals, length, -, -, account, -⟩ := finalRecord_figures u
  obtain ⟨mode, -, kept, -, trim, holdOff, reading, last, recent⟩ := startDosing_keeps (resetPart u)
  obtain ⟨pins, sense, pending, lock, -, through⟩ := resetPart_keeps u
  have settings : (started (resetPart u)).settings = _ := started_settings.trans (resetPart_settings u)
  have time : (started (resetPart u)).time = _ := started_time.trans (resetPart_time u)
  have recorder : (started (resetPart u)).recorder = _ := started_recorder.trans (startDosing_recorder _)
  have list := started_list u
  have start := startMode_iff (resetPart u)
  refine ⟨_, finalRecord u, exec_restart hu (restartReady_iff.mpr ready), ?_⟩
  refine ⟨by rw [recorder, resetPart_recorder], cause, sequence, by rw [recorder, resetPart_recorder], duration, intervals,
    length, finalClose_leaves u, by rw [recorder, ← through], by rw [recorder, resetPart_recorder], ?station,
    by rw [started_conv]; rfl, by rw [started_conv]; rfl, fun r => ?pulse, ?loop, by rw [time]; rfl, ?now,
    by rw [time]; rfl, by rw [time]; rfl, by rw [time]; rfl, by rw [time]; rfl, by rw [time]; rfl, by rw [settings],
    by rw [settings], by rw [settings], by rw [settings], by rw [settings], by rw [settings], by rw [settings],
    by rw [settings], fun i unstored => ?listed, fun unstored => ?flags, by rw [list]; rfl, started_resume u,
    fun w written => started_goesOn written, ?build, by rw [started_monitors, lock], by rw [started_monitors]; rfl,
    fun i => ?run, fun i inService enabled => ?announced, ?trim, ?holdOff, ?reading, ?account, ?mode, ?starts, ?recent,
    ?last, fun p => ?pump, ?aux, ?link, ?confirm, started_queue rfl, by rw [started_pins, pins],
    by rw [started_sense, sense], by rw [started_pending, pending]⟩
  case station => rw [started_station, account]
  case pulse => rw [started_pulse, resetPart_pulse]
  case loop =>
    rw [started_settings]
    exact started_loop
  case now =>
    rw [State.now, time]
    rfl
  case listed =>
    rw [list]
    exact (listedStore_sections u i).trans (by rw [unstored, Bool.or_true])
  case flags =>
    rw [list]
    show (u.store.list.flags || u.settings.flagsUnstored) = true
    rw [unstored, Bool.or_true]
  case build =>
    rw [started_settings]
    exact resetPart_build u
  case run =>
    rw [started_run, resetPart_run, started_fitted]
    simp only [State.fitted, decide_eq_true_eq]
  case announced =>
    rw [started_run] at inService
    rw [started_settings] at enabled
    exact given_announced i inService enabled
  case trim => rw [started_dose, trim, resetPart_dose, finalPart_dose]
  case holdOff => rw [started_dose, holdOff, resetPart_dose]
  case reading => rw [started_dose, reading, resetPart_dose]
  case account => rw [started_dose, kept, mode, account, resetPart_dose, finalPart_dose]
  case mode =>
    rw [started_dose, mode, start, State.odorant, resetPart_settings]
    rfl
  case starts =>
    have starts := startsDosing_started (y := resetPart u) rfl (by rw [resetPart_dose])
    rwa [show (resetPart u).dose.duty = u.dose.duty by rw [resetPart_dose, finalPart_dose]] at starts
  case recent => rw [started_dose, recent, resetPart_dose, finalPart_dose]
  case last => rw [started_dose, last, resetPart_dose]
  case pump =>
    rw [started_pump, State.pumpIsFitted, started_settings]
    exact resetPart_pump u p
  case aux =>
    rw [started_table, startDosing_aux]
    rfl
  case link =>
    rw [started_table]
    exact startDosing_count rfl rfl
  case confirm =>
    rw [started_table]
    exact startDosing_count rfl rfl

end Sys2Proof.Proofs.Restarts
end
